-- ==== Sys2Proof/Word.lean ====
section
/-! DEFINITION. The machine words of the part and the plainest helpers on them: bytes, u16 elements, timebase values (R1). -/

namespace Sys2Proof

/-- A byte on a link. -/
abbrev Byte := BitVec 8

/-- A 16-bit field of a frame or an object: u16, or s16 in two's complement (00_scope.md, Field types). -/
abbrev Word := BitVec 16

/-- A timebase value: microseconds in 32 bits, wrapping at 2^32 (R1, Table 1). -/
abbrev Time := BitVec 32

/-- A frame class, 0x00..0x3F (Table 1-1). -/
abbrev Class := BitVec 6

/-- R1, Intervals: the difference of two timebase values taken modulo 2^32. -/
def elapsed (now since : Time) : Nat := (now - since).toNat

/-- Element `i` of a fixed table, and `d` for a number that names no element. -/
def look {α : Type} {n : Nat} (v : Vector α n) (i : Nat) (d : α) : α := v[i]?.getD d

/-- A table with element `i` replaced; a number that names no element leaves it. -/
def put {α : Type} {n : Nat} (v : Vector α n) (i : Nat) (x : α) : Vector α n := v.setIfInBounds i x

/-- A function applied to every element of a fixed table. -/
def mapAll {α β : Type} {n : Nat} (f : α → β) (v : Vector α n) : Vector β n :=
  ⟨(v.toList.map f).toArray, by simp⟩

@[simp] theorem look_put_same {α : Type} {n : Nat} (v : Vector α n) (i : Nat) (x d : α) (h : i < n) :
    look (put v i x) i d = x := by
  simp [look, put, h]

@[simp] theorem look_put_other {α : Type} {n : Nat} (v : Vector α n) (i j : Nat) (x d : α) (h : i ≠ j) :
    look (put v i x) j d = look v j d := by
  simp [look, put, h]

@[simp] theorem look_mapAll {α β : Type} {n : Nat} (f : α → β) (v : Vector α n) (i : Nat) (d : α) (e : β)
    (h : i < n) : look (mapAll f v) i e = f (look v i d) := by
  simp [look, mapAll, h]

end Sys2Proof
end

