-- ==== Sys2Proof/Config.lean ====
section
/-! DEFINITION. The fixed quantities of the part: capacities (Table 1-15, Table 10-5), the times its timers run, the bounds of its arithmetic. The spec leaves no value of an effect open, so there is no free value here (log 5 for the open orders). -/

namespace Sys2Proof.Config

/-- Table 1-15: a forwarded queue holds 8 frames. -/
def forwardedCapacity : Nat := 8
/-- Table 1-15: a local queue holds 4 frames. -/
def localCapacity : Nat := 4
/-- R159: the request queue holds two requests. -/
def requestCapacity : Nat := 2
/-- R109: the correction list holds 8 records. -/
def correctionCapacity : Nat := 8

/-- R1: 1000 µs to the millisecond. -/
def msMicros : Nat := 1000
/-- R5: a frame times out when more than 100 µs pass between bytes. -/
def byteGapMicros : Nat := 100
/-- 01_the_drive_link.md: one byte occupies the line for 10 µs. -/
def byteMicros : Nat := 10
/-- R23: 500 ms with no good frame at Port C. -/
def controllerSilentMicros : Nat := 500000
/-- R23: 100 ms with no DRIVE STATUS at Port D. -/
def driveSilentMicros : Nat := 100000
/-- R24: the orphan stop is repeated every 100 ms. -/
def orphanMicros : Nat := 100000
/-- R30: 20 ms with no SAMPLE. -/
def sensorLossMicros : Nat := 20000
/-- R135: a bleed period is 100 ms. -/
def bleedMicros : Nat := 100000
/-- R157: the monitor period is 1000 ms. -/
def monitorMicros : Nat := 1000000
/-- R133: a stray run breaks at a gap of more than 1000 ms. -/
def strayGapMicros : Nat := 1000000

/-- R40: no interval below 45,000 µs is accepted. -/
def minPeriod : Nat := 45000
/-- R41, R42: no interval above 2,000,000 µs gives a period. -/
def maxPeriod : Nat := 2000000

/-- 00_scope.md, Basket angle: 65536 au to one revolution. -/
def turn : Nat := 65536

end Sys2Proof.Config
end

