-- ==== Sys2Proof/Syntax.lean ====
section
/-! DEFINITION. The commands of the part: one constructor of `Instr` per row of spec/opcode_table.json, with its operands. -/

namespace Sys2Proof

/-- The three links with a receive framer (R4). -/
inductive Link where
  /-- Port C, from the appliance controller (RXC). -/
  | portC
  /-- Port D, from the motor drive (RXD). -/
  | portD
  /-- Port S, from the tub sensor module (RXS). -/
  | portS
  deriving DecidableEq, Repr

/-- The two ports that receive and transmit. -/
inductive Port where
  | c
  | d
  deriving DecidableEq, Repr

/-- The two switch inputs (Table 2-1). -/
inductive Switch where
  | lid
  | strike
  deriving DecidableEq, Repr

/-- Trip causes (Table 1-10), code 0 being none. -/
inductive Cause where
  | strike
  | lid
  | mass
  | overspeed
  | drive
  deriving DecidableEq, Repr

/-- The actions of the class table (Table 1-11). -/
inductive Action where
  | pass
  | drop
  | govern
  | inspect
  | consume
  deriving DecidableEq, Repr

/-- A byte as it arrives at a receive pin: its value, and whether its stop bit was high (R4, R5). -/
structure LineByte where
  value : Byte
  stopHigh : Bool
  deriving DecidableEq, Repr

/-- DESIGN CHOICE (log 5), safe: the orders inside one step that the rules leave open. Nothing in the model picks
one; every statement about a command holds for all of them. A list of numbers is a code for an order: at each place
it says which of the things still to do comes next (`arrange`); the empty list is the order in which the model lists
them. -/
structure Choice where
  /-- Order of the governor, the session controller, the trip unit and the event unit at a revolution close
  (R67, R90, R143, R155). -/
  close : List Nat
  /-- Order of what follows a change of the drive status record or of the speed (R11, R23, R47). -/
  readers : List Nat
  /-- Order of the four blocks to which a change of the angle's validity is handed (R47). -/
  angle : List Nat
  /-- Order of the event unit and the blocks to which a change of the estimator's validity is handed (R63, R67, R68). -/
  estimate : List Nat
  /-- Order of the event unit and the governor at an entry to a session state, with the judging under R100 at an entry to
  CLIMB and the trip unit at a departure from IDLE (R100, R116, R117, R139). -/
  session : List Nat
  /-- Order of the blocks to which the setting or the clearing of the trip latch is handed (R142, R145). -/
  trip : List Nat
  /-- Order of the effects of one accepted WRITE, of one change of a switch input, of one change of a silence condition, of
  the session's act and the demand's queuing at an orphan stop and at each of its repetitions, and of the sequence check
  and the silence timer at a frame taken at Port C (R6, R23, R24, R31, R37, R38, R164). -/
  effects : List Nat
  /-- Order of QUEUE_OVERFLOW and the DROPS occurrence at a frame dropped from a full forwarded queue (R13, R14). -/
  drop : List Nat
  /-- Of two trip causes found together, the one taken first (R143). -/
  cause : Cause
  /-- At a NO_FLOW end in CORRECT, whether INJECTION_FAULT meets the event unit after the session's entry to SETTLE
  (R134). -/
  faultLast : Bool
  deriving DecidableEq, Repr

/-- The choice whose every order is the one in which the model lists the things to do. POWER_ON_RESET, which carries no
moment, takes it (log 32). -/
def Choice.listed : Choice :=
  { close := [], readers := [], angle := [], estimate := [], session := [], trip := [], effects := [], drop := []
    cause := .strike, faultLast := false }

/-- DESIGN CHOICE (log 1), safe: the moment of a command. `elapsed` is the time in µs since the command before it
(the timebase advances by it, modulo 2^32); `choice` settles the orders left open. -/
structure Moment where
  elapsed : Time
  choice : Choice
  deriving DecidableEq, Repr

/-- One constructor per row of spec/opcode_table.json, in the table's order. -/
inductive Instr where
  /-- POWER_ON_RESET (R4 and every block's reset rule): RESET_N returns high. -/
  | powerOnReset
  /-- FRAME_ERROR (R5): a byte arrives at a framer and reveals a fault. -/
  | frameError (m : Moment) (link : Link) (byte : LineByte)
  /-- FRAME_TIMEOUT (R5): more than 100 µs have passed since the last byte of a frame under assembly. -/
  | frameTimeout (m : Moment) (link : Link)
  /-- SPEED_DEMAND_TAKEN (R10): the fields of Table 1-2, as received. -/
  | speedDemandTaken (m : Moment) (seq : Byte) (target ramp : Word) (mode flags : Byte)
  /-- DRIVE_STATUS_TAKEN (R11): the fields of Table 1-4, as received. -/
  | driveStatusTaken (m : Moment) (seq : Byte) (speed torque bus : Word) (driveState driveFault : Byte)
  /-- MANAGEMENT_REQUEST_TAKEN (R159): the fields of Table 1-5. -/
  | managementRequestTaken (m : Moment) (seq tag op object index : Byte) (data : List Byte)
  /-- PASS_FRAME_TAKEN (R9): any frame whose class entry directs PASS for its port. -/
  | passFrameTaken (m : Moment) (port : Port) (cls : Class) (seq : Byte) (payload : List Byte)
  /-- DROP_FRAME_TAKEN (R9): any frame whose class entry directs DROP for its port. -/
  | dropFrameTaken (m : Moment) (port : Port) (cls : Class) (seq : Byte) (payload : List Byte)
  /-- SAMPLE_TAKEN (R25): the fields of Table 1-3. -/
  | sampleTaken (m : Moment) (seq count : Byte) (ax ay az : Word)
  /-- TRANSMIT_END (R16): the stop bit of the low check byte has left the port. -/
  | transmitEnd (m : Moment) (port : Port)
  /-- CONTROLLER_SILENT (R23). -/
  | controllerSilent (m : Moment)
  /-- ORPHAN_STOP_REPEAT (R24). -/
  | orphanStopRepeat (m : Moment)
  /-- DRIVE_SILENT (R23). -/
  | driveSilent (m : Moment)
  /-- SENSOR_LOSS (R30). -/
  | sensorLoss (m : Moment)
  /-- SWITCH_RAW_CHANGE (R34): the raw level of the input changes. -/
  | switchRawChange (m : Moment) (switch : Switch)
  /-- DEBOUNCE_EXPIRY (R35). -/
  | debounceExpiry (m : Moment) (switch : Switch)
  /-- INDEX_PULSE (R40): a rising edge on IDX. -/
  | indexPulse (m : Moment)
  /-- INDEX_LOST (R46). -/
  | indexLost (m : Moment)
  /-- VALVE_WINDOW_EDGE (R126). -/
  | valveWindowEdge (m : Moment)
  /-- FLOW_PULSE (R127): a rising edge on FLOW. -/
  | flowPulse (m : Moment)
  /-- FLOW_TIMEOUT (R129). -/
  | flowTimeout (m : Moment)
  /-- FLOW_TAIL_EXPIRY (R132). -/
  | flowTailExpiry (m : Moment)
  /-- BLEED_PERIOD (R135). -/
  | bleedPeriod (m : Moment)
  /-- MONITOR_PERIOD_EXPIRY (R157). -/
  | monitorPeriodExpiry (m : Moment)
  /-- READ (R163): the agent executes the front request, a READ. -/
  | read (m : Moment)
  /-- WRITE (R164): the agent executes the front request, a WRITE. -/
  | write (m : Moment)
  /-- SET_BITS (R165). -/
  | setBits (m : Moment)
  /-- CLEAR_BITS (R165). -/
  | clearBits (m : Moment)
  /-- ACKNOWLEDGE_IF (R166). -/
  | acknowledgeIf (m : Moment)
  /-- TRANSFER (R167). -/
  | transfer (m : Moment)
  /-- CLEAR_TRIP (R145). -/
  | clearTrip (m : Moment)
  /-- QUERY (R168). -/
  | query (m : Moment)
  /-- SOFT_RESET (R169). -/
  | softReset (m : Moment)
  /-- UNKNOWN_OP (R160, R161): the front request's operation byte is not 1..9. -/
  | unknownOp (m : Moment)
  /-- BYTE_RECEIVED (R4): a byte arrives at a framer, completes no frame and reveals no fault. -/
  | byteReceived (m : Moment) (link : Link) (byte : LineByte)
  /-- RESET_N_LOW (R16): RESET_N goes low and holds the part in power-on reset. -/
  | resetNLow
  deriving DecidableEq, Repr

end Sys2Proof
end

