-- ==== Sys2Proof/Decode.lean ====
section
/-! DEFINITION. The command that a word spells by the table's bits. No row of spec/opcode_table.json gives bits (98_reader.md: no row has fixed bits or fields), so no word spells a command (log 26). -/

namespace Sys2Proof

/-- No row of the opcode table gives bits: every word is refused. -/
def decodeTableWord (_nbits _w : Nat) : Option Instr := none

end Sys2Proof
end

