-- ==== Sys2Proof/Machine/Arith.lean ====
section
/-! DEFINITION. The arithmetic of the part: the terms of R1, the square root of R60, the sine table of R51 and its reading R52, the check of R2, and the orders of a step that are left open (log 5). -/

namespace Sys2Proof.Machine

/-- R1: a value clamped to the range lo..hi. -/
def clampInt (lo hi v : Int) : Int := if v < lo then lo else if hi < v then hi else v

/-- R1: a value clamped to the range lo..hi. -/
def clampNat (lo hi v : Nat) : Nat := if v < lo then lo else if hi < v then hi else v

/-- R1, round: a / b to the nearest integer, halves away from zero; b is above 0. -/
def roundDiv (a : Int) (b : Nat) : Int :=
  if a < 0 then -(((2 * a.natAbs + b) / (2 * b) : Nat) : Int) else (((2 * a.natAbs + b) / (2 * b) : Nat) : Int)

/-- R1, floor: a / b toward minus infinity; b is above 0. -/
def floorDiv (a : Int) (b : Nat) : Int := a / (b : Int)

/-- R1, trunc: a / b toward zero. -/
def truncDiv (a : Int) (b : Nat) : Int := a.tdiv (b : Int)

/-- One place of the root search: bit `i` is kept when the square still does not exceed `n`. -/
def isqrtStep (n r i : Nat) : Nat := if (r + 2 ^ i) * (r + 2 ^ i) ≤ n then r + 2 ^ i else r

/-- The root search over the bits below `bits`, the highest first. -/
def isqrtFrom (n : Nat) : Nat → Nat → Nat
  | 0, r => r
  | i + 1, r => isqrtFrom n i (isqrtStep n r i)

/-- R60: the greatest integer whose square does not exceed `n`, for `n` below 2^34. -/
def isqrt (n : Nat) : Nat := isqrtFrom n 17 0

/-- R1, Speed bands: min(31, |speed| div 40). -/
def bandOf (speed : Int) : Nat := min 31 (speed.natAbs / 40)

/-! ### The sine table -/

/-- R51: entries 0..256, the first quarter: round(16384 × sin(2πk/1024)), worked out from the formula (DEDUCED,
log 31). -/
def sineQuarter : List Nat :=
  [0, 101, 201, 302, 402, 503, 603, 704, 804, 904, 1005, 1105, 1205, 1306, 1406, 1506] ++
  [1606, 1706, 1806, 1906, 2006, 2105, 2205, 2305, 2404, 2503, 2603, 2702, 2801, 2900, 2999, 3098] ++
  [3196, 3295, 3393, 3492, 3590, 3688, 3786, 3883, 3981, 4078, 4176, 4273, 4370, 4467, 4563, 4660] ++
  [4756, 4852, 4948, 5044, 5139, 5235, 5330, 5425, 5520, 5614, 5708, 5803, 5897, 5990, 6084, 6177] ++
  [6270, 6363, 6455, 6547, 6639, 6731, 6823, 6914, 7005, 7096, 7186, 7276, 7366, 7456, 7545, 7635] ++
  [7723, 7812, 7900, 7988, 8076, 8163, 8250, 8337, 8423, 8509, 8595, 8680, 8765, 8850, 8935, 9019] ++
  [9102, 9186, 9269, 9352, 9434, 9516, 9598, 9679, 9760, 9841, 9921, 10001, 10080, 10159, 10238, 10316] ++
  [10394, 10471, 10549, 10625, 10702, 10778, 10853, 10928, 11003, 11077, 11151, 11224, 11297, 11370, 11442, 11514] ++
  [11585, 11656, 11727, 11797, 11866, 11935, 12004, 12072, 12140, 12207, 12274, 12340, 12406, 12472, 12537, 12601] ++
  [12665, 12729, 12792, 12854, 12916, 12978, 13039, 13100, 13160, 13219, 13279, 13337, 13395, 13453, 13510, 13567] ++
  [13623, 13678, 13733, 13788, 13842, 13896, 13949, 14001, 14053, 14104, 14155, 14206, 14256, 14305, 14354, 14402] ++
  [14449, 14497, 14543, 14589, 14635, 14680, 14724, 14768, 14811, 14854, 14896, 14937, 14978, 15019, 15059, 15098] ++
  [15137, 15175, 15213, 15250, 15286, 15322, 15357, 15392, 15426, 15460, 15493, 15525, 15557, 15588, 15619, 15649] ++
  [15679, 15707, 15736, 15763, 15791, 15817, 15843, 15868, 15893, 15917, 15941, 15964, 15986, 16008, 16029, 16049] ++
  [16069, 16088, 16107, 16125, 16143, 16160, 16176, 16192, 16207, 16221, 16235, 16248, 16261, 16273, 16284, 16295] ++
  [16305, 16315, 16324, 16332, 16340, 16347, 16353, 16359, 16364, 16369, 16373, 16376, 16379, 16381, 16383, 16384] ++
  [16384]

/-- R51: entry k of the sine table, 0 ≤ k < 1024, by the two symmetries the rule states. -/
def sineEntry (k : Nat) : Int :=
  if k ≤ 256 then (sineQuarter.getD k 0 : Nat)
  else if k ≤ 512 then (sineQuarter.getD (512 - k) 0 : Nat)
  else if k ≤ 768 then -(sineQuarter.getD (k - 512) 0 : Nat)
  else -(sineQuarter.getD (1024 - k) 0 : Nat)

/-- R52: the sine of an angle in au. -/
def sinAu (theta : Nat) : Int := sineEntry (theta / 64)

/-- R52: the cosine of an angle in au. -/
def cosAu (theta : Nat) : Int := sineEntry ((theta / 64 + 256) % 1024)

/-! ### The frame check -/

/-- R2: one message bit into the check register. -/
def crcBit (crc : Word) (bit : Bool) : Word :=
  if (crc.msb != bit) then (crc <<< 1) ^^^ 0x1021#16 else crc <<< 1

/-- R2: one byte into the check register, most significant bit first. -/
def crcByte (crc : Word) (b : Byte) : Word :=
  [7, 6, 5, 4, 3, 2, 1, 0].foldl (fun c i => crcBit c (b.getLsbD i)) crc

/-- R2: the check over a run of bytes; the register starts with all sixteen bits at one. -/
def crc (bytes : List Byte) : Word := bytes.foldl crcByte 0xFFFF#16

/-! ### Open orders -/

/-- The order a code spells: each number says which of the things still to do comes next. -/
def arrangeFrom {α : Type} : Nat → List Nat → List α → List α
  | 0, _, _ => []
  | n + 1, code, todo =>
    match todo[code.headD 0 % todo.length]? with
    | none => []
    | some x => x :: arrangeFrom n code.tail (todo.eraseIdx (code.headD 0 % todo.length))

/-- Log 5: `todo` in the order that `code` spells; the empty code keeps the order as it is. -/
def arrange {α : Type} (code : List Nat) (todo : List α) : List α := arrangeFrom todo.length code todo

/-- Log 5: `x` put among the things to do, at the place that the number says. -/
def placed {α : Type} (n : Nat) (x : α) (todo : List α) : List α := todo.insertIdx (n % (todo.length + 1)) x

/-- Log 5: `todo` with `x` moved to the front if it is there. -/
def preferred {α : Type} [DecidableEq α] (x : α) (todo : List α) : List α :=
  if todo.contains x then x :: todo.filter (· ≠ x) else todo

end Sys2Proof.Machine
end

