-- ==== Sys2Proof/Machine/State.lean ====
section
/-! DEFINITION. The whole state of the part as plain data, block by block in the order of the chapters, and `State.reset`, the state as the part leaves power-on reset. Each field names the rule that gives it. -/

namespace Sys2Proof.Machine

/-- No command stops the part: every error the spec describes (a frame error R5, a refused request Table 10-1, a trip
R142) is an effect on the state. The type has no constructor. -/
inductive Fault where
  deriving DecidableEq, Repr

/-- Raised by `exec`'s dispatch alone, for a command with no meaning yet. No command is left so. -/
inductive Refusal where
  /-- Safe: the command named has no meaning in the model; the dispatch raises it. -/
  | notModelled (mnemonic : String)
  deriving DecidableEq, Repr

/-! ### Chapter 1: the drive link -/

/-- R4: the four states of a receive framer. -/
inductive FramerPhase where
  | hunt
  | header
  | payload
  | check
  deriving DecidableEq, Repr

/-- R4: a receive framer. `stored` holds the bytes of the frame under assembly, the start byte first. -/
structure Framer where
  phase : FramerPhase
  stored : List Byte
  /-- Arrival time of the last byte received from the line (R4, R5). -/
  lastByte : Time
  /-- The length announced by the frame's length byte (R4). -/
  length : Nat
  deriving DecidableEq, Repr

/-- R7: the receive side's sequence check. -/
structure RxCheck where
  lastSeq : Byte
  armed : Bool
  deriving DecidableEq, Repr

/-- R8: the action of an ordinary class entry. -/
inductive Disposal where
  | pass
  | drop
  deriving DecidableEq, Repr

/-- R8: a class table entry, one action for each receiving port. The six fixed entries are hard-wired (log 21). -/
structure ClassEntry where
  atC : Disposal
  atD : Disposal
  deriving DecidableEq, Repr

/-- R10: the requested demand record; the mode byte as received. -/
structure Requested where
  mode : Byte
  target : Int
  deriving DecidableEq, Repr

/-- R11: the drive status record. It is fresh exactly while DRIVE_SILENT is false. -/
structure DriveRecord where
  speed : Int
  torque : Int
  time : Time
  deriving DecidableEq, Repr

/-- R23, R24: the silence timers of Ports C and D, their conditions, and ORPHAN STOP with the time of its entry or of
its last repetition. -/
structure Silence where
  controllerSince : Time
  controllerSilent : Bool
  driveSince : Time
  driveSilent : Bool
  orphan : Option Time
  deriving DecidableEq, Repr

/-- R12: a waiting frame. `changed` is the changed-on-receipt mark of R10, `restated` the mark of a restated demand. -/
structure QFrame where
  cls : Class
  payload : List Byte
  changed : Bool
  restated : Bool
  deriving DecidableEq, Repr

/-- R16: a transmission in progress: the frame's bytes as they leave, and the transmit start time. -/
structure Sending where
  bytes : List Byte
  start : Time
  deriving DecidableEq, Repr

/-- R18: the two queues the Port C mark can name. -/
inductive Served where
  | forwarded
  | localQ
  deriving DecidableEq, Repr

/-- R12, R15, R16, R18: the transmit side of Port C. -/
structure PortC where
  forwardedQ : List QFrame
  localQ : List QFrame
  seq : Byte
  sending : Option Sending
  mark : Served
  deriving DecidableEq, Repr

/-- R12, R13, R16, R17: the transmit side of Port D. -/
structure PortD where
  forwardedQ : List QFrame
  localQ : List QFrame
  seq : Byte
  sending : Option Sending
  deriving DecidableEq, Repr

/-- Table 1-2: the demand modes. -/
inductive Mode where
  | stop
  | agitate
  | spin
  | coast
  deriving DecidableEq, Repr

/-- R21: the standing demand record. -/
structure Standing where
  mode : Mode
  target : Int
  ramp : Nat
  governed : Bool
  deriving DecidableEq, Repr

/-! ### Chapter 2: sensor intake and switch inputs -/

/-- R28: the last sample record. -/
structure SampleRecord where
  present : Bool
  count : Byte
  ax : Int
  ay : Int
  az : Int
  saturated : Bool
  timestamp : Time
  deriving DecidableEq, Repr

/-- R28, R29, R30: the sensor intake. `since` is the start of the sensor silence timer, `loss` is SENSOR_LOSS. -/
structure Intake where
  since : Time
  loss : Bool
  last : SampleRecord
  lastCount : Byte
  armed : Bool
  deriving DecidableEq, Repr

/-- R33: a switch input's debounce context, and the raw level on its pin. `true` is high. -/
structure Debounce where
  raw : Bool
  debounced : Bool
  pending : Bool
  since : Time
  deriving DecidableEq, Repr

/-! ### Chapter 3: drum angle -/

/-- Table 3-1. -/
inductive TrackerState where
  | untimed
  | timing
  | locked
  | held
  deriving DecidableEq, Repr

/-- R39: the angle tracker. -/
structure Tracker where
  state : TrackerState
  lastIndex : Option Time
  period : Option Nat
  mismatch : Nat
  deriving DecidableEq, Repr

/-! ### Chapter 4: imbalance estimator -/

/-- Table 4-1. -/
inductive EstState where
  | invalid
  | priming
  | valid
  deriving DecidableEq, Repr

/-- Table 4-1, R56: an open accumulation. -/
structure Accumulation where
  i : Int
  q : Int
  n : Nat
  deriving DecidableEq, Repr

/-- R53: the estimator state of Table 4-1. -/
structure Estimator where
  state : EstState
  acc : Option Accumulation
  seed : Bool
  priming : Nat
  fx : Int
  fy : Int
  m16 : Nat
  band : Nat
  u : Nat
  thin : Nat
  deriving DecidableEq, Repr

/-- R69, Table 4-2. -/
inductive WeighState where
  | disarmed
  | armed
  | done
  | failed
  deriving DecidableEq, Repr

/-- R69: the weighing context. -/
structure Weighing where
  state : WeighState
  cSum : Int
  n : Nat
  tFirst : Time
  sFirst : Int
  tLast : Time
  sLast : Int
  j : Nat
  deriving DecidableEq, Repr

/-! ### Chapter 5: speed envelope -/

/-- R76: governor state. `spin` and `agitate` are the effective ceilings; that of STOP and COAST is 0. -/
structure Governor where
  eHeld : Nat
  eNew : Nat
  rise : Nat
  spin : Nat
  agitate : Nat
  deriving DecidableEq, Repr

/-! ### The loaded tables, the settings and the limits (Tables 10-2 and 10-3) -/

/-- The tables: objects 0x10 to 0x15 (R77, R78, R62, R107, R94, R74). -/
structure Tables where
  envelope : Vector Nat 128
  rampLimit : Vector Nat 32
  gain : Vector Nat 32
  phase : Vector Nat 32
  plateau : Vector Nat 36
  weighThresh : Vector Nat 3
  deriving DecidableEq, Repr

/-- Table 10-3: the spin settings, in the order of object 0x20. -/
structure SpinSettings where
  blindCeiling : Nat
  agitateLimit : Nat
  retainSpeed : Nat
  filterShift : Nat
  primeRevs : Nat
  hystRevs : Nat
  downRamp : Nat
  defaultClass : Nat
  weighLo : Nat
  weighHi : Nat
  maxRedist : Nat
  chamberCap : Nat
  flowGrams : Nat
  flowTimeout : Nat
  flowTail : Nat
  bleedRate : Nat
  nozzleOffset : Nat
  guardAngle : Nat
  valveLead : Nat
  sensorLatency : Nat
  tripRamp : Nat
  deriving DecidableEq, Repr

/-- Object 0x21, elements 0..2; elements 3 and 4 stand in the monitor counter. -/
structure ServiceSettings where
  reportEvery : Nat
  debounceLid : Nat
  debounceStrike : Nat
  deriving DecidableEq, Repr

/-- R87, R140: the write-once limits ABS_LIMIT and TRIP_MASS, `none` while unset. -/
structure Limits where
  abs : Option Nat
  mass : Option Nat
  deriving DecidableEq, Repr

/-! ### Chapter 6: spin sessions and plateaus -/

/-- Table 1-9. -/
inductive SessionState where
  | idle
  | climb
  | dwell
  | correct
  | settle
  | opened
  | limited
  | holdDown
  | rundown
  | tripped
  deriving DecidableEq, Repr

/-- R96: the progress record of one plateau entry. -/
structure Progress where
  passed : Bool
  attempts : Nat
  uLast : Nat
  deriving DecidableEq, Repr

/-- R109, Table 7-2: outcomes of an injection. -/
inductive InjOutcome where
  | inProgress
  | done
  | chamberFull
  | noFlow
  | aborted
  deriving DecidableEq, Repr

/-- R109: a correction record. -/
structure Correction where
  plateau : Fin 6
  chamber : Fin 4
  requested : Nat
  credited : Nat
  outcome : InjOutcome
  uPlan : Nat
  deriving DecidableEq, Repr

/-- R96: the session controller's state. -/
structure Session where
  state : SessionState
  failed : Option (Fin 6)
  dwell : Nat
  settle : Nat
  progress : Vector Progress 6
  redist : Nat
  corrections : List Correction
  /-- R101, the model's own form of it (log 18): the revolution now running began before the entry to DWELL or
  SETTLE, so it does not count. -/
  midRev : Bool
  deriving DecidableEq, Repr

/-! ### Chapter 7: balance ring -/

/-- Table 7-2: context states. -/
inductive CtxState where
  | none
  | active
  | tail
  | closed
  deriving DecidableEq, Repr

/-- Table 7-2: the injection context. -/
structure InjContext where
  state : CtxState
  chamber : Fin 4
  requested : Nat
  credited : Nat
  tailCredited : Nat
  start : Time
  lastPulse : Time
  endTime : Time
  outcome : InjOutcome
  deriving DecidableEq, Repr

/-- R120: the ring controller's state. `lead` is the lead of R125, `bleed` the start of the running bleed period
(`none`: stopped), `valve` the VALVE line (`true`: open). -/
structure Ring where
  contents : Vector Nat 4
  available : Bool
  ctx : InjContext
  lead : Nat
  strayCount : Nat
  strayTime : Time
  bleed : Option Time
  valve : Bool
  deriving DecidableEq, Repr

/-! ### Chapter 8: trips -/

/-- Table 8-1: one mark for each cause. -/
structure CauseSet where
  strike : Bool
  lid : Bool
  mass : Bool
  overspeed : Bool
  drive : Bool
  deriving DecidableEq, Repr

/-- Table 8-1: speed source. -/
inductive SpeedSource where
  | index
  | drive
  | unknown
  deriving DecidableEq, Repr

/-- R138: the trip latch and the trip record; `line` is the TRIP line (R144). -/
structure Trip where
  latch : Bool
  line : Bool
  first : Option Cause
  causes : CauseSet
  speed : Int
  source : SpeedSource
  u : Nat
  deriving DecidableEq, Repr

/-! ### Chapter 9: events and reports -/

/-- Table 9-1: the event kinds. -/
inductive Kind where
  | estimateValid
  | governing
  | plateauPassed
  | redistribute
  | limited
  | injectionFault
  | ringFull
  | indexLoss
  | sensorLoss
  | driveSilent
  | controllerSilent
  | trip
  | lidOpen
  | strike
  | queueOverflow
  | counterSaturated
  deriving DecidableEq, Repr

/-- R148, R153, R155: the event unit. Bit k of each word is for kind k (Table 10-4); an edge bit of 0 is RISING. -/
structure Events where
  live : Word
  latch : Word
  report : Word
  attention : Word
  edge : Word
  counts : Vector Byte 16
  /-- The ATTN line (R153). -/
  attn : Bool
  revNumber : Word
  reportCount : Nat
  deriving DecidableEq, Repr

/-- Table 9-2: the monitor counter's sources. -/
inductive Source where
  | frameErrC
  | frameErrD
  | frameErrS
  | seqGap
  | drops
  | indexGlitch
  deriving DecidableEq, Repr

/-- R156: the monitor counter; `auto` is the mode AUTO, `timer` the start of the running period. -/
structure Monitor where
  count : Nat
  holding : Nat
  source : Source
  auto : Bool
  timer : Option Time
  deriving DecidableEq, Repr

/-! ### Chapter 10: management requests -/

/-- Table 1-5: a management request as it waits (R159). -/
structure Request where
  tag : Byte
  op : Byte
  object : Byte
  index : Byte
  data : List Byte
  deriving DecidableEq, Repr

/-! ### The state -/

/-- Every piece of state the spec gives the part, and the queue of commands that wait (`pending`, the model's own). -/
structure State where
  now : Time
  /-- RESET_N is low: the part is held in power-on reset (R16, Pins; log 14). -/
  held : Bool
  framerC : Framer
  framerD : Framer
  framerS : Framer
  rxC : RxCheck
  rxD : RxCheck
  classTable : Vector ClassEntry 64
  requested : Requested
  drive : DriveRecord
  silence : Silence
  portC : PortC
  portD : PortD
  standing : Standing
  intake : Intake
  lid : Debounce
  strike : Debounce
  tracker : Tracker
  est : Estimator
  weigh : Weighing
  loadClass : Nat
  gov : Governor
  tables : Tables
  spin : SpinSettings
  service : ServiceSettings
  limits : Limits
  session : Session
  ring : Ring
  trip : Trip
  events : Events
  monitor : Monitor
  requests : List Request
  pending : List Instr
  deriving DecidableEq, Repr

/-! ### Reset values -/

/-- R4 after power-on reset; the time and the length have no stated value (log 19). -/
def Framer.reset : Framer := { phase := .hunt, stored := [], lastByte := 0, length := 0 }

/-- R7: after either reset. -/
def RxCheck.reset : RxCheck := { lastSeq := 0, armed := false }

/-- R8: SAMPLE, class 0x21, holds DROP both ways and every other ordinary entry PASS both ways. -/
def classTableReset : Vector ClassEntry 64 :=
  (Vector.replicate 64 { atC := .pass, atD := .pass }).set 0x21 { atC := .drop, atD := .drop }

/-- R12, R16, R18: after either reset. -/
def PortC.reset : PortC := { forwardedQ := [], localQ := [], seq := 0, sending := none, mark := .forwarded }

/-- R12, R16: after either reset. -/
def PortD.reset : PortD := { forwardedQ := [], localQ := [], seq := 0, sending := none }

/-- R21: after either reset. -/
def Standing.reset : Standing := { mode := .stop, target := 0, ramp := 1, governed := false }

/-- R28: after either reset. -/
def SampleRecord.reset : SampleRecord :=
  { present := false, count := 0, ax := 0, ay := 0, az := 0, saturated := false, timestamp := 0 }

/-- R39: after either reset. -/
def Tracker.reset : Tracker := { state := .untimed, lastIndex := none, period := none, mismatch := 0 }

/-- R53, Table 4-1: after either reset. -/
def Estimator.reset : Estimator :=
  { state := .invalid, acc := none, seed := true, priming := 0, fx := 0, fy := 0, m16 := 0, band := 0, u := 0, thin := 0 }

/-- R69: after either reset. -/
def Weighing.reset : Weighing :=
  { state := .disarmed, cSum := 0, n := 0, tFirst := 0, sFirst := 0, tLast := 0, sLast := 0, j := 0 }

/-- R77, R78, R62, R107, R94, R73: the tables after power-on reset. -/
def Tables.reset : Tables :=
  { envelope := Vector.replicate 128 0, rampLimit := Vector.replicate 32 0, gain := Vector.replicate 32 256,
    phase := Vector.replicate 32 0, plateau := Vector.replicate 36 0, weighThresh := Vector.replicate 3 0 }

/-- The defaults of R92, R118, R54, R74, R136, R26, R147 and section 10.3. -/
def SpinSettings.reset : SpinSettings :=
  { blindCeiling := 100, agitateLimit := 180, retainSpeed := 70, filterShift := 2, primeRevs := 3, hystRevs := 8,
    downRamp := 120, defaultClass := 3, weighLo := 60, weighHi := 120, maxRedist := 3, chamberCap := 400,
    flowGrams := 4, flowTimeout := 1500, flowTail := 300, bleedRate := 6, nozzleOffset := 0, guardAngle := 2048,
    valveLead := 8000, sensorLatency := 400, tripRamp := 600 }

/-- R155, Table 2-1. -/
def ServiceSettings.reset : ServiceSettings := { reportEvery := 0, debounceLid := 20, debounceStrike := 2 }

/-- R96: an untouched progress record. -/
def Progress.reset : Progress := { passed := false, attempts := 0, uLast := 0 }

/-- R96: after either reset. -/
def Session.reset : Session :=
  { state := .idle, failed := none, dwell := 0, settle := 0, progress := Vector.replicate 6 Progress.reset, redist := 0,
    corrections := [], midRev := false }

/-- R120, Table 7-1: state NONE, every field 0. -/
def InjContext.reset : InjContext :=
  { state := .none, chamber := 0, requested := 0, credited := 0, tailCredited := 0, start := 0, lastPulse := 0,
    endTime := 0, outcome := .inProgress }

/-- R143: no cause. -/
def CauseSet.empty : CauseSet :=
  { strike := false, lid := false, mass := false, overspeed := false, drive := false }

/-- R138: after power-on reset. -/
def Trip.reset : Trip :=
  { latch := false, line := false, first := none, causes := CauseSet.empty, speed := 0, source := .index, u := 0 }

/-- R148, R153, R155: after either reset, with the live values still to be taken from the conditions. -/
def Events.reset : Events :=
  { live := 0, latch := 0, report := 0, attention := 0, edge := 0, counts := Vector.replicate 16 0, attn := false,
    revNumber := 0, reportCount := 0 }

/-- R156: after either reset. -/
def Monitor.reset : Monitor := { count := 0, holding := 0, source := .frameErrC, auto := false, timer := none }

/-- The part as it leaves power-on reset, with the lid closed and the knock switch free (log 13): the ceilings as R76
gives them, the bleed timer running from the reset as R135 gives it. -/
def State.reset : State :=
  { now := 0
    held := false
    framerC := Framer.reset
    framerD := Framer.reset
    framerS := Framer.reset
    rxC := RxCheck.reset
    rxD := RxCheck.reset
    classTable := classTableReset
    requested := { mode := 0, target := 0 }
    drive := { speed := 0, torque := 0, time := 0 }
    silence := { controllerSince := 0, controllerSilent := false, driveSince := 0, driveSilent := false, orphan := none }
    portC := PortC.reset
    portD := PortD.reset
    standing := Standing.reset
    intake := { since := 0, loss := false, last := SampleRecord.reset, lastCount := 0, armed := false }
    lid := { raw := true, debounced := true, pending := false, since := 0 }
    strike := { raw := false, debounced := false, pending := false, since := 0 }
    tracker := Tracker.reset
    est := Estimator.reset
    weigh := Weighing.reset
    loadClass := 3
    gov := { eHeld := 0, eNew := 0, rise := 0, spin := 100, agitate := 180 }
    tables := Tables.reset
    spin := SpinSettings.reset
    service := ServiceSettings.reset
    limits := { abs := none, mass := none }
    session := Session.reset
    ring :=
      { contents := Vector.replicate 4 0, available := true, ctx := InjContext.reset, lead := 0, strayCount := 0,
        strayTime := 0, bleed := some 0, valve := false }
    trip := Trip.reset
    events := Events.reset
    monitor := Monitor.reset
    requests := []
    pending := [] }

end Sys2Proof.Machine
end

