-- ==== Sys2Proof/Machine/Operands.lean ====
section
/-! DEFINITION. Frames and payloads as they stand on the links: the frame format and its check (Table 1-1, R2), the payload layouts and codes (R3), the lengths and the fixed actions of the classes (Tables 1-13 and 1-14). -/

namespace Sys2Proof.Machine

/-! ### Classes -/

/-- Table 1-2. -/
def speedDemandClass : Class := 0x11
/-- Table 1-3. -/
def sampleClass : Class := 0x21
/-- Table 1-4. -/
def driveStatusClass : Class := 0x31
/-- Table 1-5. -/
def requestClass : Class := 0x3C
/-- Table 1-6. -/
def responseClass : Class := 0x3D
/-- Table 1-7. -/
def noticeClass : Class := 0x3E
/-- Table 1-8. -/
def reportClass : Class := 0x3F

/-- R5, Table 1-13: whether a frame of the class may have `n` payload bytes. -/
def lengthAllowed (cls : Class) (n : Nat) : Bool :=
  if cls = speedDemandClass then n == 6
  else if cls = sampleClass then n == 7
  else if cls = driveStatusClass then n == 8
  else if cls = requestClass || cls = responseClass then decide (4 ≤ n) && decide (n ≤ 24)
  else if cls = noticeClass then n == 10
  else if cls = reportClass then n == 22
  else decide (n ≤ 24)

/-- R8, Table 1-14: the action of a fixed entry; `none` for an ordinary one. -/
def fixedAction (port : Port) (cls : Class) : Option Action :=
  if cls = speedDemandClass then some (match port with | .c => .govern | .d => .drop)
  else if cls = driveStatusClass then some (match port with | .c => .drop | .d => .inspect)
  else if cls = requestClass then some (match port with | .c => .consume | .d => .drop)
  else if cls = responseClass || cls = noticeClass || cls = reportClass then some .drop
  else none

/-! ### Fields -/

/-- R3: a 16-bit field, high byte first. -/
def be16 (w : Word) : List Byte := [w.extractLsb' 8 8, w.extractLsb' 0 8]

/-- R3: the 16-bit field at a payload offset. -/
def field16 (p : List Byte) (i : Nat) : Word := p.getD i 0 ++ p.getD (i + 1) 0

/-- R3: an 8-bit field at a payload offset. -/
def field8 (p : List Byte) (i : Nat) : Byte := p.getD i 0

/-- R162: an unsigned quantity as an element. -/
def uWord (n : Nat) : Word := BitVec.ofNat 16 n

/-- R162: a signed quantity as an element, in two's complement. -/
def sWord (z : Int) : Word := BitVec.ofInt 16 z

/-- R162: a mark as an element. -/
def markWord (b : Bool) : Word := if b then 1 else 0

/-- A u16 quantity as payload bytes. -/
def u16Bytes (n : Nat) : List Byte := be16 (uWord n)

/-- An s16 quantity as payload bytes. -/
def s16Bytes (z : Int) : List Byte := be16 (sWord z)

/-- R162: a 32-bit quantity as two elements, high half first. -/
def timeHigh (t : Time) : Word := t.extractLsb' 16 16
/-- R162: the low half. -/
def timeLow (t : Time) : Word := t.extractLsb' 0 16

/-- Tables 1-5 and 1-6: data bytes as elements, high byte first. -/
def dataWords : List Byte → List Word
  | hi :: lo :: rest => (hi ++ lo) :: dataWords rest
  | _ => []

/-- Elements as data bytes. -/
def wordBytes (ws : List Word) : List Byte := ws.flatMap be16

/-! ### Codes -/

/-- Table 1-2: the mode codes. -/
def Mode.code : Mode → Byte
  | .stop => 0
  | .agitate => 1
  | .spin => 2
  | .coast => 3

/-- R10, R19: a mode above 3 is STOP. -/
def modeOfByte (b : Byte) : Mode :=
  if b = 1 then .agitate else if b = 2 then .spin else if b = 3 then .coast else .stop

/-- Table 1-9. -/
def SessionState.code : SessionState → Byte
  | .idle => 0
  | .climb => 1
  | .dwell => 2
  | .correct => 3
  | .settle => 4
  | .opened => 5
  | .limited => 6
  | .holdDown => 7
  | .rundown => 8
  | .tripped => 9

/-- Table 1-10. -/
def causeNumber : Cause → Nat
  | .strike => 1
  | .lid => 2
  | .mass => 3
  | .overspeed => 4
  | .drive => 5

/-- Table 1-10, 0 for none. -/
def causeCode : Option Cause → Nat
  | none => 0
  | some c => causeNumber c

/-- Table 9-1: the number of an event kind. -/
def Kind.number : Kind → Fin 16
  | .estimateValid => 0
  | .governing => 1
  | .plateauPassed => 2
  | .redistribute => 3
  | .limited => 4
  | .injectionFault => 5
  | .ringFull => 6
  | .indexLoss => 7
  | .sensorLoss => 8
  | .driveSilent => 9
  | .controllerSilent => 10
  | .trip => 11
  | .lidOpen => 12
  | .strike => 13
  | .queueOverflow => 14
  | .counterSaturated => 15

/-- R109, Table 7-2: outcome codes. -/
def InjOutcome.code : InjOutcome → Nat
  | .inProgress => 0
  | .done => 1
  | .chamberFull => 2
  | .noFlow => 3
  | .aborted => 4

/-- Table 10-4: context state codes. -/
def CtxState.code : CtxState → Nat
  | .none => 0
  | .active => 1
  | .tail => 2
  | .closed => 3

/-- Table 10-4: tracker state codes. -/
def TrackerState.code : TrackerState → Nat
  | .untimed => 0
  | .timing => 1
  | .locked => 2
  | .held => 3

/-- Table 4-2. -/
def EstState.code : EstState → Nat
  | .invalid => 0
  | .priming => 1
  | .valid => 2

/-- Table 4-2. -/
def WeighState.code : WeighState → Nat
  | .disarmed => 0
  | .armed => 1
  | .done => 2
  | .failed => 3

/-- Table 8-1. -/
def SpeedSource.code : SpeedSource → Nat
  | .index => 0
  | .drive => 1
  | .unknown => 2

/-- Table 9-2. -/
def Source.code : Source → Nat
  | .frameErrC => 0
  | .frameErrD => 1
  | .frameErrS => 2
  | .seqGap => 3
  | .drops => 4
  | .indexGlitch => 5

/-- Table 9-2, R156: the source of a code; a code above 5 is clamped to 5. -/
def sourceOf (n : Nat) : Source :=
  if n = 0 then .frameErrC else if n = 1 then .frameErrD else if n = 2 then .frameErrS
  else if n = 3 then .seqGap else if n = 4 then .drops else .indexGlitch

/-- Table 1-11: the code of a stored action, PASS 0 or DROP 1. -/
def Disposal.code : Disposal → Byte
  | .pass => 0
  | .drop => 1

/-- R164: an action code other than PASS or DROP stores PASS. -/
def disposalOf (b : Byte) : Disposal := if b = 1 then .drop else .pass

/-- Table 1-11: action codes. -/
def actionCode : Action → Byte
  | .pass => 0
  | .drop => 1
  | .govern => 2
  | .inspect => 3
  | .consume => 4

/-! ### Payload layouts -/

/-- Table 1-2. -/
def demandPayload (target : Int) (ramp : Nat) (mode flags : Byte) : List Byte :=
  s16Bytes target ++ u16Bytes ramp ++ [mode, flags]

/-- Table 1-2: the target of a waiting SPEED DEMAND. -/
def demandTarget (p : List Byte) : Int := (field16 p 0).toInt
/-- Table 1-2: its ramp. -/
def demandRamp (p : List Byte) : Nat := (field16 p 2).toNat
/-- Table 1-2: its mode byte. -/
def demandMode (p : List Byte) : Byte := field8 p 4
/-- Table 1-2: its flags byte. -/
def demandFlags (p : List Byte) : Byte := field8 p 5

/-- Table 1-3. -/
def samplePayload (count : Byte) (ax ay az : Word) : List Byte := count :: (be16 ax ++ be16 ay ++ be16 az)

/-- Table 1-4. -/
def statusPayload (speed torque bus : Word) (driveState driveFault : Byte) : List Byte :=
  be16 speed ++ be16 torque ++ be16 bus ++ [driveState, driveFault]

/-- Table 1-5. -/
def requestPayload (tag op object index : Byte) (data : List Byte) : List Byte := tag :: op :: object :: index :: data

/-- Table 1-5: a consumed request. -/
def requestOf (p : List Byte) : Request :=
  { tag := field8 p 0, op := field8 p 1, object := field8 p 2, index := field8 p 3, data := p.drop 4 }

/-- Table 1-6. -/
def responsePayload (tag op status object : Byte) (data : List Word) : List Byte :=
  tag :: op :: status :: object :: wordBytes data

/-! ### Frames -/

/-- R2: the bytes the check is computed over. -/
def checkedBytes (cls : Class) (seq : Byte) (payload : List Byte) : List Byte :=
  cls.setWidth 8 :: seq :: BitVec.ofNat 8 payload.length :: payload

/-- Table 1-1, R2: a frame as it leaves a port. -/
def frameBytes (cls : Class) (seq : Byte) (payload : List Byte) : List Byte :=
  0xA5 :: (checkedBytes cls seq payload ++ be16 (crc (checkedBytes cls seq payload)))

/-- R16: the time a frame of so many bytes occupies the line, in µs. -/
def lineMicros (bytes : List Byte) : Nat := bytes.length * Config.byteMicros

end Sys2Proof.Machine
end

