-- ==== Sys2Proof/Machine/Flags.lean ====
section
/-! DEFINITION. The conditions that the rules judge, each as a function of the state: the speed and the angle, the current plateau, the terms of the ceilings, the live conditions, the trip causes, the VALVE window and ATTN. -/

namespace Sys2Proof.Machine

/-! ### Angle and speed -/

/-- R39: the angle is valid in LOCKED alone. -/
def State.angleValid (s : State) : Bool := s.tracker.state == .locked

/-- R43: the measured speed of a period. -/
def measuredSpeed (period : Nat) : Nat := 60000000 / period

/-- R43: the INDEX SPEED, 0 unless the tracker is LOCKED. -/
def Tracker.indexSpeed (t : Tracker) : Nat :=
  match t.state, t.period with
  | .locked, some p => measuredSpeed p
  | _, _ => 0

/-- R43. -/
def State.indexSpeed (s : State) : Nat := s.tracker.indexSpeed

/-- R11: the drive speed, unknown while DRIVE_SILENT holds. -/
def State.driveSpeed (s : State) : Option Int := if s.silence.driveSilent then none else some s.drive.speed

/-- Conventions, The speed (R1, R11): the index speed while the angle is valid, the drive speed otherwise; `none`
while unknown. -/
def State.speed (s : State) : Option Int := if s.angleValid then some (s.indexSpeed : Int) else s.driveSpeed

/-- The magnitude of the speed is below a bound; false while the speed is unknown (R11). -/
def State.speedBelow (s : State) (bound : Nat) : Bool :=
  match s.speed with
  | none => false
  | some v => decide (v.natAbs < bound)

/-- The magnitude of the speed is at or above a bound; false while the speed is unknown (R11). -/
def State.speedAtLeast (s : State) (bound : Nat) : Bool :=
  match s.speed with
  | none => false
  | some v => decide (bound ≤ v.natAbs)

/-- R19: the band of the speed, band 0 while the speed is unknown. -/
def State.speedBand (s : State) : Nat :=
  match s.speed with
  | none => 0
  | some v => bandOf v

/-- R48: INDEX_LOSS. -/
def State.indexLoss (s : State) : Bool :=
  !s.angleValid && (match s.driveSpeed with | none => false | some v => decide (30 ≤ v.natAbs))

/-- R50: the angle at `e` µs after the index, period `p`. -/
def angleAt (e p : Nat) : Nat := if e < p then e * Config.turn / p else 65535

/-- R50: θ_now; `none` unless the tracker is LOCKED. -/
def State.thetaNow (s : State) : Option Nat :=
  match s.tracker.state, s.tracker.lastIndex, s.tracker.period with
  | .locked, some t, some p => some (angleAt (elapsed s.now t) p)
  | _, _, _ => none

/-! ### VALVE -/

/-- R125: the lead. -/
def leadOf (valveLead period : Nat) : Nat := min 16383 (valveLead * Config.turn / period)

/-- R126: whether a nozzle angle lies in the window of a chamber: the half-open range of width 16384 − 2 × GUARD
that starts at c × 16384 − 8192 + GUARD, modulo 65536. -/
def inWindow (chamber : Fin 4) (guardAngle phi : Nat) : Bool :=
  decide ((phi + (Config.turn - (chamber.val * 16384 + Config.turn - 8192 + guardAngle) % Config.turn)) % Config.turn
    < 16384 - 2 * guardAngle)

/-- R125: the nozzle angle. -/
def State.nozzleAngle (s : State) (theta : Nat) : Nat := (theta + s.spin.nozzleOffset + s.ring.lead) % Config.turn

/-- R126: the three conditions for VALVE to be open. -/
def State.valveOpen (s : State) : Bool :=
  (s.ring.ctx.state == .active) &&
    (match s.thetaNow with
     | none => false
     | some theta => inWindow s.ring.ctx.chamber s.spin.guardAngle (s.nozzleAngle theta))

/-- R122: RING_FULL. -/
def State.ringFull (s : State) : Bool := s.ring.contents.toList.any (· == s.spin.chamberCap)

/-! ### The plateau program and the requested demand -/

/-- R94: a field of a plateau entry. -/
def plateauField (t : Tables) (e : Fin 6) (f : Nat) : Nat := look t.plateau (e.val * 6 + f) 0

/-- R94, field 0. -/
def plateauSpeed (t : Tables) (e : Fin 6) : Nat := plateauField t e 0

/-- R94, field 1; a dwell field that still holds 0 is read as 1. -/
def plateauDwell (t : Tables) (e : Fin 6) : Nat := max 1 (plateauField t e 1)

/-- R94, fields 2 to 5. -/
def plateauPass (t : Tables) (e : Fin 6) : Nat := plateauField t e 2
/-- R94, field 3. -/
def plateauCap (t : Tables) (e : Fin 6) : Nat := plateauField t e 3
/-- R94, field 4. -/
def plateauSettle (t : Tables) (e : Fin 6) : Nat := plateauField t e 4
/-- R94, field 5. -/
def plateauAttempts (t : Tables) (e : Fin 6) : Nat := plateauField t e 5

/-- R95: entry `e` ends the program. -/
def endsProgram (t : Tables) (e : Nat) : Bool :=
  (look t.plateau (e * 6) 0 == 0) || (e != 0 && decide (look t.plateau (e * 6) 0 ≤ look t.plateau ((e - 1) * 6) 0))

/-- R95: how many entries from `e` on, at most `n`, come before the first that ends the program. -/
def programRun (t : Tables) : Nat → Nat → Nat
  | 0, _ => 0
  | n + 1, e => if endsProgram t e then 0 else 1 + programRun t n (e + 1)

/-- R95: the program length L. -/
def programLength (t : Tables) : Nat := programRun t 6 0

/-- The six plateau entries. -/
def allPlateaus : List (Fin 6) := [0, 1, 2, 3, 4, 5]

/-- R97: the requested demand is a spin request. -/
def isSpinRequest (blind : Nat) (mode : Byte) (target : Int) : Bool :=
  (modeOfByte mode == .spin) && decide ((blind : Int) < target)

/-- R97: plateau `e` applies. -/
def State.applies (s : State) (e : Fin 6) : Bool :=
  decide (e.val < programLength s.tables) && (modeOfByte s.requested.mode == .spin) &&
    decide ((plateauSpeed s.tables e : Int) < s.requested.target)

/-- R97: the CURRENT PLATEAU. -/
def State.currentPlateau (s : State) : Option (Fin 6) :=
  allPlateaus.find? fun e => s.applies e && !(s.session.progress[e]).passed

/-- R97, R84: the session states that hold the plateau term. -/
def SessionState.onPlateau : SessionState → Bool
  | .climb | .dwell | .correct | .settle => true
  | _ => false

/-! ### The ceilings -/

/-- R79: the smallest band from `b` on, within `n`, whose entry in the row of class `c` is less than `u`; 32 if none. -/
def bandLimitFrom (env : Vector Nat 128) (c u : Nat) : Nat → Nat → Nat
  | 0, _ => 32
  | n + 1, b => if look env (c * 32 + b) 0 < u then b else bandLimitFrom env c u n (b + 1)

/-- R79: b_lim. -/
def bandLimit (env : Vector Nat 128) (c u : Nat) : Nat := bandLimitFrom env c u 32 0

/-- R79: the envelope ceiling max(0, 40 × b_lim − 1). -/
def envelopeCeiling (env : Vector Nat 128) (c u : Nat) : Nat := 40 * bandLimit env c u - 1

/-- R79: E_new from the U and the load class as they stand. -/
def State.envelopeNew (s : State) : Nat := envelopeCeiling s.tables.envelope s.loadClass s.est.u

/-- R84: the session's term of the SPIN ceiling. -/
def State.sessionTerm (s : State) : Option Nat :=
  match s.session.state with
  | .climb | .dwell | .correct | .settle => s.currentPlateau.map (plateauSpeed s.tables)
  | .limited => s.session.failed.map (plateauSpeed s.tables)
  | .holdDown => some 0
  | .idle | .opened | .rundown | .tripped => none

/-- R83, Table 5-2: the terms that apply. -/
def State.spinTerms (s : State) : List Nat :=
  s.limits.abs.toList ++
  (if s.limits.abs.isNone || s.est.state != .valid then [s.spin.blindCeiling] else []) ++
  (if s.est.state == .valid then [s.gov.eHeld] else []) ++
  s.sessionTerm.toList ++
  (if s.trip.latch then [0] else [])

/-- R83: the SPIN ceiling, the least of the terms; it lies in 0..1500. -/
def State.spinCeiling (s : State) : Nat := s.spinTerms.foldl min 1500

/-- R86: the AGITATE ceiling. -/
def State.agitateCeiling (s : State) : Nat :=
  if s.trip.latch then 0
  else match s.limits.abs with
    | some a => min s.spin.agitateLimit a
    | none => s.spin.agitateLimit

/-- R19, R22: the effective ceiling of a mode. -/
def Governor.ceiling (g : Governor) : Mode → Nat
  | .spin => g.spin
  | .agitate => g.agitate
  | .stop | .coast => 0

/-! ### Trip causes -/

/-- R141: the OVERSPEED BOUND. -/
def State.overspeedBound (s : State) : Nat :=
  match s.limits.abs with
  | some a => a + 60
  | none => max s.spin.blindCeiling s.spin.agitateLimit + 60

/-- R139, R140, R141: whether a cause is true. -/
def State.causeHolds (s : State) : Cause → Bool
  | .strike => s.strike.debounced
  | .lid => !s.lid.debounced && s.speedAtLeast s.spin.retainSpeed
  | .mass => (s.est.state == .valid) && (match s.limits.mass with | none => false | some m => decide (m < s.est.u))
  | .overspeed =>
    match s.driveSpeed with
    | none => false
    | some v => decide (s.overspeedBound < v.natAbs)
  | .drive => s.silence.driveSilent && (s.session.state != .idle)

/-- The five causes in the order of their codes. -/
def allCauses : List Cause := [.strike, .lid, .mass, .overspeed, .drive]

/-- Table 8-1: a cause's mark. -/
def CauseSet.has (cs : CauseSet) : Cause → Bool
  | .strike => cs.strike
  | .lid => cs.lid
  | .mass => cs.mass
  | .overspeed => cs.overspeed
  | .drive => cs.drive

/-- R143: a cause added to the set. -/
def CauseSet.add (cs : CauseSet) : Cause → CauseSet
  | .strike => { cs with strike := true }
  | .lid => { cs with lid := true }
  | .mass => { cs with mass := true }
  | .overspeed => { cs with overspeed := true }
  | .drive => { cs with drive := true }

/-- Table 10-4: the cause set as an element, bit n for cause code n. -/
def CauseSet.word (cs : CauseSet) : Word :=
  uWord ((if cs.strike then 2 else 0) + (if cs.lid then 4 else 0) + (if cs.mass then 8 else 0) +
    (if cs.overspeed then 16 else 0) + (if cs.drive then 32 else 0))

/-- R145, R146: the speed is unknown, or its magnitude is at or above RETAIN_SPEED. -/
def State.speedBarsClear (s : State) : Bool := !s.speedBelow s.spin.retainSpeed

/-- R146: the refusal element. -/
def State.conditionsWord (s : State) : Word :=
  uWord ((if s.speedBarsClear then 1 else 0) + (if s.causeHolds .strike then 2 else 0) +
    (if s.causeHolds .lid then 4 else 0) + (if s.causeHolds .mass then 8 else 0) +
    (if s.causeHolds .overspeed then 16 else 0) + (if s.causeHolds .drive then 32 else 0))

/-- R145: CLEAR TRIP, with the latch set, is accepted. -/
def State.clearAccepted (s : State) : Bool :=
  s.speedBelow s.spin.retainSpeed && allCauses.all fun c => !s.causeHolds c

/-! ### The ring and the sensor -/

/-- R124: the ring controller refuses an injection request. -/
def State.ringRefuses (s : State) : Bool := !s.ring.available || !s.angleValid || s.trip.latch

/-- R64: the estimator may leave INVALID at a pulse that begins a revolution with the angle valid. -/
def State.mayPrime (s : State) : Bool := !s.intake.loss && s.intake.last.present

/-! ### Events -/

/-- A word with bit `k` set or cleared. -/
def setBit (w : Word) (k : Fin 16) (v : Bool) : Word :=
  if v then w ||| (1#16 <<< k.val) else w &&& ~~~(1#16 <<< k.val)

/-- R153: some latch is set whose attention enable is set. -/
def Events.attnDue (e : Events) : Bool := e.latch &&& e.attention != 0

/-- R12, R22: a SPEED DEMAND waits in either Port D queue. -/
def PortD.demandWaits (p : PortD) : Bool :=
  (p.forwardedQ.any fun f => f.cls == speedDemandClass) || (p.localQ.any fun f => f.cls == speedDemandClass)

/-- R154: the trip first cause field of a notice. -/
def State.noticeCause (s : State) : Nat := if s.trip.latch then causeCode s.trip.first else 0

/-- R119: the plateau index field of a report. -/
def State.plateauIndex (s : State) : Nat :=
  match s.session.state with
  | .climb | .dwell | .correct | .settle => (s.currentPlateau.map Fin.val).getD 255
  | .holdDown | .limited => (s.session.failed.map Fin.val).getD 255
  | .idle | .opened | .rundown | .tripped => 255

/-- R148: the live value a kind's condition has; false for a pulse kind. -/
def State.condition (s : State) : Kind → Bool
  | .estimateValid => s.est.state == .valid
  | .governing => s.standing.governed
  | .redistribute => s.session.state == .holdDown
  | .limited => s.session.state == .limited
  | .ringFull => s.ringFull
  | .indexLoss => s.indexLoss
  | .sensorLoss => s.intake.loss
  | .driveSilent => s.silence.driveSilent
  | .controllerSilent => s.silence.controllerSilent
  | .trip => s.trip.latch
  | .lidOpen => !s.lid.debounced
  | .strike => s.strike.debounced
  | .counterSaturated => s.monitor.count == 65535
  | .plateauPassed | .injectionFault | .queueOverflow => false

end Sys2Proof.Machine
end

