-- ==== Sys2Proof/Machine/Ops.lean ====
section
/-! DEFINITION. The shared operations of the link, event and governor blocks: the passing of time, the event unit, the monitor counter, the queues and arbiters of both ports, governing at transmit start, restatement, and the composition of the ceilings. -/

namespace Sys2Proof.Machine

/-! ### Time -/

/-- R126: VALVE takes the state that its conditions give at this moment (log 17). -/
def judgeValve (s : State) : State := { s with ring := { s.ring with valve := s.valveOpen } }

/-- R1: the timebase advances to the moment of the command; VALVE follows the angle of that moment (logs 1, 17). -/
def tick (m : Moment) (s : State) : State := judgeValve { s with now := s.now + m.elapsed }

/-- A command at its moment. While RESET_N holds the part in power-on reset nothing reaches it (log 14). -/
def happen (m : Moment) (effect : State → State) (s : State) : Host.Outcome State Fault Refusal :=
  .next (if s.held then s else effect (tick m s))

/-! ### Effects of one moment -/

/-- An effect made when its condition holds. -/
def onlyIf (b : Bool) (f : State → State) (s : State) : State := if b then f s else s

/-- Effects made one after another. -/
def inTurn (fs : List (State → State)) (s : State) : State := fs.foldl (fun s f => f s) s

/-- Effects of one moment whose order the rules leave open, made in the order that the code spells (log 5). -/
def inOrder (code : List Nat) (fs : List (State → State)) (s : State) : State := inTurn (arrange code fs) s

/-! ### Port C transmit side -/

/-- R16: a frame picked for transmission takes the port's sequence and check and starts to leave. -/
def PortC.send (now : Time) (f : QFrame) (p : PortC) : PortC :=
  { p with seq := p.seq + 1, sending := some { bytes := frameBytes f.cls p.seq f.payload, start := now } }

/-- R18: the Port C arbiter; nothing happens when no frame waits. -/
def PortC.startNext (now : Time) (p : PortC) : PortC :=
  match p.localQ, p.forwardedQ, p.mark with
  | [], [], _ => p
  | f :: rest, [], _ => ({ p with localQ := rest, mark := .localQ }).send now f
  | [], f :: rest, _ => ({ p with forwardedQ := rest, mark := .forwarded }).send now f
  | f :: rest, _ :: _, .forwarded => ({ p with localQ := rest, mark := .localQ }).send now f
  | _ :: _, f :: rest, .localQ => ({ p with forwardedQ := rest, mark := .forwarded }).send now f

/-- R16: transmission starts when the port is idle and a frame waits. -/
def PortC.kick (now : Time) (p : PortC) : PortC := if p.sending.isNone then p.startNext now else p

/-- R12: the first waiting frame with the property is replaced in place. -/
def replaceFirst (same : QFrame → Bool) (f : QFrame) : List QFrame → List QFrame
  | [] => []
  | g :: rest => if same g then f :: rest else g :: replaceFirst same f rest

/-- R154, R155: a notice or report replaces one of its kind in place, joins where there is room, or is skipped. -/
def PortC.offerLocal (same : QFrame → Bool) (f : QFrame) (p : PortC) : PortC :=
  if p.localQ.any same then { p with localQ := replaceFirst same f p.localQ }
  else if p.localQ.length < Config.localCapacity then { p with localQ := p.localQ ++ [f] }
  else p

/-- R15, R159: a frame for which there is room joins the back of the local queue and may start at once. -/
def PortC.joinLocal (now : Time) (f : QFrame) (p : PortC) : PortC :=
  ({ p with localQ := p.localQ ++ [f] }).kick now

/-! ### Event unit -/

/-- R149, steps 1 to 3: the latch sets, the count advances, ATTN is judged. -/
def Events.latched (k : Fin 16) (e : Events) : Events :=
  let latch := setBit e.latch k true
  { e with latch := latch, counts := e.counts.set k (e.counts[k] + 1), attn := latch &&& e.attention != 0 }

/-- R153: ATTN is judged again. -/
def Events.judgeAttn (e : Events) : Events := { e with attn := e.attnDue }

/-- R154: the fields of a BALANCE NOTICE at this moment (Table 1-7); `e` is the event unit after the latching. -/
def noticeFrame (s : State) (e : Events) (k : Kind) : QFrame :=
  { cls := noticeClass
    payload :=
      [BitVec.ofNat 8 k.number.val, if e.live.getLsbD k.number.val then 1 else 0, e.counts[k.number],
        s.session.state.code] ++ u16Bytes s.indexSpeed ++ u16Bytes s.est.u ++ [BitVec.ofNat 8 s.noticeCause, 0]
    changed := false
    restated := false }

/-- R154: a waiting BALANCE NOTICE of the kind. -/
def sameNotice (k : Kind) (f : QFrame) : Bool :=
  f.cls == noticeClass && field8 f.payload 0 == BitVec.ofNat 8 k.number.val

/-- R149: the four steps of a latching. -/
def latchKind (k : Kind) (s : State) : State :=
  { s with
    events := s.events.latched k.number
    portC :=
      if s.events.report.getLsbD k.number.val then
        (s.portC.offerLocal (sameNotice k) (noticeFrame s (s.events.latched k.number) k)).kick s.now
      else s.portC }

/-- R149: a condition offered by its owner; a change writes the live value and may latch. -/
def offerLive (k : Kind) (v : Bool) (s : State) : State :=
  if s.events.live.getLsbD k.number.val = v then s
  else
    let s' := { s with events := { s.events with live := setBit s.events.live k.number v } }
    if v || s.events.edge.getLsbD k.number.val then latchKind k s' else s'

/-- A live kind's condition judged again, any change being offered (R148, R149). -/
def judgeLive (k : Kind) (s : State) : State := offerLive k (s.condition k) s

/-! ### Monitor counter -/

/-- R156, R158: an occurrence of a source offered to the monitor counter. -/
def countSource (src : Source) (s : State) : State :=
  if s.monitor.source = src then
    judgeLive .counterSaturated { s with monitor := { s.monitor with count := min 65535 (s.monitor.count + 1) } }
  else s

/-- R157: a transfer's change of the counter. -/
def Monitor.transferred (m : Monitor) : Monitor := { m with holding := m.count, count := 0 }

/-- R157, R158: a transfer. -/
def monitorTransfer (s : State) : State :=
  judgeLive .counterSaturated { s with monitor := s.monitor.transferred }

/-! ### Forwarded queues -/

/-- R13, R14: a frame dropped from a full forwarded queue: QUEUE_OVERFLOW occurs and one DROPS is offered, which may
bring COUNTER_SATURATED; R150 lets the two latch in either order (log 5). -/
def dropFromQueue (ch : Choice) (s : State) : State :=
  inOrder ch.drop [latchKind .queueOverflow, countSource .drops] s

/-- R14: a frame offered to the Port C forwarded queue. -/
def offerForwardedC (ch : Choice) (f : QFrame) (s : State) : State :=
  if f.cls == driveStatusClass && s.portC.forwardedQ.any (fun g => g.cls == driveStatusClass) then
    { s with portC := { s.portC with forwardedQ := replaceFirst (fun g => g.cls == driveStatusClass) f s.portC.forwardedQ } }
  else if s.portC.forwardedQ.length < Config.forwardedCapacity then
    { s with portC := ({ s.portC with forwardedQ := s.portC.forwardedQ ++ [f] }).kick s.now }
  else dropFromQueue ch s

/-! ### Port D: governing and transmission -/

/-- R19, step 2: the target rewritten by mode. -/
def governTarget (g : Governor) (mode : Mode) (target : Int) : Int :=
  match mode with
  | .stop | .coast => 0
  | .spin => if target < 0 then 0 else if (g.spin : Int) < target then g.spin else target
  | .agitate =>
    if g.agitate < target.natAbs then (if target < 0 then -(g.agitate : Int) else g.agitate) else target

/-- R19, step 3: the ramp clamped to 1..L, and to 1..2000 where L is 0. -/
def governRamp (limit ramp : Nat) : Nat := clampNat 1 (if limit = 0 then 2000 else limit) ramp

/-- R19, R20: the values with which a waiting SPEED DEMAND leaves Port D at this moment, GOVERNED among them. -/
def govern (s : State) (f : QFrame) : Standing :=
  let mode := if s.trip.latch then .stop else modeOfByte (demandMode f.payload)
  let target := if s.trip.latch then 0 else governTarget s.gov mode (demandTarget f.payload)
  let ramp := if s.trip.latch then s.spin.tripRamp
    else governRamp (look s.tables.rampLimit s.speedBand 0) (demandRamp f.payload)
  { mode, target, ramp,
    governed := f.changed || mode.code != demandMode f.payload || target != demandTarget f.payload ||
      ramp != demandRamp f.payload }

/-- R20: the payload a SPEED DEMAND leaves with. -/
def Standing.payload (st : Standing) : List Byte :=
  demandPayload st.target st.ramp st.mode.code (if st.governed then 1 else 0)

/-- R22: the restated demand copied from the standing demand. -/
def Standing.restatement (st : Standing) : QFrame :=
  { cls := speedDemandClass, payload := demandPayload st.target st.ramp st.mode.code 0, changed := false,
    restated := true }

/-- R16: a frame picked for transmission on Port D starts to leave. -/
def PortD.send (now : Time) (cls : Class) (payload : List Byte) (p : PortD) : PortD :=
  { p with seq := p.seq + 1, sending := some { bytes := frameBytes cls p.seq payload, start := now } }

/-- R17: the Port D arbiter's pick, and the port with the frame removed. -/
def PortD.pick (p : PortD) : Option (QFrame × PortD) :=
  match p.localQ, p.forwardedQ with
  | f :: rest, _ => some (f, { p with localQ := rest })
  | [], f :: rest => some (f, { p with forwardedQ := rest })
  | [], [] => none

/-- R16, R19, R20, R21, R91: transmit start on Port D. -/
def startD (s : State) : State :=
  match s.portD.pick with
  | none => s
  | some (f, p) =>
    if f.cls == speedDemandClass then
      let st := govern s f
      judgeLive .governing { s with portD := p.send s.now f.cls st.payload, standing := st }
    else { s with portD := p.send s.now f.cls f.payload }

/-- R16: transmission starts when Port D is idle and a frame waits. -/
def kickD (s : State) : State := if s.portD.sending.isNone then startD s else s

/-- R10, R13, R22: a frame's stages on an idle Port D. A restated demand that the second stage queues is still waiting as
the frame enters, which removes it; the port starts what waits at the end (log 33). -/
def startAfter (stages : State → State) (s : State) : State :=
  if s.portD.sending.isSome then stages s
  else
    let t := stages { s with portD := { s.portD with sending := some { bytes := [], start := s.now } } }
    kickD { t with portD := { t.portD with sending := none } }

/-- R22: a restated demand is queued while no SPEED DEMAND waits. -/
def queueRestated (s : State) : State :=
  if s.portD.demandWaits then s
  else kickD { s with portD := { s.portD with localQ := s.portD.localQ ++ [s.standing.restatement] } }

/-- R13: a SPEED DEMAND offered to the Port D forwarded queue. -/
def offerDemandD (ch : Choice) (f : QFrame) (s : State) : State :=
  if s.portD.forwardedQ.any (fun g => g.cls == speedDemandClass) then
    { s with portD :=
        { s.portD with
          forwardedQ := replaceFirst (fun g => g.cls == speedDemandClass) f s.portD.forwardedQ
          localQ := s.portD.localQ.filter fun g => !g.restated } }
  else if s.portD.forwardedQ.length < Config.forwardedCapacity then
    kickD { s with portD :=
        { s.portD with
          forwardedQ := s.portD.forwardedQ ++ [f]
          localQ := s.portD.localQ.filter fun g => !g.restated } }
  else dropFromQueue ch s

/-- R14: any other frame offered to the Port D forwarded queue. -/
def offerForwardedD (ch : Choice) (f : QFrame) (s : State) : State :=
  if s.portD.forwardedQ.length < Config.forwardedCapacity then
    kickD { s with portD := { s.portD with forwardedQ := s.portD.forwardedQ ++ [f] } }
  else dropFromQueue ch s

/-! ### Envelope governor -/

/-- R89, R22: the ceilings are composed again from the terms standing; a fall of the standing mode's ceiling below the
standing target restates the demand. -/
def recompose (s : State) : State :=
  let g := { s.gov with spin := s.spinCeiling, agitate := s.agitateCeiling }
  let s' := { s with gov := g }
  if g.ceiling s.standing.mode ≠ s.gov.ceiling s.standing.mode ∧
      g.ceiling s.standing.mode < s.standing.target.natAbs then queueRestated s'
  else s'

/-- R82: a change of the load class or an accepted write to ENVELOPE. -/
def envelopeRevised (s : State) : State :=
  if s.est.state = .valid then
    let e := s.envelopeNew
    recompose { s with gov :=
      { s.gov with
        eNew := e
        eHeld := if e < s.gov.eHeld then e else s.gov.eHeld
        rise := if e < s.gov.eHeld then 0 else s.gov.rise } }
  else s

/-- R80: the hysteresis of one counted VALID revolution. -/
def Governor.revolve (hyst e : Nat) (g : Governor) : Governor :=
  if e < g.eHeld then { g with eNew := e, eHeld := e, rise := 0 }
  else if g.eHeld < e then
    if hyst ≤ g.rise + 1 then { g with eNew := e, eHeld := e, rise := 0 }
    else { g with eNew := e, rise := g.rise + 1 }
  else { g with eNew := e, rise := 0 }

/-- R81: the counted revolution that brings VALID; no hysteresis. -/
def Governor.enterValid (e : Nat) (g : Governor) : Governor := { g with eNew := e, eHeld := e, rise := 0 }

/-- R80, R81: the governor's terms after a counted VALID revolution, the ceilings not yet composed. -/
def takeEnvelope (entered : Bool) (s : State) : State :=
  { s with gov := if entered then s.gov.enterValid s.envelopeNew else s.gov.revolve s.spin.hystRevs s.envelopeNew }

/-- R80, R81, R89: the governor's part of a counted VALID revolution. -/
def governorClose (entered : Bool) (s : State) : State := recompose (takeEnvelope entered s)

/-! ### Load class and weighing -/

/-- R69, R73: the load class takes a value; a change is handed to the governor. -/
def setLoadClass (c : Nat) (s : State) : State :=
  if s.loadClass = c then s else envelopeRevised { s with loadClass := c }

/-- R69: the weighing is armed at a session start. -/
def armWeighing (s : State) : State :=
  setLoadClass s.spin.defaultClass { s with weigh := { Weighing.reset with state := .armed } }

/-- R72: a weighing fails; the class is DEFAULT_CLASS (log 23). -/
def failWeighing (s : State) : State :=
  setLoadClass s.spin.defaultClass { s with weigh := { s.weigh with state := .failed, j := 0 } }

/-- R71: J, the figure of the inertia. -/
def Weighing.figure (w : Weighing) : Nat :=
  min 65535 ((w.cSum / (w.n : Int)).toNat * elapsed w.tLast w.tFirst / ((w.sLast - w.sFirst).toNat * 1000))

/-- R71: the window holds too little. -/
def Weighing.thin (w : Weighing) : Bool :=
  decide (w.n < 5) || decide (w.sLast - w.sFirst < 20) || decide (w.cSum ≤ 0)

/-- R73: the number of thresholds that J equals or exceeds. -/
def classOf (thresh : Vector Nat 3) (j : Nat) : Nat := (thresh.toList.filter fun t => decide (t ≤ j)).length

/-- R71: the end of a weighing that is ARMED. -/
def endWeighing (s : State) : State :=
  if s.weigh.state = .armed then
    if s.weigh.thin then failWeighing s
    else
      let j := s.weigh.figure
      setLoadClass (classOf s.tables.weighThresh j) { s with weigh := { s.weigh with state := .done, j := j } }
  else s

/-- R72: an ARMED weighing is abandoned. -/
def abandonWeighing (s : State) : State := if s.weigh.state = .armed then failWeighing s else s

/-- R70: a status inside the window is recorded. -/
def Weighing.record (now : Time) (speed torque : Int) (w : Weighing) : Weighing :=
  let w := if w.n = 0 then { w with tFirst := now, sFirst := speed } else w
  let w := { w with tLast := now, sLast := speed }
  if w.n < 65535 then { w with cSum := w.cSum + torque, n := w.n + 1 } else w

/-- R70: a DRIVE STATUS taken while the weighing is ARMED is examined. -/
def examineStatus (s : State) : State :=
  if s.weigh.state = .armed then
    if (s.spin.weighHi : Int) < s.drive.speed then endWeighing s
    else if (s.spin.weighLo : Int) ≤ s.drive.speed then
      { s with weigh := s.weigh.record s.drive.time s.drive.speed s.drive.torque }
    else s
  else s

end Sys2Proof.Machine
end

