-- ==== Sys2Proof/Machine/Ring.lean ====
section
/-! DEFINITION. The ring controller's shared operations: the start and the end of an injection, crediting, the stray run and the bleed timer (chapter 7). -/

namespace Sys2Proof.Machine

/-- R131, steps 1 to 3: VALVE closes, the context takes the outcome and the end time, and enters TAIL or CLOSED. -/
def ringEnd (o : InjOutcome) (s : State) : State :=
  { s with ring :=
    { s.ring with
      valve := false
      ctx :=
        { s.ring.ctx with
          outcome := o
          endTime := s.now
          state := if s.spin.flowTail = 0 then .closed else .tail } } }

/-- R130: an injection still ACTIVE ends ABORTED. -/
def ringAbort (s : State) : State := if s.ring.ctx.state = .active then ringEnd .aborted s else s

/-- R124: the start of an injection; the end time of the injection before it stands (log 25). -/
def startInjection (c : Fin 4) (w : Nat) (s : State) : State :=
  judgeValve
    { s with ring :=
      { s.ring with
        ctx :=
          { s.ring.ctx with
            state := .active, chamber := c, requested := w, credited := 0, tailCredited := 0, outcome := .inProgress,
            start := s.now, lastPulse := s.now }
        lead := leadOf s.spin.valveLead (s.tracker.period.getD 0) } }

/-- R125: the lead computed again when P takes a new value while an injection is ACTIVE. -/
def updateLead (s : State) : State :=
  if s.ring.ctx.state = .active then
    judgeValve { s with ring := { s.ring with lead := leadOf s.spin.valveLead (s.tracker.period.getD 0) } }
  else s

/-- R127: FLOW_GRAMS added to the content of the context's chamber, held at CHAMBER_CAP. -/
def creditedContents (s : State) : Vector Nat 4 :=
  s.ring.contents.set s.ring.ctx.chamber
    (min s.spin.chamberCap (s.ring.contents[s.ring.ctx.chamber] + s.spin.flowGrams))

/-- R127: a pulse credited to the ACTIVE injection. -/
def creditActive (s : State) : State :=
  judgeLive .ringFull
    { s with ring :=
      { s.ring with
        contents := creditedContents s
        ctx := { s.ring.ctx with credited := s.ring.ctx.credited + s.spin.flowGrams, lastPulse := s.now } } }

/-- R127: a pulse credited in the tail. -/
def creditTail (s : State) : State :=
  judgeLive .ringFull
    { s with ring :=
      { s.ring with
        contents := creditedContents s
        ctx := { s.ring.ctx with tailCredited := min 65535 (s.ring.ctx.tailCredited + s.spin.flowGrams) } } }

/-- R133: the pulse extends the stray run. -/
def strayExtends (s : State) : Bool :=
  s.ring.strayCount == 0 || decide (elapsed s.now s.ring.strayTime ≤ Config.strayGapMicros)

/-- R133, R134: a stray pulse. -/
def strayPulse (s : State) : State :=
  if strayExtends s && decide (4 ≤ s.ring.strayCount) then
    latchKind .injectionFault
      { s with ring := { s.ring with available := false, strayCount := 0, strayTime := s.now } }
  else
    { s with ring :=
      { s.ring with strayCount := if strayExtends s then s.ring.strayCount + 1 else 1, strayTime := s.now } }

/-- R135: the bleed timer starts or stops as its condition says. -/
def judgeBleed (s : State) : State :=
  { s with ring :=
    { s.ring with bleed := if s.speedBelow s.spin.retainSpeed then some (s.ring.bleed.getD s.now) else none } }

/-- R135: a bleed period is taken. -/
def bleedOnce (s : State) : State :=
  judgeLive .ringFull
    { s with ring :=
      { s.ring with contents := mapAll (fun g => g - s.spin.bleedRate) s.ring.contents, bleed := some s.now } }

end Sys2Proof.Machine
end

