-- ==== Sys2Proof/Machine/Sessions.lean ====
section
/-! DEFINITION. The session controller's shared operations: entries to states, the dwell end, correction planning, the correction list and the counts of revolutions (chapter 6). -/

namespace Sys2Proof.Machine

/-! ### Entering a state -/

/-- R96: the session state takes a value. -/
def withSession (st : SessionState) (s : State) : State := { s with session := { s.session with state := st } }

/-- R116: the session's live conditions offered again. -/
def sessionEvents : List (State → State) := [judgeLive .redistribute, judgeLive .limited]

/-- R116, R117, R89: the session takes a state; its live conditions are offered and the ceilings composed again, in the
order left open (log 5). -/
def setSession (ch : Choice) (st : SessionState) (s : State) : State :=
  inOrder ch.session (sessionEvents ++ [recompose]) (withSession st s)

/-- R114: entry to IDLE. -/
def enterIdle (ch : Choice) (s : State) : State :=
  setSession ch .idle
    { s with session :=
      { s.session with
        progress := mapAll (fun p => { p with passed := false }) s.session.progress
        failed := none, dwell := 0, settle := 0 } }

/-- R110, R113: HOLD_DOWN and RUNDOWN end as the speed falls below RETAIN_SPEED; from HOLD_DOWN the redistribution
count advances. -/
def retainCheck (ch : Choice) (s : State) : State :=
  if s.speedBelow s.spin.retainSpeed then
    match s.session.state with
    | .holdDown => enterIdle ch { s with session := { s.session with redist := s.session.redist + 1 } }
    | .rundown => enterIdle ch s
    | _ => s
  else s

/-- R100: entry to DWELL; a weighing still ARMED ends. -/
def enterDwell (ch : Choice) (s : State) : State :=
  endWeighing (setSession ch .dwell { s with session := { s.session with dwell := 0, midRev := true } })

/-- R100: in CLIMB, the index speed has reached the current plateau's speed less 10. -/
def climbCheck (ch : Choice) (s : State) : State :=
  if s.session.state = .climb then
    match s.currentPlateau with
    | some e => if plateauSpeed s.tables e ≤ s.indexSpeed + 10 then enterDwell ch s else s
    | none => s
  else s

/-- R99, R100, R102, R113, R117: entry to CLIMB. No rule orders the judging under R100 and the composition that the entry
is handed on to, so they come in either (log 5). -/
def enterClimb (ch : Choice) (s : State) : State :=
  inOrder ch.session (sessionEvents ++ [recompose, climbCheck ch]) (withSession .climb s)

/-- R111: entry to OPEN clears the redistribution count. -/
def enterOpen (ch : Choice) (s : State) : State :=
  setSession ch .opened { s with session := { s.session with redist := 0 } }

/-- CLIMB at the current plateau if there is one, OPEN if there is none (R99, R102, R113). -/
def enterClimbOrOpen (ch : Choice) (s : State) : State :=
  if s.currentPlateau.isSome then enterClimb ch s else enterOpen ch s

/-- R106: the settle count has reached the current plateau's settle revolutions. -/
def settleCheck (ch : Choice) (s : State) : State :=
  if s.session.state = .settle then
    match s.currentPlateau with
    | some e => if plateauSettle s.tables e ≤ s.session.settle then enterDwell ch s else s
    | none => s
  else s

/-- R105, step 3: entry to SETTLE. With `fault`, INJECTION_FAULT meets the event unit at this entry, before the state
that may follow it (R134). -/
def enterSettle (ch : Choice) (fault : Bool) (s : State) : State :=
  settleCheck ch
    (onlyIf fault (latchKind .injectionFault)
      (setSession ch .settle { s with session := { s.session with settle := 0, midRev := true } }))

/-! ### Corrections -/

/-- R105: the newest correction record takes its outcome and credited grams. -/
def closeNewest (o : InjOutcome) (grams : Nat) : List Correction → List Correction
  | [] => []
  | [c] => [{ c with outcome := o, credited := grams }]
  | c :: d :: rest => c :: closeNewest o grams (d :: rest)

/-- R109: a record added; of eight the oldest is removed. -/
def addCorrection (c : Correction) (l : List Correction) : List Correction :=
  (if Config.correctionCapacity ≤ l.length then l.drop 1 else l) ++ [c]

/-- R105: an attempt at a plateau is used. -/
def useAttempt (p : Vector Progress 6) (e : Fin 6) : Vector Progress 6 :=
  p.set e { p[e] with attempts := p[e].attempts + 1 }

/-- R105, steps 1 and 2: the newest record closes and its plateau's attempts used advance (log 24). -/
def recordOutcome (o : InjOutcome) (grams : Nat) (s : State) : State :=
  { s with session :=
    { s.session with
      corrections := closeNewest o grams s.session.corrections
      progress :=
        match s.session.corrections.getLast? with
        | some c => useAttempt s.session.progress c.plateau
        | none => s.session.progress } }

/-- R105: the ring controller hands the end of an injection to the session controller; `fault` says that the event
unit meets INJECTION_FAULT after it (R134). -/
def injectionEnded (ch : Choice) (fault : Bool) (o : InjOutcome) (grams : Nat) (s : State) : State :=
  if s.session.state = .correct then enterSettle ch fault (recordOutcome o grams s)
  else onlyIf fault (latchKind .injectionFault) s

/-- R131: an injection ends at its own end. -/
def endInjection (ch : Choice) (fault : Bool) (o : InjOutcome) (s : State) : State :=
  injectionEnded ch fault o s.ring.ctx.credited (ringEnd o s)

/-- R105: the session leaves CORRECT by another route; the injection is aborted and recorded so. -/
def abortCorrection (s : State) : State :=
  if s.session.state = .correct then recordOutcome .aborted s.ring.ctx.credited (ringAbort s) else s

/-- R107: the filtered vector rotated by the phase of the band of the estimate. -/
def rotated (s : State) : Int × Int :=
  let p := look s.tables.phase s.est.band 0
  (truncDiv (s.est.fx * cosAu p + s.est.fy * sinAu p) 16384, truncDiv (s.est.fy * cosAu p - s.est.fx * sinAu p) 16384)

/-- R108: a chamber's score. -/
def score (v : Int × Int) (c : Fin 4) : Int :=
  match c with
  | 0 => -v.1
  | 1 => -v.2
  | 2 => v.1
  | 3 => v.2

/-- R108: free space of a chamber. -/
def freeSpace (s : State) (c : Fin 4) : Nat := s.spin.chamberCap - s.ring.contents[c]

/-- R108: a candidate has a score above 0 and room for one flow pulse. -/
def isCandidate (s : State) (v : Int × Int) (c : Fin 4) : Bool :=
  decide (0 < score v c) && decide (s.spin.flowGrams ≤ freeSpace s c)

/-- R108: of the candidates, the one with the highest score, the lower number on a tie. -/
def chooseChamber (s : State) (v : Int × Int) : Option (Fin 4) :=
  ([0, 1, 2, 3] : List (Fin 4)).foldl
    (fun best c =>
      if isCandidate s v c then
        match best with
        | none => some c
        | some b => if score v b < score v c then some c else some b
      else best) none

/-- R108: the requested grams for the chosen chamber. -/
def requestedGrams (s : State) (cap : Nat) (v : Int × Int) (c : Fin 4) : Nat :=
  min (min ((score v c).toNat * look s.tables.gain s.est.band 0 / 4096) cap) (freeSpace s c)

/-- R107, R108: correction planning; `none` when it fails. -/
def planCorrection (s : State) (cap : Nat) : Option (Fin 4 × Nat) :=
  match chooseChamber s (rotated s) with
  | none => none
  | some c =>
    let w := requestedGrams s cap (rotated s) c
    if w = 0 then none else some (c, w)

/-- R124: an injection request reaches the ring controller; refused, it ends at once ABORTED with 0 grams. -/
def requestInjection (ch : Choice) (c : Fin 4) (w : Nat) (s : State) : State :=
  if s.ringRefuses then injectionEnded ch false .aborted 0 s else startInjection c w s

/-- R104: entry to CORRECT. -/
def enterCorrect (ch : Choice) (e : Fin 6) (c : Fin 4) (w : Nat) (s : State) : State :=
  let s := setSession ch .correct s
  let r : Correction :=
    { plateau := e, chamber := c, requested := w, credited := 0, outcome := .inProgress, uPlan := s.est.u }
  requestInjection ch c w { s with session := { s.session with corrections := addCorrection r s.session.corrections } }

/-! ### Dwell -/

/-- R103, R110, R112: the plateau fails. -/
def plateauFails (ch : Choice) (e : Fin 6) (s : State) : State :=
  let s := { s with session := { s.session with failed := some e } }
  if s.session.redist < s.spin.maxRedist then retainCheck ch (setSession ch .holdDown s) else setSession ch .limited s

/-- R103: the conditions for a correction, planning among them. -/
def correctionPlan (s : State) (e : Fin 6) : Option (Fin 4 × Nat) :=
  if (s.session.progress[e]).attempts < plateauAttempts s.tables e ∧ 0 < plateauCap s.tables e ∧ s.ring.available then
    planCorrection s (plateauCap s.tables e)
  else none

/-- R102: the plateau passes. -/
def plateauPasses (ch : Choice) (e : Fin 6) (s : State) : State :=
  enterClimbOrOpen ch
    (latchKind .plateauPassed
      { s with session :=
        { s.session with progress := s.session.progress.set e { s.session.progress[e] with passed := true } } })

/-- R102: a plateau's progress record takes the U of the dwell end. -/
def recordDwellU (e : Fin 6) (s : State) : State :=
  { s with session :=
    { s.session with progress := s.session.progress.set e { s.session.progress[e] with uLast := s.est.u } } }

/-- R102, R103: the dwell end at plateau `e`. -/
def dwellEnd (ch : Choice) (e : Fin 6) (s : State) : State :=
  let s := recordDwellU e s
  if s.est.u ≤ plateauPass s.tables e then plateauPasses ch e s
  else match correctionPlan s e with
    | some (c, w) => enterCorrect ch e c w s
    | none => plateauFails ch e s

/-- R101: the session's part of a counted VALID revolution. -/
def sessionClose (ch : Choice) (s : State) : State :=
  match s.session.state, s.session.midRev with
  | .dwell, false =>
    let s := { s with session := { s.session with dwell := s.session.dwell + 1 } }
    match s.currentPlateau with
    | some e => if plateauDwell s.tables e ≤ s.session.dwell then dwellEnd ch e s else s
    | none => s
  | .settle, false => settleCheck ch { s with session := { s.session with settle := s.session.settle + 1 } }
  | _, _ => s

/-- R101: the estimator leaves VALID. -/
def clearCounts (s : State) : State := { s with session := { s.session with dwell := 0, settle := 0 } }

/-- R101: an accepted pulse begins a revolution, which counts from here on (log 18). -/
def beginCounting (s : State) : State := { s with session := { s.session with midRev := false } }

end Sys2Proof.Machine
end

