-- ==== Sys2Proof/Machine/Trips.lean ====
section
/-! DEFINITION. The trip unit's shared operations: setting the latch, adding causes, judging causes, and the changes of the speed that the session, the ring and the trip unit follow (chapter 8, R11, R47). -/

namespace Sys2Proof.Machine

/-- Table 8-1: the speed field and its source at this moment. -/
def speedAndSource (s : State) : Int × SpeedSource :=
  if s.angleValid then ((s.indexSpeed : Int), .index)
  else match s.driveSpeed with
    | some v => (v, .drive)
    | none => (0, .unknown)

/-- R142, steps 1 and 2: the trip record, the latch and the TRIP line. -/
def Trip.setBy (c : Cause) (speed : Int) (source : SpeedSource) (u : Nat) (_t : Trip) : Trip :=
  { latch := true, line := true, first := some c, causes := CauseSet.empty.add c, speed, source, u }

/-- R143: a cause found while the latch is set is added to the cause set. -/
def addCause (c : Cause) (s : State) : State :=
  { s with trip := { s.trip with causes := s.trip.causes.add c } }

/-- R115, R72: the session enters TRIPPED. The trip term holds both ceilings at 0 whatever the session's own term, so
this entry composes nothing (R88). -/
def enterTripped (ch : Choice) (s : State) : State :=
  abandonWeighing (inOrder ch.session sessionEvents (withSession .tripped (abortCorrection s)))

/-- R142, step 3: the blocks that the setting is handed to: the ring controller, the drive port with the governor, the
session controller, the event unit. The trip's own restated demand is queued before the ceilings fall, so that they ask
for no second one (R88, log 8). -/
def tripBlocks (ch : Choice) : List (State → State) :=
  [ringAbort, fun s => recompose (queueRestated s), enterTripped ch, judgeLive .trip]

/-- R142: the latch sets, and the setting is handed to the four in the order left open (log 5). A session that leaves
IDLE while the drive is silent makes the DRIVE cause true (R139, log 29). -/
def setTrip (ch : Choice) (c : Cause) (s : State) : State :=
  let s := inOrder ch.trip (tripBlocks ch)
    { s with trip := s.trip.setBy c (speedAndSource s).1 (speedAndSource s).2 s.est.u }
  if s.causeHolds .drive then addCause .drive s else s

/-- R142, R143: a cause is judged; true, it sets the latch or joins the cause set. -/
def judgeCause (ch : Choice) (c : Cause) (s : State) : State :=
  if s.causeHolds c then (if s.trip.latch then addCause c s else setTrip ch c s) else s

/-- R143: causes judged at one moment, the preferred one first (log 5). -/
def judgeCauses (ch : Choice) (cs : List Cause) (s : State) : State :=
  (preferred ch.cause cs).foldl (fun s c => judgeCause ch c s) s

/-! ### Readers of the drive status record and of the speed -/

/-- R11, R48, R110, R113, R135, R139, R141: what follows a change of the drive status record or of DRIVE_SILENT, but for
the weighing and for stage 3 of R11: the event unit, the tracker, the session controller, the ring controller, the trip
unit. -/
def recordReaders (ch : Choice) : List (State → State) :=
  [judgeLive .driveSilent, judgeLive .indexLoss, retainCheck ch, judgeBleed, judgeCauses ch [.lid, .overspeed, .drive]]

/-- R47, third item; R100, R110, R113, R135, R139: the users of the speed act at a change of the index speed or of the
angle's validity, in the order left open (log 5). -/
def speedChanged (ch : Choice) (s : State) : State :=
  inOrder ch.readers [fun s => retainCheck ch (climbCheck ch s), judgeBleed, judgeCauses ch [.lid]] s

end Sys2Proof.Machine
end

