-- ==== Sys2Proof/Machine/Switches.lean ====
section
/-! DEFINITION. The two switch inputs: raw changes, debouncing, and what a change of the debounced state hands on (R33 to R38). -/

namespace Sys2Proof.Machine

/-- R33: the debounce context of an input. -/
def State.switch (s : State) : Switch → Debounce
  | .lid => s.lid
  | .strike => s.strike

/-- R33: the debounce context of an input replaced. -/
def State.withSwitch (s : State) (sw : Switch) (d : Debounce) : State :=
  match sw with
  | .lid => { s with lid := d }
  | .strike => { s with strike := d }

/-- Table 2-1: the debounce setting of an input, in ms. -/
def State.debounceMs (s : State) : Switch → Nat
  | .lid => s.service.debounceLid
  | .strike => s.service.debounceStrike

/-- R37, R38: the trip cause of an input. -/
def switchCause : Switch → Cause
  | .lid => .lid
  | .strike => .strike

/-- R37: LID_OPEN becoming true clears the redistribution count (R111). -/
def lidOpened (s : State) : State :=
  if s.lid.debounced then s else { s with session := { s.session with redist := 0 } }

/-- R35: the debounced state takes the raw level and the pending mark is cleared. -/
def Debounce.settle (d : Debounce) : Debounce := { d with debounced := d.raw, pending := false }

/-- R35: the debounced state of an input takes the raw level, with nothing handed on yet. -/
def takeLevel (sw : Switch) (s : State) : State := s.withSwitch sw (s.switch sw).settle

/-- R37, R38: what a change of a debounced state is handed on to, but for the trip unit: the event unit, and for the lid
the session controller. -/
def levelReaders : Switch → List (State → State)
  | .lid => [judgeLive .lidOpen, lidOpened]
  | .strike => [judgeLive .strike]

/-- R35, R37, R38: the debounced state of an input changes, and the change is handed on in the order left open (log 5). -/
def switchChanges (ch : Choice) (sw : Switch) (s : State) : State :=
  inOrder ch.effects (levelReaders sw ++ [judgeCauses ch [switchCause sw]]) (takeLevel sw s)

/-- R34: the raw level changes, with no other effect yet. -/
def toggleRaw (sw : Switch) (s : State) : State :=
  s.withSwitch sw { s.switch sw with raw := !(s.switch sw).raw }

/-- R34: a change of the raw level of an input. -/
def rawChange (ch : Choice) (sw : Switch) (s : State) : State :=
  let s := toggleRaw sw s
  if (s.switch sw).raw = (s.switch sw).debounced then s.withSwitch sw { s.switch sw with pending := false }
  else if s.debounceMs sw = 0 then switchChanges ch sw s
  else s.withSwitch sw { s.switch sw with pending := true, since := s.now }

/-- R35, R36: the timing of a pending change has run its time. -/
def State.debounceDue (s : State) (sw : Switch) : Bool :=
  (s.switch sw).pending && decide (s.debounceMs sw * Config.msMicros ≤ elapsed s.now (s.switch sw).since)

/-- R35: the debounce time of a pending change has passed. -/
def debounceExpires (ch : Choice) (sw : Switch) (s : State) : State :=
  if s.debounceDue sw then switchChanges ch sw s else s

end Sys2Proof.Machine
end

