-- ==== Sys2Proof/Machine/Estimator.lean ====
section
/-! DEFINITION. The imbalance estimator's shared operations: accumulation, the arithmetic of a counted revolution, the states, the revolution close and what its neighbours do with it (chapter 4, R155 for the report). -/

namespace Sys2Proof.Machine

/-! ### Accumulation -/

/-- R56: the terms a sample with angle `theta` adds. -/
def Accumulation.take (ax ay : Int) (theta : Nat) (a : Accumulation) : Accumulation :=
  { i := a.i + (ax * cosAu theta + ay * sinAu theta)
    q := a.q + (ay * cosAu theta - ax * sinAu theta)
    n := a.n + 1 }

/-- Table 4-1: an empty accumulation. -/
def Accumulation.empty : Accumulation := { i := 0, q := 0, n := 0 }

/-- R55: a sample given an angle is accumulated while an accumulation is open and holds N below 2047. -/
def Estimator.accumulate (ax ay : Int) (theta : Nat) (e : Estimator) : Estimator :=
  match e.state, e.acc with
  | .invalid, _ => e
  | _, none => e
  | _, some a => if a.n < 2047 then { e with acc := some (a.take ax ay theta) } else e

/-! ### The arithmetic of a counted revolution -/

/-- R58: one raw component, in sixteenths, saturated. -/
def rawComponent (sum : Int) (n : Nat) : Int := clampInt (-32767) 32767 (roundDiv (16 * sum) (n * 16384))

/-- R59: one filter step. -/
def filterStep (shift : Nat) (f r : Int) : Int := f + floorDiv (r - f) (2 ^ shift)

/-- R60: the magnitude. -/
def magnitude (fx fy : Int) : Nat := isqrt (fx.natAbs * fx.natAbs + fy.natAbs * fy.natAbs)

/-- R61: the mass in grams. -/
def massOf (m16 gain : Nat) : Nat := min 9999 (m16 * gain / 4096)

/-- R58 to R61: the estimate that a counted revolution of the sums `a` makes at the band `b`. -/
def Estimator.estimate (shift : Nat) (gain : Vector Nat 32) (b : Nat) (a : Accumulation) (e : Estimator) : Estimator :=
  let rx := rawComponent a.i a.n
  let ry := rawComponent a.q a.n
  let fx := if e.seed then rx else filterStep shift e.fx rx
  let fy := if e.seed then ry else filterStep shift e.fy ry
  { e with
    seed := false
    fx := fx
    fy := fy
    m16 := magnitude fx fy
    band := b
    u := massOf (magnitude fx fy) (look gain b 0) }

/-- R65, R66: the state after a counted revolution. -/
def Estimator.advance (primeRevs : Nat) (e : Estimator) : Estimator :=
  if e.state = .priming then
    let p := min 15 (e.priming + 1)
    { e with priming := p, state := if primeRevs ≤ p then .valid else .priming }
  else e

/-- R57: a thin revolution: discarded, the thin count advances, a new accumulation opens. -/
def Estimator.thinClose (e : Estimator) : Estimator :=
  { e with thin := min 255 (e.thin + 1), acc := some Accumulation.empty }

/-- R57: a counted revolution: estimated, the state stepped, a new accumulation opened. -/
def Estimator.countedClose (s : State) (a : Accumulation) (e : Estimator) : Estimator :=
  { (e.estimate s.spin.filterShift s.tables.gain (bandOf s.indexSpeed) a).advance s.spin.primeRevs with
    acc := some Accumulation.empty }

/-! ### Entering and leaving INVALID -/

/-- R63: the estimator as it enters INVALID. -/
def Estimator.lost (e : Estimator) : Estimator :=
  { e with state := .invalid, acc := none, priming := 0, u := 0, seed := true }

/-- R63, R68, R81, R101, R140: the estimator enters INVALID; from VALID the event unit, the governor and the session
controller follow in the order left open (log 5). The trip unit has nothing to do: MASS is false. -/
def estimatorInvalid (ch : Choice) (s : State) : State :=
  match s.est.state with
  | .invalid => s
  | .priming => { s with est := s.est.lost }
  | .valid =>
    inOrder ch.estimate
      [judgeLive .estimateValid, fun s => recompose { s with gov := { s.gov with rise := 0 } }, clearCounts]
      { s with est := s.est.lost }

/-- R64: at a pulse that begins a revolution with the angle valid, the estimator may leave INVALID. -/
def estimatorBegin (s : State) : State :=
  if s.est.state = .invalid ∧ s.mayPrime then
    { s with est := { s.est with state := .priming, priming := 0, acc := some Accumulation.empty } }
  else s

/-! ### The balance report -/

/-- R155, Table 1-8: the fields of a BALANCE REPORT at this moment. -/
def reportFrame (s : State) : QFrame :=
  { cls := reportClass
    payload :=
      be16 s.events.revNumber ++ u16Bytes s.indexSpeed ++ s16Bytes s.est.fx ++ s16Bytes s.est.fy ++
        u16Bytes s.est.u ++ u16Bytes s.gov.spin ++ [s.session.state.code, BitVec.ofNat 8 s.plateauIndex] ++
        s.ring.contents.toList.flatMap u16Bytes
    changed := false
    restated := false }

/-- R155: a waiting BALANCE REPORT. -/
def isReport (f : QFrame) : Bool := f.cls == reportClass

/-- R155, step 3: a report is made, and offered to the Port C local queue. -/
def makeReport (s : State) : State :=
  { s with
    events := { s.events with reportCount := 0 }
    portC := (s.portC.offerLocal isReport (reportFrame s)).kick s.now }

/-- R155: the event unit's part of a counted VALID revolution. -/
def reportClose (s : State) : State :=
  let s := { s with events := { s.events with revNumber := s.events.revNumber + 1 } }
  if s.service.reportEvery = 0 then { s with events := { s.events with reportCount := 0 } }
  else if s.service.reportEvery ≤ s.events.reportCount + 1 then makeReport s
  else { s with events := { s.events with reportCount := s.events.reportCount + 1 } }

/-! ### The revolution close -/

/-- R67, R90, R143, R155: the session controller, the trip unit and the event unit act on a counted VALID revolution. -/
def closeReaders (ch : Choice) : List (State → State) := [sessionClose ch, judgeCauses ch [.mass], reportClose]

/-- R67, R68: what follows a counted VALID revolution, in the order left open (log 5); `entered` says that this revolution
brought VALID. Then E_held has its value already (R81, log 7), the governor's part is the composition, and ESTIMATE_VALID
is offered at any place among them. -/
def closeEffects (ch : Choice) (entered : Bool) : List (State → State) :=
  if entered then
    placed (ch.estimate.headD 0) (judgeLive .estimateValid) (arrange ch.close (recompose :: closeReaders ch))
  else arrange ch.close (governorClose false :: closeReaders ch)

/-- R67, R76, R81: the neighbours act on a counted VALID revolution. At the one that brings VALID, E_held becomes a term
and takes its value afresh, so it takes it before any composition (log 7). -/
def neighboursAct (ch : Choice) (entered : Bool) (s : State) : State :=
  inTurn (closeEffects ch entered) (onlyIf entered (takeEnvelope true) s)

/-- R57, R64, R65, R67: a revolution close. -/
def revolutionClose (ch : Choice) (s : State) : State :=
  match s.est.state, s.est.acc with
  | .invalid, _ => estimatorBegin s
  | _, none => s
  | before, some a =>
    if a.n < 16 then { s with est := s.est.thinClose }
    else
      let s' := { s with est := s.est.countedClose s a }
      if s'.est.state = .valid then neighboursAct ch (before != .valid) s'
      else s'

end Sys2Proof.Machine
end

