-- ==== Sys2Proof/Machine/Angle.lean ====
section
/-! DEFINITION. The angle tracker: judging an index pulse, the loss of the index, the changes of the angle's validity handed on, and the angle of a sample (chapter 3). -/

namespace Sys2Proof.Machine

/-! ### Judging a pulse -/

/-- R44: the revolution mismatches: the record is fresh, D is 60 rpm or more, and |D − S| exceeds D div 8. -/
def mismatches (driveSpeed : Option Int) (s : Nat) : Bool :=
  match driveSpeed with
  | none => false
  | some v => decide (60 ≤ v.natAbs) && decide (v.natAbs / 8 < ((v.natAbs : Int) - (s : Int)).natAbs)

/-- R44: the mismatch count after the comparison. -/
def mismatchAfter (driveSpeed : Option Int) (period count : Nat) : Nat :=
  if mismatches driveSpeed (measuredSpeed period) then min 4 (count + 1) else 0

/-- What an index pulse brings about besides the tracker's own fields (R40 to R42). -/
inductive PulseOutcome where
  /-- R40: not accepted. -/
  | glitch
  /-- Accepted, with nothing handed on: UNTIMED or TIMING to TIMING, HELD to HELD or TIMING. -/
  | quiet
  /-- R45: LOCKED to LOCKED. -/
  | closed
  /-- R47: the angle becomes valid. -/
  | gained
  /-- R47: the angle becomes invalid. -/
  | lost
  deriving DecidableEq, Repr

/-- R40: the least interval accepted. -/
def Tracker.minInterval (t : Tracker) : Nat :=
  match t.state with
  | .locked | .held => max Config.minPeriod (t.period.getD 0 / 2)
  | .untimed | .timing => Config.minPeriod

/-- R41, R42: the tracker timing from `now`, with no period. -/
def Tracker.timingFrom (now : Time) : Tracker := { state := .timing, lastIndex := some now, period := none, mismatch := 0 }

/-- R41, R42: the tracker with the period of an accepted pulse, `count` being the mismatch count after R44. -/
def Tracker.timed (now : Time) (period count : Nat) : Tracker :=
  { state := if count < 4 then .locked else .held, lastIndex := some now, period := some period, mismatch := count }

/-- R41, R42: what an accepted pulse that gives a period hands on. -/
def timedOutcome (before after : TrackerState) : PulseOutcome :=
  match before, after with
  | .locked, .locked => .closed
  | .locked, _ => .lost
  | _, .locked => .gained
  | _, _ => .quiet

/-- R41, R42: an accepted pulse whose interval is `d`. In TIMING an interval above 2,000,000 µs restarts the timing
(R46 ends TIMING before it can arise; log 16). -/
def Tracker.accept (now : Time) (driveSpeed : Option Int) (d : Nat) (t : Tracker) : Tracker × PulseOutcome :=
  if Config.maxPeriod < d then (Tracker.timingFrom now, if t.state = .locked then .lost else .quiet)
  else
    let t' := Tracker.timed now d (mismatchAfter driveSpeed d (if t.state = .timing then 0 else t.mismatch))
    (t', timedOutcome t.state t'.state)

/-- R40 to R42: an index pulse at `now`. -/
def Tracker.pulse (now : Time) (driveSpeed : Option Int) (t : Tracker) : Tracker × PulseOutcome :=
  match t.state, t.lastIndex with
  | .untimed, _ => (Tracker.timingFrom now, .quiet)
  | _, none => (Tracker.timingFrom now, .quiet)
  | _, some since =>
    if elapsed now since < t.minInterval then (t, .glitch) else t.accept now driveSpeed (elapsed now since)

/-! ### The angle's validity handed on -/

/-- R47, R130, R131: an injection in progress ends ABORTED, and the session hears of it. -/
def abortForAngle (ch : Choice) (s : State) : State :=
  if s.ring.ctx.state = .active then endInjection ch false .aborted s else s

/-- R47: the angle has become invalid, and the change is handed on to the estimator, the ring controller, the users of
the speed and the event unit. R47 states no order among the four; it is `Choice.angle` (log 5). -/
def angleLost (ch : Choice) (s : State) : State :=
  inOrder ch.angle [estimatorInvalid ch, abortForAngle ch, speedChanged ch, judgeLive .indexLoss] s

/-- R47, R64, R101: the angle has become valid, and a revolution begins. The order of the blocks is `Choice.angle`
(log 5). -/
def angleGained (ch : Choice) (s : State) : State :=
  beginCounting (inOrder ch.angle [estimatorBegin, speedChanged ch, judgeLive .indexLoss] s)

/-- R42, R45, R101: an accepted pulse that leaves the tracker LOCKED: P and the index speed have changed, the revolution
closes and the next begins. -/
def angleClosed (ch : Choice) (s : State) : State :=
  beginCounting (revolutionClose ch (speedChanged ch (updateLead s)))

/-- R40, R42, R45, R47: what a pulse hands on. -/
def handPulse (ch : Choice) (o : PulseOutcome) (s : State) : State :=
  match o with
  | .glitch => countSource .indexGlitch s
  | .quiet => s
  | .closed => angleClosed ch s
  | .gained => angleGained ch s
  | .lost => angleLost ch s

/-- R40: an index pulse. VALVE follows the angle that the pulse gives (R126). -/
def indexPulse (ch : Choice) (s : State) : State :=
  let r := s.tracker.pulse s.now s.driveSpeed
  handPulse ch r.2 (judgeValve { s with tracker := r.1 })

/-! ### Loss of the index -/

/-- R46: the index is lost at this moment. -/
def Tracker.indexDue (now : Time) (t : Tracker) : Bool :=
  match t.state, t.lastIndex with
  | .untimed, _ => false
  | _, none => false
  | .timing, some since => decide (Config.maxPeriod < elapsed now since)
  | _, some since => decide (2 * t.period.getD 0 < elapsed now since)

/-- R46: the tracker once the index is lost. -/
def Tracker.indexGone (t : Tracker) : Tracker :=
  match t.state with
  | .locked | .held =>
    if t.period.getD 0 < 1000000 then { t with state := .timing, period := none, mismatch := 0 } else Tracker.reset
  | .untimed | .timing => Tracker.reset

/-- R46, R47: the index is lost. -/
def indexLost (ch : Choice) (s : State) : State :=
  if s.tracker.indexDue s.now then
    let s' := { s with tracker := s.tracker.indexGone }
    if s.angleValid then angleLost ch s' else s'
  else s

/-! ### The angle of a sample -/

/-- R49: what the tracker says of a sample. -/
inductive SampleAngle where
  | noAngle
  | early
  | late
  | angle (theta : Nat)
  deriving DecidableEq, Repr

/-- R49: the angle of a sample whose low check byte arrives now. -/
def State.sampleAngle (s : State) : SampleAngle :=
  match s.tracker.state, s.tracker.lastIndex, s.tracker.period with
  | .locked, some since, some p =>
    let d := elapsed s.now since
    if d < s.spin.sensorLatency then .early
    else if d - s.spin.sensorLatency < p then .angle ((d - s.spin.sensorLatency) * Config.turn / p)
    else .late
  | _, _, _ => .noAngle

end Sys2Proof.Machine
end

