-- ==== Sys2Proof/Machine/Framer.lean ====
section
/-! DEFINITION. The receive framer (R4, R5, R6): the byte steps, the faults of Table 1-12, the re-examination of stored bytes, and the timeout. -/

namespace Sys2Proof.Machine

/-- What a framer finds at a byte. -/
inductive Found where
  | nothing
  /-- A fault of Table 1-12 other than the timeout and the stop bit. -/
  | fault
  /-- R6: a good frame. -/
  | good (cls : Class) (seq : Byte) (payload : List Byte)
  deriving DecidableEq, Repr

/-- What a framer hands on: a frame error (R5) or a frame taken (R6). -/
inductive Report where
  | error
  | taken (cls : Class) (seq : Byte) (payload : List Byte)
  deriving DecidableEq, Repr

/-- R4, R5: the framer in HUNT with no stored bytes. -/
def Framer.hunting (f : Framer) : Framer := { f with phase := .hunt, stored := [] }

/-- R5: the class byte is one a frame of the link may have. -/
def classLegal (link : Link) (v : Byte) : Bool :=
  decide (v.toNat < 64) && (link != .portS || v == sampleClass.setWidth 8)

/-- The class of the frame under assembly. -/
def Framer.cls (f : Framer) : Class := (f.stored.getD 1 0).setWidth 6

/-- The sequence byte of the frame under assembly. -/
def Framer.seq (f : Framer) : Byte := f.stored.getD 2 0

/-- The payload bytes of a frame under assembly that holds both check bytes. -/
def Framer.payload (f : Framer) : List Byte := (f.stored.drop 4).take f.length

/-- R2: the check received equals the check computed. -/
def Framer.checks (f : Framer) : Bool :=
  crc ((f.stored.drop 1).take (3 + f.length)) == f.stored.getD (4 + f.length) 0 ++ f.stored.getD (5 + f.length) 0

/-- The framer with one more byte stored. -/
def Framer.store (v : Byte) (f : Framer) : Framer := { f with stored := f.stored ++ [v] }

/-- R4, R5: HEADER takes a byte. -/
def Framer.header (link : Link) (v : Byte) (f : Framer) : Framer × Found :=
  let g := f.store v
  if f.stored.length = 1 then (g, if classLegal link v then .nothing else .fault)
  else if f.stored.length = 2 then (g, .nothing)
  else if lengthAllowed g.cls v.toNat then
    ({ g with length := v.toNat, phase := if v.toNat = 0 then .check else .payload }, .nothing)
  else (g, .fault)

/-- R4, R5, R6: one byte with its stop bit high, from the line or examined again. -/
def Framer.examine (link : Link) (v : Byte) (f : Framer) : Framer × Found :=
  match f.phase with
  | .hunt => if v = 0xA5 then ({ f with phase := .header, stored := [v] }, .nothing) else (f, .nothing)
  | .header => f.header link v
  | .payload =>
    let g := f.store v
    ({ g with phase := if g.stored.length = 4 + g.length then .check else .payload }, .nothing)
  | .check =>
    let g := f.store v
    if g.stored.length = 6 + g.length then
      if g.checks then (g.hunting, .good g.cls g.seq g.payload) else (g, .fault)
    else (g, .nothing)

/-- R5: bytes examined in turn; at a fault the start byte goes and the stored bytes behind it are examined again before
the rest. The first argument bounds the steps (log 30). -/
def Framer.work (link : Link) : Nat → List Byte → Framer → Framer × List Report
  | 0, _, f => (f, [])
  | _, [], f => (f, [])
  | n + 1, v :: rest, f =>
    match f.examine link v with
    | (g, .nothing) => Framer.work link n rest g
    | (g, .good cls seq payload) =>
      let r := Framer.work link n rest g
      (r.1, .taken cls seq payload :: r.2)
    | (g, .fault) =>
      let r := Framer.work link n (g.stored.tail ++ rest) g.hunting
      (r.1, .error :: r.2)

/-- Log 30: steps enough for one byte from the line: no pass over the bytes held is longer than they are, and each fault
discards one of them. -/
def Framer.fuel (f : Framer) : Nat := (f.stored.length + 2) * (f.stored.length + 2)

/-- R5: the framer's frame under assembly has timed out at `now`. -/
def Framer.overdue (now : Time) (f : Framer) : Bool :=
  (f.phase != .hunt) && decide (Config.byteGapMicros < elapsed now f.lastByte)

/-- R4, R5: a byte from the line while no timeout is due. -/
def Framer.receive (link : Link) (now : Time) (b : LineByte) (f : Framer) : Framer × List Report :=
  if b.stopHigh then Framer.work link f.fuel [b.value] { f with lastByte := now }
  else ({ f.hunting with lastByte := now }, if f.phase = .hunt then [] else [.error])

/-- R4, R5: a byte from the line. A frame that has already timed out is abandoned first (log 12). -/
def Framer.line (link : Link) (now : Time) (b : LineByte) (f : Framer) : Framer × List Report :=
  if f.overdue now then
    let r := f.hunting.receive link now b
    (r.1, .error :: r.2)
  else f.receive link now b

end Sys2Proof.Machine
end

