-- ==== Sys2Proof/Machine/Requests.lean ====
section
/-! DEFINITION. What the session controller does with a request: session start, run-down and resumption, and the requested demand record (chapter 6, R10; R139 for the DRIVE cause at a session start). -/

namespace Sys2Proof.Machine

/-! ### Requests -/

/-- R113: entry to RUNDOWN, judged at once. -/
def enterRundown (ch : Choice) (s : State) : State :=
  retainCheck ch (abandonWeighing (setSession ch .rundown (abortCorrection s)))

/-- R100, R116, R117, R139: the session leaves IDLE for CLIMB or OPEN; its live conditions, the ceilings, the trip unit
with the DRIVE cause and, in CLIMB, the judging under R100 follow in the order left open (log 5), so a trip by DRIVE may
find the session in CLIMB or already in DWELL. -/
def leaveIdle (ch : Choice) (st : SessionState) (s : State) : State :=
  inOrder ch.session (sessionEvents ++ [recompose, judgeCause ch .drive, climbCheck ch]) (withSession st s)

/-- R99, step 5: CLIMB if a plateau applies, judged at once under R100 (before or after the trip by DRIVE: log 5), and OPEN
if none does, with the redistribution count cleared (R111). -/
def startEntry (ch : Choice) (s : State) : State :=
  if s.currentPlateau.isSome then leaveIdle ch .climb s
  else leaveIdle ch .opened { s with session := { s.session with redist := 0 } }

/-- R99: a session starts. -/
def startSession (ch : Choice) (s : State) : State :=
  startEntry ch
    (armWeighing
      { s with
        session := { s.session with progress := Vector.replicate 6 Progress.reset, corrections := [] }
        ring := { s.ring with available := true } })

/-- R98, Table 6-3: the transitions that a spin request makes. -/
def spinRequest (ch : Choice) (s : State) : State :=
  match s.session.state with
  | .idle => startSession ch s
  | .climb | .dwell | .settle => if s.currentPlateau.isSome then s else enterOpen ch s
  | .correct => if s.currentPlateau.isSome then s else enterOpen ch (abortCorrection s)
  | .opened => if s.currentPlateau.isSome then enterClimb ch s else s
  | .rundown => enterClimbOrOpen ch s
  | .limited | .holdDown | .tripped => s

/-- R98, Table 6-3: the transitions that an ending request makes. -/
def endingRequest (ch : Choice) (s : State) : State :=
  match s.session.state with
  | .climb | .dwell | .settle | .correct | .opened | .limited => enterRundown ch s
  | .idle | .holdDown | .rundown | .tripped => s

/-- R97, R98, R10 stage 2: the requested demand record takes a value and the session controller acts on it; the
ceilings that follow are in force at the end. -/
def takeRequest (ch : Choice) (mode : Byte) (target : Int) (s : State) : State :=
  let s := { s with requested := { mode := mode, target := target } }
  recompose (if isSpinRequest s.spin.blindCeiling mode target then spinRequest ch s else endingRequest ch s)

end Sys2Proof.Machine
end

