-- ==== Sys2Proof/Machine/Taken.lean ====
section
/-! DEFINITION. What a frame taken does (R6 to R11, R25 to R31, R159): the sequence checks, the silence timers, the class table, GOVERN, INSPECT, CONSUME, PASS and DROP, and the sample intake; and what each framer hands on. -/

namespace Sys2Proof.Machine

/-! ### Sequence checks and silence timers -/

/-- R7: the sequence differs from the last plus one while the check is armed. -/
def RxCheck.gap (seq : Byte) (r : RxCheck) : Bool := r.armed && seq != r.lastSeq + 1

/-- R7: the sequence check of a frame taken at Port C. -/
def checkSeqC (seq : Byte) (s : State) : State :=
  let s' := { s with rxC := { lastSeq := seq, armed := true } }
  if s.rxC.gap seq then countSource .seqGap s' else s'

/-- R7: the sequence check of a frame taken at Port D. -/
def checkSeqD (seq : Byte) (s : State) : State :=
  let s' := { s with rxD := { lastSeq := seq, armed := true } }
  if s.rxD.gap seq then countSource .seqGap s' else s'

/-- R23, R24: a good frame at Port C restarts its silence timer and ends CONTROLLER_SILENT and ORPHAN STOP. -/
def heardC (s : State) : State :=
  judgeLive .controllerSilent
    { s with silence := { s.silence with controllerSince := s.now, controllerSilent := false, orphan := none } }

/-! ### The class table -/

/-- R8: the action of a class entry for a port. -/
def State.action (s : State) (port : Port) (cls : Class) : Action :=
  match fixedAction port cls with
  | some a => a
  | none =>
    let e := look s.classTable cls.toNat { atC := .pass, atD := .pass }
    match (match port with | .c => e.atC | .d => e.atD) with
    | .pass => .pass
    | .drop => .drop

/-- A frame offered to a queue with no mark. -/
def plainFrame (cls : Class) (payload : List Byte) : QFrame :=
  { cls, payload, changed := false, restated := false }

/-- R9, PASS: the frame is offered to the forwarded queue of the other port. -/
def passFrame (ch : Choice) (port : Port) (cls : Class) (payload : List Byte) (s : State) : State :=
  match port with
  | .c => offerForwardedD ch (plainFrame cls payload) s
  | .d => offerForwardedC ch (plainFrame cls payload) s

/-- R10, stage 1: the target clamped on receipt. -/
def receivedTarget (payload : List Byte) : Int := clampInt (-1500) 1500 (demandTarget payload)

/-- R10, stage 1: the SPEED DEMAND as it joins its queue. -/
def receivedDemand (payload : List Byte) : QFrame :=
  { cls := speedDemandClass
    payload :=
      demandPayload (receivedTarget payload) (demandRamp payload) (demandMode payload) (demandFlags payload)
    changed := receivedTarget payload != demandTarget payload
    restated := false }

/-- R10: a SPEED DEMAND taken at Port C. A session that leaves IDLE with the drive silent has tripped before the frame
joins its queue; the frame then removes the trip's restated demand, and leaves as the trip stop (R139, log 33). -/
def governFrame (ch : Choice) (payload : List Byte) (s : State) : State :=
  startAfter
    (fun s => offerDemandD ch (receivedDemand payload) (takeRequest ch (demandMode payload) (receivedTarget payload) s)) s

/-- R11, stage 1 and the marks of stage 2: the record and the timer. -/
def recordStatus (payload : List Byte) (s : State) : State :=
  { s with
    drive :=
      { speed := clampInt (-1500) 1500 (field16 payload 0).toInt, torque := (field16 payload 2).toInt, time := s.now }
    silence := { s.silence with driveSince := s.now, driveSilent := false } }

/-- R11, stages 2 and 3: DRIVE_SILENT is false, and then the frame is offered to the Port C forwarded queue. -/
def forwardStatus (ch : Choice) (payload : List Byte) (s : State) : State :=
  offerForwardedC ch (plainFrame driveStatusClass payload) (judgeLive .driveSilent s)

/-- R11: a DRIVE STATUS taken at Port D. Where among the record's readers stage 3 stands, and their own order, is left
open (log 5). -/
def inspectFrame (ch : Choice) (payload : List Byte) (s : State) : State :=
  inOrder ch.readers (recordReaders ch ++ [examineStatus, forwardStatus ch payload]) (recordStatus payload s)

/-- R9, R159: a MANAGEMENT REQUEST joins the request queue, or is dropped. -/
def consumeFrame (payload : List Byte) (s : State) : State :=
  if s.requests.length < Config.requestCapacity then { s with requests := s.requests ++ [requestOf payload] }
  else countSource .drops s

/-- R9: a frame taken at Port C or Port D is disposed of by its class entry. -/
def dispose (ch : Choice) (port : Port) (cls : Class) (payload : List Byte) (s : State) : State :=
  match s.action port cls with
  | .pass => passFrame ch port cls payload s
  | .drop => s
  | .govern => governFrame ch payload s
  | .inspect => inspectFrame ch payload s
  | .consume => consumeFrame payload s

/-- R6: a frame taken at Port C or Port D. -/
def portTaken (ch : Choice) (port : Port) (cls : Class) (seq : Byte) (payload : List Byte) (s : State) : State :=
  dispose ch port cls payload
    (match port with
     | .c => inOrder ch.effects [checkSeqC seq, heardC] s
     | .d => checkSeqD seq s)

/-! ### The sample intake -/

/-- R25, stage 1: the sensor silence timer restarts, and SENSOR_LOSS becomes false. -/
def heardS (s : State) : State :=
  judgeLive .sensorLoss { s with intake := { s.intake with since := s.now, loss := false } }

/-- R29: the sample count differs from the last plus one while the check is armed. -/
def Intake.gap (count : Byte) (i : Intake) : Bool := i.armed && count != i.lastCount + 1

/-- R25, stage 2; R29. -/
def checkCount (count : Byte) (s : State) : State :=
  let s' := { s with intake := { s.intake with lastCount := count, armed := true } }
  if s.intake.gap count then countSource .seqGap s' else s'

/-- R27: an ax or ay field clamped. -/
def clampSample (w : Word) : Int := clampInt (-8000) 8000 w.toInt

/-- R26, R27, R28: the last sample record of a sample taken now. -/
def sampleRecord (now : Time) (latency : Nat) (payload : List Byte) : SampleRecord :=
  { present := true
    count := field8 payload 0
    ax := clampSample (field16 payload 1)
    ay := clampSample (field16 payload 3)
    az := (field16 payload 5).toInt
    saturated :=
      clampSample (field16 payload 1) != (field16 payload 1).toInt ||
        clampSample (field16 payload 3) != (field16 payload 3).toInt
    timestamp := now - BitVec.ofNat 32 latency }

/-- R25, stages 3 and 4. -/
def recordSample (payload : List Byte) (s : State) : State :=
  { s with intake := { s.intake with last := sampleRecord s.now s.spin.sensorLatency payload } }

/-- R25, stages 5 and 6; R49, R55. -/
def useSample (s : State) : State :=
  match s.sampleAngle with
  | .angle theta => { s with est := s.est.accumulate s.intake.last.ax s.intake.last.ay theta }
  | .noAngle | .early | .late => s

/-- R25: a SAMPLE taken at Port S. -/
def sampleFrame (payload : List Byte) (s : State) : State :=
  useSample (recordSample payload (checkCount (field8 payload 0) (heardS s)))

/-! ### The framers -/

/-- The framer of a link. -/
def State.framer (s : State) : Link → Framer
  | .portC => s.framerC
  | .portD => s.framerD
  | .portS => s.framerS

/-- The framer of a link replaced. -/
def State.withFramer (s : State) (link : Link) (f : Framer) : State :=
  match link with
  | .portC => { s with framerC := f }
  | .portD => { s with framerD := f }
  | .portS => { s with framerS := f }

/-- R5: the frame-error source of a link. -/
def errorSource : Link → Source
  | .portC => .frameErrC
  | .portD => .frameErrD
  | .portS => .frameErrS

/-- R6: a frame taken on a link. -/
def frameTaken (ch : Choice) (link : Link) (cls : Class) (seq : Byte) (payload : List Byte) (s : State) : State :=
  match link with
  | .portC => portTaken ch .c cls seq payload s
  | .portD => portTaken ch .d cls seq payload s
  | .portS => sampleFrame payload s

/-- R5, R6: what a framer hands on takes effect. -/
def actOn (ch : Choice) (link : Link) (r : Report) (s : State) : State :=
  match r with
  | .error => countSource (errorSource link) s
  | .taken cls seq payload => frameTaken ch link cls seq payload s

/-- R4, R5, R6: a byte from the line arrives at the framer of a link. -/
def lineByte (ch : Choice) (link : Link) (b : LineByte) (s : State) : State :=
  let r := (s.framer link).line link s.now b
  r.2.foldl (fun s x => actOn ch link x s) (s.withFramer link r.1)

/-- R5: the framer of a link times out, if it is due. -/
def framerTimeout (link : Link) (s : State) : State :=
  if (s.framer link).overdue s.now then
    countSource (errorSource link) (s.withFramer link (s.framer link).hunting)
  else s

/-- R6: a whole good frame is taken at this moment: its low check byte is the last byte of the line, and the framer
stands in HUNT (log 10). A payload of a length that no good frame of the class has is no frame. -/
def wholeFrame (ch : Choice) (link : Link) (cls : Class) (seq : Byte) (payload : List Byte) (s : State) : State :=
  if lengthAllowed cls payload.length then
    frameTaken ch link cls seq payload
      (s.withFramer link { phase := .hunt, stored := [], lastByte := s.now, length := payload.length })
  else s

end Sys2Proof.Machine
end

