-- ==== Sys2Proof/Machine/Objects.lean ====
section
/-! DEFINITION. The objects of the management requests: their sizes, the reading of their elements (Tables 10-2 to 10-4), the storing of a written element with its clamp, and the effects that an accepted write has (R162 to R164). -/

namespace Sys2Proof.Machine

/-! ### The catalogue -/

/-- Table 10-2: the number of elements of an object. -/
def objectSize (obj : Byte) : Option Nat :=
  if obj = 0x01 then some 64 else if obj = 0x10 then some 128 else if obj = 0x11 then some 32
  else if obj = 0x12 then some 32 else if obj = 0x13 then some 32 else if obj = 0x14 then some 36
  else if obj = 0x15 then some 3 else if obj = 0x20 then some 21 else if obj = 0x21 then some 5
  else if obj = 0x30 then some 2 else if obj = 0x40 then some 21 else if obj = 0x50 then some 30
  else if obj = 0x51 then some 18 else if obj = 0x52 then some 72 else if obj = 0x53 then some 7
  else if obj = 0x60 then some 2 else none

/-! ### Reading -/

/-- R8, Table 1-11: a class entry as an element, the Port D action in the high byte. -/
def State.classWord (s : State) (i : Nat) : Word :=
  actionCode (s.action .d (BitVec.ofNat 6 i)) ++ actionCode (s.action .c (BitVec.ofNat 6 i))

/-- Table 10-3: the spin settings as elements 0..20 of object 0x20. -/
def SpinSettings.list (p : SpinSettings) : List Nat :=
  [p.blindCeiling, p.agitateLimit, p.retainSpeed, p.filterShift, p.primeRevs, p.hystRevs, p.downRamp, p.defaultClass,
    p.weighLo, p.weighHi, p.maxRedist, p.chamberCap, p.flowGrams, p.flowTimeout, p.flowTail, p.bleedRate,
    p.nozzleOffset, p.guardAngle, p.valveLead, p.sensorLatency, p.tripRamp]

/-- Object 0x21. -/
def State.serviceWords (s : State) : List Word :=
  [uWord s.service.reportEvery, uWord s.service.debounceLid, uWord s.service.debounceStrike,
    uWord s.monitor.source.code, markWord s.monitor.auto]

/-- Object 0x30; an unset limit reads 0 (R163). -/
def State.limitWords (s : State) : List Word := [uWord (s.limits.abs.getD 0), uWord (s.limits.mass.getD 0)]

/-- Table 10-4, object 0x40. -/
def Events.words (e : Events) : List Word :=
  [e.live, e.latch, e.report, e.attention, e.edge] ++ e.counts.toList.map fun c => c.setWidth 16

/-- Table 10-4, object 0x50. -/
def State.estimateWords (s : State) : List Word :=
  let p : Time := BitVec.ofNat 32 (s.tracker.period.getD 0)
  [uWord s.tracker.state.code, timeHigh p, timeLow p, uWord s.indexSpeed, uWord s.tracker.mismatch] ++
  [uWord s.est.state.code, uWord s.est.priming, sWord s.est.fx, sWord s.est.fy, uWord s.est.m16, uWord s.est.band,
    uWord s.est.u, uWord s.est.thin, uWord s.weigh.state.code, uWord s.weigh.n, uWord s.weigh.j, uWord s.loadClass] ++
  [uWord s.gov.eHeld, uWord s.gov.eNew, uWord s.gov.rise, uWord s.gov.spin, uWord s.gov.agitate] ++
  [markWord s.intake.last.present, s.intake.last.count.setWidth 16, sWord s.intake.last.ax, sWord s.intake.last.ay,
    sWord s.intake.last.az, markWord s.intake.last.saturated, timeHigh s.intake.last.timestamp,
    timeLow s.intake.last.timestamp]

/-- Table 10-4, object 0x51. -/
def Ring.words (r : Ring) : List Word :=
  (r.contents.toList.map uWord) ++ [markWord r.available] ++
  [uWord r.ctx.state.code, uWord r.ctx.chamber.val, uWord r.ctx.requested, uWord r.ctx.credited,
    uWord r.ctx.tailCredited, timeHigh r.ctx.start, timeLow r.ctx.start, timeHigh r.ctx.lastPulse,
    timeLow r.ctx.lastPulse, timeHigh r.ctx.endTime, timeLow r.ctx.endTime, uWord r.ctx.outcome.code,
    uWord r.strayCount]

/-- R109: a correction record as six elements. -/
def Correction.words (c : Correction) : List Word :=
  [uWord c.plateau.val, uWord c.chamber.val, uWord c.requested, uWord c.credited, uWord c.outcome.code, uWord c.uPlan]

/-- R96: a progress record as three elements. -/
def Progress.words (p : Progress) : List Word := [markWord p.passed, uWord p.attempts, uWord p.uLast]

/-- Table 10-4, object 0x52. -/
def Session.words (x : Session) : List Word :=
  [x.state.code.setWidth 16, uWord ((x.failed.map Fin.val).getD 255), uWord x.dwell, uWord x.settle] ++
  x.progress.toList.flatMap Progress.words ++ [uWord x.redist, uWord x.corrections.length] ++
  x.corrections.flatMap Correction.words ++ List.replicate (48 - 6 * x.corrections.length) 0

/-- Table 10-4, object 0x53. -/
def State.tripWords (s : State) : List Word :=
  [markWord s.trip.latch, uWord (causeCode s.trip.first), s.trip.causes.word, sWord s.trip.speed,
    uWord s.trip.source.code, uWord s.trip.u, s.conditionsWord]

/-- R162: the elements of an object as they stand. -/
def State.objectWords (s : State) (obj : Byte) : List Word :=
  if obj = 0x01 then (List.range 64).map s.classWord
  else if obj = 0x10 then s.tables.envelope.toList.map uWord
  else if obj = 0x11 then s.tables.rampLimit.toList.map uWord
  else if obj = 0x12 then s.tables.gain.toList.map uWord
  else if obj = 0x13 then s.tables.phase.toList.map uWord
  else if obj = 0x14 then s.tables.plateau.toList.map uWord
  else if obj = 0x15 then s.tables.weighThresh.toList.map uWord
  else if obj = 0x20 then s.spin.list.map uWord
  else if obj = 0x21 then s.serviceWords
  else if obj = 0x30 then s.limitWords
  else if obj = 0x40 then s.events.words
  else if obj = 0x50 then s.estimateWords
  else if obj = 0x51 then s.ring.words
  else if obj = 0x52 then s.session.words
  else if obj = 0x53 then s.tripWords
  else if obj = 0x60 then [uWord s.monitor.count, uWord s.monitor.holding]
  else []

/-- R163: `n` elements of an object from an index on. -/
def State.readWords (s : State) (obj : Byte) (idx n : Nat) : List Word := ((s.objectWords obj).drop idx).take n

/-! ### Storing -/

/-- R54, R74, R92, R118, R121, R125, R126, R127, R129, R132, R135, R147, section 10.3: the ranges of object 0x20. -/
def spinRange (i : Nat) : Nat × Nat :=
  [(40, 300), (0, 300), (30, 200), (0, 4), (1, 15), (1, 63), (10, 600), (0, 3), (30, 400), (50, 600), (0, 7), (50, 1000),
    (1, 16), (200, 5000), (0, 1000), (0, 50), (0, 65535), (0, 4096), (0, 20000), (0, 2000), (100, 2000)].getD i (0, 65535)

/-- Table 10-3: a spin setting takes a value. -/
def SpinSettings.set (p : SpinSettings) (i v : Nat) : SpinSettings :=
  match i with
  | 0 => { p with blindCeiling := v }
  | 1 => { p with agitateLimit := v }
  | 2 => { p with retainSpeed := v }
  | 3 => { p with filterShift := v }
  | 4 => { p with primeRevs := v }
  | 5 => { p with hystRevs := v }
  | 6 => { p with downRamp := v }
  | 7 => { p with defaultClass := v }
  | 8 => { p with weighLo := v }
  | 9 => { p with weighHi := v }
  | 10 => { p with maxRedist := v }
  | 11 => { p with chamberCap := v }
  | 12 => { p with flowGrams := v }
  | 13 => { p with flowTimeout := v }
  | 14 => { p with flowTail := v }
  | 15 => { p with bleedRate := v }
  | 16 => { p with nozzleOffset := v }
  | 17 => { p with guardAngle := v }
  | 18 => { p with valveLead := v }
  | 19 => { p with sensorLatency := v }
  | 20 => { p with tripRamp := v }
  | _ => p

/-- R94, Table 6-1: a plateau field's value clamped; a speed of 0 stays 0. -/
def clampPlateau (field v : Nat) : Nat :=
  match field with
  | 0 => if v = 0 then 0 else clampNat 30 1200 v
  | 1 => clampNat 1 255 v
  | 2 => min 9999 v
  | 3 => min 1000 v
  | 4 => min 63 v
  | _ => min 7 v

/-- R156, R158: the monitor counter's source takes a value. -/
def Monitor.setSource (now : Time) (src : Source) (m : Monitor) : Monitor :=
  if m.source = src then m
  else { m with source := src, count := 0, holding := 0, timer := if m.auto then some now else none }

/-- R157, R158: the monitor counter's mode takes a value. -/
def Monitor.setMode (now : Time) (auto : Bool) (m : Monitor) : Monitor :=
  if m.auto = auto then m else { m with auto := auto, timer := if auto then some now else none }

/-- R33, R155, R156: an element of object 0x21 is stored. -/
def storeService (i v : Nat) (s : State) : State :=
  match i with
  | 0 => { s with service := { s.service with reportEvery := min 255 v }, events := { s.events with reportCount := 0 } }
  | 1 => { s with service := { s.service with debounceLid := clampNat 1 255 v } }
  | 2 => { s with service := { s.service with debounceStrike := min 255 v } }
  | 3 => { s with monitor := s.monitor.setSource s.now (sourceOf v) }
  | 4 => { s with monitor := s.monitor.setMode s.now (v != 0) }
  | _ => s

/-- R87, R140: an element of object 0x30 is stored. -/
def storeLimit (i v : Nat) (s : State) : State :=
  match i with
  | 0 => { s with limits := { s.limits with abs := some (clampNat 300 1500 v) } }
  | 1 => { s with limits := { s.limits with mass := some (clampNat 100 9999 v) } }
  | _ => s

/-- R8, R164: an entry of the class table is stored; an unknown action code stores PASS. -/
def storeClass (i : Nat) (w : Word) (s : State) : State :=
  { s with
    classTable := put s.classTable i { atC := disposalOf (w.extractLsb' 0 8), atD := disposalOf (w.extractLsb' 8 8) } }

/-- R164: one element of an object is stored, clamped to its range. -/
def storeElement (obj : Byte) (i : Nat) (w : Word) (s : State) : State :=
  let v := w.toNat
  if obj = 0x01 then storeClass i w s
  else if obj = 0x10 then { s with tables := { s.tables with envelope := put s.tables.envelope i (min 9999 v) } }
  else if obj = 0x11 then { s with tables := { s.tables with rampLimit := put s.tables.rampLimit i (min 2000 v) } }
  else if obj = 0x12 then { s with tables := { s.tables with gain := put s.tables.gain i v } }
  else if obj = 0x13 then { s with tables := { s.tables with phase := put s.tables.phase i v } }
  else if obj = 0x14 then
    { s with tables := { s.tables with plateau := put s.tables.plateau i (clampPlateau (i % 6) v) } }
  else if obj = 0x15 then { s with tables := { s.tables with weighThresh := put s.tables.weighThresh i v } }
  else if obj = 0x20 then { s with spin := s.spin.set i (clampNat (spinRange i).1 (spinRange i).2 v) }
  else if obj = 0x21 then storeService i v s
  else if obj = 0x30 then storeLimit i v s
  else if obj = 0x51 then { s with ring := { s.ring with contents := put s.ring.contents i (min s.spin.chamberCap v) } }
  else s

/-- R164: the elements of a write are stored in index order. -/
def storeElements (obj : Byte) : Nat → List Word → State → State
  | _, [], s => s
  | i, w :: ws, s => storeElements obj (i + 1) ws (storeElement obj i w s)

/-- The write addresses element `e`. -/
def touches (idx n e : Nat) : Bool := decide (idx ≤ e) && decide (e < idx + n)

/-- R74: WEIGH_HI below WEIGH_LO + 20 is clamped to it. -/
def SpinSettings.weighClamp (p : SpinSettings) : SpinSettings :=
  if p.weighHi < p.weighLo + 20 then { p with weighHi := p.weighLo + 20 } else p

/-- R74: the comparison of WEIGH_HI with WEIGH_LO after a write that touches either. -/
def weighFix (obj : Byte) (idx n : Nat) (s : State) : State :=
  if obj = 0x20 ∧ (touches idx n 8 || touches idx n 9) then { s with spin := s.spin.weighClamp } else s

/-- R121: contents above a newly written CHAMBER_CAP take it. -/
def capFix (obj : Byte) (idx n : Nat) (s : State) : State :=
  if obj = 0x20 ∧ touches idx n 11 then
    { s with ring := { s.ring with contents := mapAll (fun g => min s.spin.chamberCap g) s.ring.contents } }
  else s

/-- R164: the whole of what a write stores, its clamps made. -/
def storeWrite (obj : Byte) (idx : Nat) (ws : List Word) (s : State) : State :=
  capFix obj idx ws.length (weighFix obj idx ws.length (storeElements obj idx ws s))

/-- R74, R164: some element was stored other than the value given; an alias of the class table is no clamp. -/
def writeClamped (obj : Byte) (idx : Nat) (ws : List Word) (s : State) : Bool :=
  obj != 0x01 &&
    ((storeWrite obj idx ws s).readWords obj idx ws.length != ws ||
      (storeWrite obj idx ws s).spin.weighHi != (storeElements obj idx ws s).spin.weighHi)

/-! ### What an accepted write brings about -/

/-- R132: a tail that has run the FLOW_TAIL now standing closes. -/
def judgeTail (s : State) : State :=
  if s.ring.ctx.state = .tail ∧ s.spin.flowTail * Config.msMicros ≤ elapsed s.now s.ring.ctx.endTime then
    { s with ring := { s.ring with ctx := { s.ring.ctx with state := .closed } } }
  else s

/-- R82, R92, R118, R121, R122, R132, R135, R139, R141: the effects of an accepted write of object 0x20. The rules state
no order among the ceilings, the bleed timer, RING_FULL, the tail and the causes; it is `Choice.effects` (log 5). -/
def spinWritten (ch : Choice) (idx n : Nat) (s : State) : State :=
  inOrder ch.effects
    [onlyIf (touches idx n 0 || touches idx n 1) recompose, onlyIf (touches idx n 2) judgeBleed,
      onlyIf (touches idx n 11) (judgeLive .ringFull), onlyIf (touches idx n 14) judgeTail,
      judgeCauses ch
        ((if touches idx n 2 then [.lid] else []) ++
          (if touches idx n 0 || touches idx n 1 then [.overspeed] else []))] s

/-- R36, R37, R38, R158: what an accepted write of object 0x21 hands on: `lid` and `strike` say which inputs completed
their pending change, `source` that the monitor counter's source was written. -/
def serviceReaders (ch : Choice) (lid strike source : Bool) : List (State → State) :=
  (if lid then levelReaders .lid else []) ++ (if strike then levelReaders .strike else []) ++
    [onlyIf source (judgeLive .counterSaturated),
      judgeCauses ch ((if lid then [.lid] else []) ++ (if strike then [.strike] else []))]

/-- R36, R158: the effects of an accepted write of object 0x21 that are not in the storing. A pending change whose new
setting has already passed completes at the write; what follows comes in the order left open, `Choice.effects`
(log 5). -/
def serviceWritten (ch : Choice) (idx n : Nat) (s : State) : State :=
  let lid := touches idx n 1 && s.debounceDue .lid
  let strike := touches idx n 2 && s.debounceDue .strike
  inOrder ch.effects (serviceReaders ch lid strike (touches idx n 3))
    (onlyIf strike (takeLevel .strike) (onlyIf lid (takeLevel .lid) s))

/-- R87, R89, R140, R141: the effects of setting a write-once limit. The rules state no order between the ceilings and the
causes; it is `Choice.effects` (log 5). -/
def limitWritten (ch : Choice) (idx n : Nat) (s : State) : State :=
  inOrder ch.effects
    [onlyIf (touches idx n 0) recompose,
      judgeCauses ch ((if touches idx n 0 then [.overspeed] else []) ++ (if touches idx n 1 then [.mass] else []))] s

/-- R164: the effects that the owning rules give to an accepted write of `n` elements from an index on. -/
def writeEffects (ch : Choice) (obj : Byte) (idx n : Nat) (s : State) : State :=
  if obj = 0x10 then envelopeRevised s
  else if obj = 0x20 then spinWritten ch idx n s
  else if obj = 0x21 then serviceWritten ch idx n s
  else if obj = 0x30 then limitWritten ch idx n s
  else if obj = 0x51 then judgeLive .ringFull s
  else s

end Sys2Proof.Machine
end

