-- ==== Sys2Proof/Machine/Resets.lean ====
section
/-! DEFINITION. Power-on reset, the hold of RESET_N, and SOFT RESET: what every block holds after each, and the trip unit's part as the reset completes (R138, R169 and each block's reset rule). -/

namespace Sys2Proof.Machine

/-- The sixteen event kinds. -/
def allKinds : List Kind :=
  [.estimateValid, .governing, .plateauPassed, .redistribute, .limited, .injectionFault, .ringFull, .indexLoss,
    .sensorLoss, .driveSilent, .controllerSilent, .trip, .lidOpen, .strike, .queueOverflow, .counterSaturated]

/-- R148: the live values as the conditions stand. -/
def State.liveWord (s : State) : Word := allKinds.foldl (fun w k => setBit w k.number (s.condition k)) 0

/-- R148: the live values taken after a reset, none of them being a change. -/
def takeLive (s : State) : State := { s with events := { s.events with live := s.liveWord } }

/-- R33: a switch input after either reset: the debounced state takes the raw level at once. -/
def Debounce.reset (d : Debounce) : Debounce := { d with debounced := d.raw, pending := false }

/-- The power-on value of every block, with the levels on LID and STRIKE and the commands that wait as they are. -/
def powerOnValues (s : State) : State :=
  takeLive
    { State.reset with
      lid := { raw := s.lid.raw, debounced := s.lid.raw, pending := false, since := 0 }
      strike := { raw := s.strike.raw, debounced := s.strike.raw, pending := false, since := 0 }
      pending := s.pending }

/-- R138: the part leaves power-on reset, and the trip unit acts on its causes. Only STRIKE can be true then: the drive
record holds speed 0, fresh, the session is IDLE and the estimator INVALID. DEDUCED (log 32): the trip is set as the
reset completes and not made by the reset, so TRIP becoming true is offered (R142), and kinds 11 and 1 end latched with
count 1. -/
def powerOn (s : State) : State := judgeCauses Choice.listed allCauses (powerOnValues s)

/-- R16, Pins: RESET_N low holds the part in power-on reset: nothing is transmitted, nothing acts (log 14). -/
def hold (s : State) : State := { powerOnValues s with held := true }

/-- R120, R130: the injection context after SOFT RESET; an ACTIVE injection ends ABORTED and its tail begins. -/
def InjContext.softReset (now : Time) (flowTail : Nat) (c : InjContext) : InjContext :=
  if c.state = .active then
    { c with outcome := .aborted, endTime := now, state := if flowTail = 0 then .closed else .tail }
  else c

/-- Table 7-1: the ring controller after SOFT RESET, the bleed timer stopped and not yet judged. -/
def Ring.softReset (now : Time) (flowTail : Nat) (r : Ring) : Ring :=
  { r with
    ctx := r.ctx.softReset now flowTail, strayCount := 0, strayTime := 0, bleed := none, valve := false }

/-- Table 10-6: every block at its SOFT RESET value, but for the values judged at once (the ceilings, the bleed timer,
the live values). -/
def softValues (s : State) : State :=
  { s with
    framerC := { s.framerC with phase := .hunt, stored := [] }
    framerD := { s.framerD with phase := .hunt, stored := [] }
    framerS := { s.framerS with phase := .hunt, stored := [] }
    rxC := RxCheck.reset
    rxD := RxCheck.reset
    requested := { mode := 0, target := 0 }
    drive := { speed := 0, torque := 0, time := 0 }
    silence :=
      { controllerSince := s.now, controllerSilent := false, driveSince := s.now, driveSilent := false, orphan := none }
    portC := PortC.reset
    portD := PortD.reset
    standing := Standing.reset
    intake := { since := s.now, loss := false, last := SampleRecord.reset, lastCount := 0, armed := false }
    lid := s.lid.reset
    strike := s.strike.reset
    tracker := Tracker.reset
    est := Estimator.reset
    weigh := Weighing.reset
    loadClass := s.spin.defaultClass
    gov := { s.gov with eHeld := 0, eNew := 0, rise := 0 }
    session := Session.reset
    ring := s.ring.softReset s.now s.spin.flowTail
    trip := { s.trip with line := s.trip.latch }
    events := Events.reset
    monitor := Monitor.reset
    requests := [] }

/-- R76: the ceilings composed at a reset; the drive port is handed nothing. -/
def composeSilently (s : State) : State := { s with gov := { s.gov with spin := s.spinCeiling, agitate := s.agitateCeiling } }

/-- R96: a session whose trip latch was kept set enters TRIPPED from IDLE as the reset completes; no event is offered. -/
def resumeTrip (s : State) : State :=
  if s.trip.latch then { s with session := { s.session with state := .tripped } } else s

/-- R169: the whole of SOFT RESET but for its response. -/
def softReset (ch : Choice) (s : State) : State :=
  judgeCauses ch allCauses (resumeTrip (takeLive (judgeBleed (composeSilently (softValues s)))))

end Sys2Proof.Machine
end

