-- ==== Sys2Proof/Machine/Agent.lean ====
section
/-! DEFINITION. The management agent: how the front request is taken, judged in the order of Table 10-1, answered, and its effects made (chapter 10). The response takes its place in the Port C local queue before the notices that the request's effects make (log 9). -/

namespace Sys2Proof.Machine

/-! ### Status codes (Table 10-1) -/

/-- OK. -/
def stOk : Byte := 0
/-- CLAMPED. -/
def stClamped : Byte := 1
/-- UNKNOWN_OP. -/
def stUnknownOp : Byte := 2
/-- UNKNOWN_OBJECT. -/
def stUnknownObject : Byte := 3
/-- BAD_INDEX. -/
def stBadIndex : Byte := 4
/-- BAD_LENGTH. -/
def stBadLength : Byte := 5
/-- READ_ONLY. -/
def stReadOnly : Byte := 6
/-- BUSY. -/
def stBusy : Byte := 7
/-- LOCKED. -/
def stLocked : Byte := 8
/-- MISMATCH. -/
def stMismatch : Byte := 9
/-- REFUSED. -/
def stRefused : Byte := 10

/-! ### Requests and responses -/

/-- The elements a request's data carries. -/
def Request.words (r : Request) : List Word := dataWords r.data

/-- R160: the data holds a whole number of elements, `n` of them. -/
def Request.hasWords (r : Request) (n : Nat) : Bool := r.data.length == 2 * n

/-- R160: the data holds an odd number of bytes, or no element, or more than ten. -/
def Request.badWrite (r : Request) : Bool :=
  r.data.length % 2 == 1 || r.data.length == 0 || decide (20 < r.data.length)

/-- R160, Table 1-6: the response to a request. -/
def responseFrame (r : Request) (status : Byte) (data : List Word) : QFrame :=
  { cls := responseClass, payload := responsePayload r.tag r.op status r.object data, changed := false,
    restated := false }

/-- R159, R160: the response joins the back of the Port C local queue. -/
def respond (r : Request) (status : Byte) (data : List Word) (s : State) : State :=
  { s with portC := s.portC.joinLocal s.now (responseFrame r status data) }

/-- R159: the agent executes the front request when it is one of this operation and the Port C local queue has room
(log 20). -/
def execute (isOp : Byte → Bool) (run : Request → State → State) (s : State) : State :=
  match s.requests with
  | [] => s
  | r :: rest =>
    if isOp r.op && decide (s.portC.localQ.length < Config.localCapacity) then run r { s with requests := rest } else s

/-! ### READ -/

/-- R163: the number of elements a READ asks for. -/
def Request.wanted (r : Request) : Nat := (r.words.getD 0 0).toNat

/-- R160, R163: the status of a READ. -/
def readStatusOf (r : Request) : Byte :=
  match objectSize r.object with
  | none => stUnknownObject
  | some size =>
    if !r.hasWords 1 || r.wanted == 0 || decide (10 < r.wanted) then stBadLength
    else if size < r.index.toNat + r.wanted then stBadIndex
    else stOk

/-- R163: a READ. -/
def runRead (r : Request) (s : State) : State :=
  respond r (readStatusOf r)
    (if readStatusOf r = stOk then s.readWords r.object r.index.toNat r.wanted else []) s

/-! ### WRITE -/

/-- R164: an element that no WRITE may change. -/
def elementReadOnly (obj : Byte) (i : Nat) : Bool :=
  if obj = 0x01 then (fixedAction .c (BitVec.ofNat 6 i)).isSome
  else if obj = 0x51 then decide (4 ≤ i)
  else obj == 0x40 || obj == 0x50 || obj == 0x52 || obj == 0x53 || obj == 0x60

/-- R164: the objects written in session IDLE alone. -/
def idleOnly (obj : Byte) : Bool :=
  (obj == 0x10 || obj == 0x11 || obj == 0x12 || obj == 0x13 || obj == 0x14 || obj == 0x15 || obj == 0x20 || obj == 0x51)

/-- R87, R140, R164: an element of object 0x30 whose limit is already set. -/
def limitLocked (s : State) (obj : Byte) (idx n : Nat) : Bool :=
  obj == 0x30 && ((touches idx n 0 && s.limits.abs.isSome) || (touches idx n 1 && s.limits.mass.isSome))

/-- R160, R164: the failure of a WRITE, if it has one. -/
def writeFailure (r : Request) (s : State) : Option Byte :=
  match objectSize r.object with
  | none => some stUnknownObject
  | some size =>
    let n := r.words.length
    if r.badWrite then some stBadLength
    else if size < r.index.toNat + n then some stBadIndex
    else if (List.range n).any fun k => elementReadOnly r.object (r.index.toNat + k) then some stReadOnly
    else if idleOnly r.object && s.session.state != .idle then some stBusy
    else if limitLocked s r.object r.index.toNat n then some stLocked
    else none

/-- R164: an accepted WRITE: stored, answered, its effects made. -/
def runAccepted (ch : Choice) (r : Request) (s : State) : State :=
  let s' := storeWrite r.object r.index.toNat r.words s
  writeEffects ch r.object r.index.toNat r.words.length
    (respond r (if writeClamped r.object r.index.toNat r.words s then stClamped else stOk)
      (s'.readWords r.object r.index.toNat r.words.length) s')

/-- R164: a WRITE. -/
def runWrite (ch : Choice) (r : Request) (s : State) : State :=
  match writeFailure r s with
  | some status => respond r status [] s
  | none => runAccepted ch r s

/-! ### SET BITS, CLEAR BITS, ACKNOWLEDGE IF -/

/-- R165: an element of object 0x40 that SET BITS or CLEAR BITS addresses, with its word replaced; ATTN is judged
again (R153). -/
def Events.withElement (e : Events) (i : Nat) (f : Word → Word) : Events :=
  match i with
  | 1 => ({ e with latch := f e.latch }).judgeAttn
  | 2 => { e with report := f e.report }
  | 3 => ({ e with attention := f e.attention }).judgeAttn
  | 4 => { e with edge := f e.edge }
  | _ => e

/-- R160, R165: the status of a SET BITS or CLEAR BITS whose writable elements are those from `low` to 4. -/
def bitsStatus (r : Request) (low : Nat) : Byte :=
  if r.object ≠ 0x40 then stUnknownObject
  else if !r.hasWords 1 then stBadLength
  else if 20 < r.index.toNat then stBadIndex
  else if r.index.toNat < low ∨ 4 < r.index.toNat then stReadOnly
  else stOk

/-- R165: an accepted SET BITS or CLEAR BITS, answered with the element as it stands after the change. -/
def changeBits (r : Request) (f : Word → Word) (s : State) : State :=
  let s' := { s with events := s.events.withElement r.index.toNat f }
  respond r stOk (s'.readWords 0x40 r.index.toNat 1) s'

/-- R165: a SET BITS acts on elements 2 to 4. -/
def runSetBits (r : Request) (s : State) : State :=
  if bitsStatus r 2 = stOk then changeBits r (fun w => w ||| r.words.getD 0 0) s else respond r (bitsStatus r 2) [] s

/-- R165: a CLEAR BITS acts on elements 1 to 4. -/
def runClearBits (r : Request) (s : State) : State :=
  if bitsStatus r 1 = stOk then changeBits r (fun w => w &&& ~~~(r.words.getD 0 0)) s
  else respond r (bitsStatus r 1) [] s

/-- R166: the kind an ACKNOWLEDGE IF names, for a number of 0..15. -/
def Request.kindNumber (r : Request) : Fin 16 := ⟨(r.words.getD 0 0).toNat % 16, Nat.mod_lt _ (by decide)⟩

/-- R151, R166: the kind's latch is set and its count differs from the expected count. -/
def ackDiffers (r : Request) (e : Events) : Bool :=
  e.latch.getLsbD r.kindNumber.val && (e.counts[r.kindNumber]).toNat != (r.words.getD 1 0).toNat

/-- R160, R166: the failure of an ACKNOWLEDGE IF before its judgement. -/
def ackFailure (r : Request) : Option Byte :=
  if r.object ≠ 0x40 then some stUnknownObject
  else if !r.hasWords 2 then some stBadLength
  else if 15 < (r.words.getD 0 0).toNat then some stBadIndex
  else none

/-- R151: the latch of a kind cleared, ATTN judged again. -/
def clearLatch (k : Fin 16) (s : State) : State :=
  { s with events := ({ s.events with latch := setBit s.events.latch k false }).judgeAttn }

/-- R151, R166: an ACKNOWLEDGE IF. -/
def runAcknowledge (r : Request) (s : State) : State :=
  match ackFailure r with
  | some status => respond r status [] s
  | none =>
    if ackDiffers r s.events then respond r stMismatch [(s.events.counts[r.kindNumber]).setWidth 16] s
    else respond r stOk [(s.events.counts[r.kindNumber]).setWidth 16] (clearLatch r.kindNumber s)

/-! ### TRANSFER, CLEAR TRIP, QUERY, SOFT RESET -/

/-- R160, R167: the failure of a request that takes one object and no data. -/
def bareFailure (r : Request) (obj : Byte) : Option Byte :=
  if r.object ≠ obj then some stUnknownObject else if r.data ≠ [] then some stBadLength else none

/-- R157, R167: a TRANSFER. -/
def runTransfer (r : Request) (s : State) : State :=
  match bareFailure r 0x60 with
  | some status => respond r status [] s
  | none =>
    judgeLive .counterSaturated
      (respond r stOk [0, uWord s.monitor.count] { s with monitor := s.monitor.transferred })

/-- R145, steps 1 and 2: the latch clears, the cause set is emptied, the TRIP line is deasserted. -/
def Trip.cleared (t : Trip) : Trip := { t with latch := false, line := false, causes := CauseSet.empty }

/-- R145, step 3: the clearing handed on, in the order left open (log 5). -/
def handClearing (ch : Choice) (s : State) : State :=
  inOrder ch.trip
    [fun s => if s.session.state = .tripped then enterIdle ch s else recompose s, judgeLive .trip] s

/-- R145, R146, R167: a CLEAR TRIP. -/
def runClearTrip (ch : Choice) (r : Request) (s : State) : State :=
  match bareFailure r 0x53 with
  | some status => respond r status [] s
  | none =>
    if !s.trip.latch then respond r stOk [] s
    else if s.clearAccepted then handClearing ch (respond r stOk [] { s with trip := s.trip.cleared })
    else respond r stRefused [s.conditionsWord] s

/-- Table 10-5: the elements of a QUERY leaf. -/
def leafWords (l : Limits) (leaf : Nat) : List Word :=
  match leaf with
  | 0 => [3, 0x5A17]
  | 1 => [1, 4, 6, 32, 4, 8, 4, 2, 8, 64]
  | 2 => [40, 16, 32, 1, 1000, 1024]
  | _ => [markWord l.abs.isSome, markWord l.mass.isSome, uWord (l.abs.getD 0), uWord (l.mass.getD 0)]

/-- R168: a QUERY. -/
def runQuery (r : Request) (s : State) : State :=
  if r.data ≠ [] then respond r stBadLength [] s
  else if 3 < r.index.toNat then respond r stBadIndex [] s
  else respond r stOk (leafWords s.limits r.index.toNat) s

/-- R169: a SOFT RESET. The response is formed when every block has taken its reset state. -/
def runSoftReset (ch : Choice) (r : Request) (s : State) : State :=
  if r.data ≠ [] then respond r stBadLength [] s else respond r stOk [] (softReset ch s)

/-- R161: a request whose operation byte names no operation. -/
def runUnknown (r : Request) (s : State) : State := respond r stUnknownOp [] s

end Sys2Proof.Machine
end

