-- ==== Sys2Proof/Machine/AgentCommands.lean ====
section
/-! DEFINITION. The meanings of the management operations: each executes the front request of the queue (chapter 10). -/

namespace Sys2Proof.Machine

/-- READ (R163). -/
def execRead (m : Moment) (s : State) : Host.Outcome State Fault Refusal := happen m (execute (· == 1) runRead) s

/-- WRITE (R164). -/
def execWrite (m : Moment) (s : State) : Host.Outcome State Fault Refusal :=
  happen m (execute (· == 2) (runWrite m.choice)) s

/-- SET BITS (R165). -/
def execSetBits (m : Moment) (s : State) : Host.Outcome State Fault Refusal := happen m (execute (· == 3) runSetBits) s

/-- CLEAR BITS (R165). -/
def execClearBits (m : Moment) (s : State) : Host.Outcome State Fault Refusal :=
  happen m (execute (· == 4) runClearBits) s

/-- ACKNOWLEDGE IF (R166). -/
def execAcknowledgeIf (m : Moment) (s : State) : Host.Outcome State Fault Refusal :=
  happen m (execute (· == 5) runAcknowledge) s

/-- TRANSFER (R167). -/
def execTransfer (m : Moment) (s : State) : Host.Outcome State Fault Refusal :=
  happen m (execute (· == 6) runTransfer) s

/-- CLEAR TRIP (R145, R167). -/
def execClearTrip (m : Moment) (s : State) : Host.Outcome State Fault Refusal :=
  happen m (execute (· == 7) (runClearTrip m.choice)) s

/-- QUERY (R168). -/
def execQuery (m : Moment) (s : State) : Host.Outcome State Fault Refusal := happen m (execute (· == 8) runQuery) s

/-- SOFT RESET (R169). -/
def execSoftReset (m : Moment) (s : State) : Host.Outcome State Fault Refusal :=
  happen m (execute (· == 9) (runSoftReset m.choice)) s

/-- UNKNOWN_OP (R161): the operation byte is not 1..9. -/
def execUnknownOp (m : Moment) (s : State) : Host.Outcome State Fault Refusal :=
  happen m (execute (fun op => op == 0 || decide (9 < op.toNat)) runUnknown) s

end Sys2Proof.Machine
end

