-- ==== Sys2Proof/Machine/Silences.lean ====
section
/-! DEFINITION. The silence timers of the three links and the orphan stop (R23, R24, R30, R31). -/

namespace Sys2Proof.Machine

/-! ### Port C -/

/-- R23: 500 ms have passed with no good frame at Port C, and CONTROLLER_SILENT is not yet true. -/
def State.controllerDue (s : State) : Bool :=
  !s.silence.controllerSilent && decide (Config.controllerSilentMicros ≤ elapsed s.now s.silence.controllerSince)

/-- R24: the orphan stop as it joins the Port D local queue. -/
def orphanFrame (downRamp : Nat) : QFrame :=
  { cls := speedDemandClass, payload := demandPayload 0 downRamp 0 0, changed := false, restated := true }

/-- R24: any SPEED DEMAND waiting in the forwarded queue is removed, and the orphan stop joins the local queue or
replaces the restated demand that waits there. -/
def queueOrphan (s : State) : State :=
  let p := { s.portD with forwardedQ := s.portD.forwardedQ.filter fun f => f.cls != speedDemandClass }
  if p.localQ.any fun f => f.restated then
    { s with portD := { p with localQ := replaceFirst (fun f => f.restated) (orphanFrame s.spin.downRamp) p.localQ } }
  else kickD { s with portD := { p with localQ := p.localQ ++ [orphanFrame s.spin.downRamp] } }

/-- R24: what ORPHAN STOP does at its entry and at each repetition: the record takes STOP, target 0 and the session acts on
it; the removal is made and the demand queued. R24 states no order between the two, so that LIMITED becoming false and
GOVERNING at the demand's transmit start may come in either; it is `Choice.effects` (log 5). -/
def orphanStop (ch : Choice) : List (State → State) := [takeRequest ch 0 0, queueOrphan]

/-- R7, R23, R24: CONTROLLER_SILENT becomes true, and ORPHAN STOP is entered; the event unit may meet the change before,
between or after what the stop does (log 5). -/
def controllerSilences (ch : Choice) (s : State) : State :=
  if s.controllerDue then
    inOrder ch.effects (judgeLive .controllerSilent :: orphanStop ch)
      { s with
        rxC := { s.rxC with armed := false }
        silence := { s.silence with controllerSilent := true, orphan := some s.now } }
  else s

/-- R24: 100 ms have passed since the entry to ORPHAN STOP or since its last repetition. -/
def State.orphanDue (s : State) : Option Time :=
  match s.silence.orphan with
  | none => none
  | some since => if Config.orphanMicros ≤ elapsed s.now since then some (since + 100000) else none

/-- R24: the orphan stop is repeated, each repetition an orphan-stop demand under R97 (log 22). -/
def orphanRepeats (ch : Choice) (s : State) : State :=
  match s.orphanDue with
  | none => s
  | some next => inOrder ch.effects (orphanStop ch) { s with silence := { s.silence with orphan := some next } }

/-! ### Port D -/

/-- R23: 100 ms have passed with no DRIVE STATUS, and DRIVE_SILENT is not yet true. -/
def State.driveDue (s : State) : Bool :=
  !s.silence.driveSilent && decide (Config.driveSilentMicros ≤ elapsed s.now s.silence.driveSince)

/-- R7, R11, R23: DRIVE_SILENT becomes true, and the drive status record is stale; the order of what follows is left open
(log 5). -/
def driveSilences (ch : Choice) (s : State) : State :=
  if s.driveDue then
    inOrder ch.readers (recordReaders ch)
      { s with rxD := { s.rxD with armed := false }, silence := { s.silence with driveSilent := true } }
  else s

/-! ### Port S -/

/-- R30: 20 ms have passed with no SAMPLE, and SENSOR_LOSS is not yet true. -/
def State.sensorDue (s : State) : Bool :=
  !s.intake.loss && decide (Config.sensorLossMicros ≤ elapsed s.now s.intake.since)

/-- R29, R30, R31: SENSOR_LOSS becomes true; the event unit may meet the change before or after the estimator's entry to
INVALID (log 5). -/
def sensorLost (ch : Choice) (s : State) : State :=
  if s.sensorDue then
    inOrder ch.effects [judgeLive .sensorLoss, estimatorInvalid ch]
      { s with intake := { s.intake with loss := true, armed := false } }
  else s

end Sys2Proof.Machine
end

