-- ==== Sys2Proof/Machine/LinkCommands.lean ====
section
/-! DEFINITION. The meanings of the link commands: bytes, frame errors and timeouts, frames taken, the ends of transmissions, and the silence timers (chapters 1 and 2). -/

namespace Sys2Proof.Machine

/-! ### Bytes -/

/-- BYTE_RECEIVED: a byte arrives at a framer (R4). A byte that does complete a frame or reveal a fault has that effect
(log 11). -/
def execByteReceived (m : Moment) (link : Link) (byte : LineByte) (s : State) : Host.Outcome State Fault Refusal :=
  happen m (lineByte m.choice link byte) s

/-- FRAME_ERROR: a byte arrives at a framer and reveals a fault (R5); which fault follows from the bytes held
(log 11). -/
def execFrameError (m : Moment) (link : Link) (byte : LineByte) (s : State) : Host.Outcome State Fault Refusal :=
  happen m (lineByte m.choice link byte) s

/-- FRAME_TIMEOUT (R5). -/
def execFrameTimeout (m : Moment) (link : Link) (s : State) : Host.Outcome State Fault Refusal :=
  happen m (framerTimeout link) s

/-! ### Frames taken -/

/-- SPEED_DEMAND_TAKEN (R10). -/
def execSpeedDemandTaken (m : Moment) (seq : Byte) (target ramp : Word) (mode flags : Byte) (s : State) :
    Host.Outcome State Fault Refusal :=
  happen m (wholeFrame m.choice .portC speedDemandClass seq (be16 target ++ be16 ramp ++ [mode, flags])) s

/-- DRIVE_STATUS_TAKEN (R11). -/
def execDriveStatusTaken (m : Moment) (seq : Byte) (speed torque bus : Word) (driveState driveFault : Byte) (s : State) :
    Host.Outcome State Fault Refusal :=
  happen m (wholeFrame m.choice .portD driveStatusClass seq (statusPayload speed torque bus driveState driveFault)) s

/-- MANAGEMENT_REQUEST_TAKEN (R159). -/
def execManagementRequestTaken (m : Moment) (seq tag op object index : Byte) (data : List Byte) (s : State) :
    Host.Outcome State Fault Refusal :=
  happen m (wholeFrame m.choice .portC requestClass seq (requestPayload tag op object index data)) s

/-- The link that a port receives on. -/
def portLink : Port → Link
  | .c => .portC
  | .d => .portD

/-- PASS_FRAME_TAKEN (R9): the class entry says what becomes of the frame (log 10). -/
def execPassFrameTaken (m : Moment) (port : Port) (cls : Class) (seq : Byte) (payload : List Byte) (s : State) :
    Host.Outcome State Fault Refusal :=
  happen m (wholeFrame m.choice (portLink port) cls seq payload) s

/-- DROP_FRAME_TAKEN (R9): the class entry says what becomes of the frame (log 10). -/
def execDropFrameTaken (m : Moment) (port : Port) (cls : Class) (seq : Byte) (payload : List Byte) (s : State) :
    Host.Outcome State Fault Refusal :=
  happen m (wholeFrame m.choice (portLink port) cls seq payload) s

/-- SAMPLE_TAKEN (R25). The sequence byte of a SAMPLE frame is not kept. -/
def execSampleTaken (m : Moment) (seq count : Byte) (ax ay az : Word) (s : State) : Host.Outcome State Fault Refusal :=
  happen m (wholeFrame m.choice .portS sampleClass seq (samplePayload count ax ay az)) s

/-! ### Transmission -/

/-- R16: the frame that is leaving has run its time on the line. -/
def sendingDone (now : Time) (x : Sending) : Bool := decide (lineMicros x.bytes ≤ elapsed now x.start)

/-- R16: Port C ends a transmission and starts the next if a frame waits. -/
def endSendC (s : State) : State :=
  match s.portC.sending with
  | none => s
  | some x =>
    if sendingDone s.now x then { s with portC := ({ s.portC with sending := none }).kick s.now } else s

/-- R16: Port D ends a transmission and starts the next if a frame waits. -/
def endSendD (s : State) : State :=
  match s.portD.sending with
  | none => s
  | some x => if sendingDone s.now x then kickD { s with portD := { s.portD with sending := none } } else s

/-- R16: a port ends a transmission. -/
def endSend (port : Port) (s : State) : State :=
  match port with
  | .c => endSendC s
  | .d => endSendD s

/-- TRANSMIT_END (R16). -/
def execTransmitEnd (m : Moment) (port : Port) (s : State) : Host.Outcome State Fault Refusal :=
  happen m (endSend port) s

/-! ### Silence -/

/-- CONTROLLER_SILENT (R23). -/
def execControllerSilent (m : Moment) (s : State) : Host.Outcome State Fault Refusal := happen m (controllerSilences m.choice) s

/-- ORPHAN_STOP_REPEAT (R24). -/
def execOrphanStopRepeat (m : Moment) (s : State) : Host.Outcome State Fault Refusal := happen m (orphanRepeats m.choice) s

/-- DRIVE_SILENT (R23). -/
def execDriveSilent (m : Moment) (s : State) : Host.Outcome State Fault Refusal := happen m (driveSilences m.choice) s

/-- SENSOR_LOSS (R30). -/
def execSensorLoss (m : Moment) (s : State) : Host.Outcome State Fault Refusal := happen m (sensorLost m.choice) s

end Sys2Proof.Machine
end

