-- ==== Sys2Proof/Machine/PinCommands.lean ====
section
/-! DEFINITION. The meanings of the commands of the discrete inputs, the ring's timers and the monitor period (chapters 2, 3, 7 and 9). -/

namespace Sys2Proof.Machine

/-! ### Switches and index -/

/-- SWITCH_RAW_CHANGE (R34). While the part is held in power-on reset the level on the pin still changes (log 14). -/
def execSwitchRawChange (m : Moment) (switch : Switch) (s : State) : Host.Outcome State Fault Refusal :=
  if s.held then .next (toggleRaw switch s) else happen m (rawChange m.choice switch) s

/-- DEBOUNCE_EXPIRY (R35). -/
def execDebounceExpiry (m : Moment) (switch : Switch) (s : State) : Host.Outcome State Fault Refusal :=
  happen m (debounceExpires m.choice switch) s

/-- INDEX_PULSE (R40). -/
def execIndexPulse (m : Moment) (s : State) : Host.Outcome State Fault Refusal := happen m (indexPulse m.choice) s

/-- INDEX_LOST (R46). -/
def execIndexLost (m : Moment) (s : State) : Host.Outcome State Fault Refusal := happen m (indexLost m.choice) s

/-! ### Ring -/

/-- VALVE_WINDOW_EDGE (R126): VALVE takes the state that the nozzle angle of this moment gives. -/
def execValveWindowEdge (m : Moment) (s : State) : Host.Outcome State Fault Refusal := happen m judgeValve s

/-- R128: the end of an injection by pulse. -/
def judgePulseEnd (ch : Choice) (s : State) : State :=
  if s.ring.contents[s.ring.ctx.chamber] = s.spin.chamberCap then endInjection ch false .chamberFull s
  else if s.ring.ctx.requested ≤ s.ring.ctx.credited then endInjection ch false .done s
  else s

/-- R127, R128: a rising edge on FLOW. RING_FULL is judged with the credit, before the end by pulse (log 6). -/
def flowPulse (ch : Choice) (s : State) : State :=
  match s.ring.ctx.state with
  | .active => judgePulseEnd ch (creditActive s)
  | .tail => creditTail s
  | .none | .closed => strayPulse s

/-- FLOW_PULSE (R127). -/
def execFlowPulse (m : Moment) (s : State) : Host.Outcome State Fault Refusal := happen m (flowPulse m.choice) s

/-- R129: FLOW_TIMEOUT is exceeded while an injection is ACTIVE. -/
def State.flowDue (s : State) : Bool :=
  (s.ring.ctx.state == .active) &&
    decide (s.spin.flowTimeout * Config.msMicros < elapsed s.now s.ring.ctx.lastPulse)

/-- R129, R134: the NO_FLOW end; whether the event unit meets INJECTION_FAULT before or after the session's entry to
SETTLE is left open (log 5). -/
def flowTimesOut (ch : Choice) (s : State) : State :=
  if s.flowDue then
    endInjection ch ch.faultLast .noFlow
      (onlyIf (!ch.faultLast) (latchKind .injectionFault) { s with ring := { s.ring with available := false } })
  else s

/-- FLOW_TIMEOUT (R129). -/
def execFlowTimeout (m : Moment) (s : State) : Host.Outcome State Fault Refusal := happen m (flowTimesOut m.choice) s

/-- R132: FLOW_TAIL has passed since the end time of a context in TAIL. -/
def State.tailDue (s : State) : Bool :=
  (s.ring.ctx.state == .tail) && decide (s.spin.flowTail * Config.msMicros ≤ elapsed s.now s.ring.ctx.endTime)

/-- R132: the tail closes. -/
def tailExpires (s : State) : State :=
  if s.tailDue then { s with ring := { s.ring with ctx := { s.ring.ctx with state := .closed } } } else s

/-- FLOW_TAIL_EXPIRY (R132). -/
def execFlowTailExpiry (m : Moment) (s : State) : Host.Outcome State Fault Refusal := happen m tailExpires s

/-- R135: 100 ms have passed since the bleed timer started or since its last period. -/
def State.bleedDue (s : State) : Bool :=
  match s.ring.bleed with
  | none => false
  | some since => decide (Config.bleedMicros ≤ elapsed s.now since)

/-- R135: a bleed period. -/
def bleeds (s : State) : State := if s.bleedDue then bleedOnce s else s

/-- BLEED_PERIOD (R135). -/
def execBleedPeriod (m : Moment) (s : State) : Host.Outcome State Fault Refusal := happen m bleeds s

/-! ### Monitor -/

/-- R157: the period timer of AUTO expires. -/
def State.monitorDue (s : State) : Bool :=
  match s.monitor.timer with
  | none => false
  | some since => s.monitor.auto && decide (Config.monitorMicros ≤ elapsed s.now since)

/-- R157: the transfer at an expiry, and the next period. -/
def monitorExpires (s : State) : State :=
  if s.monitorDue then monitorTransfer { s with monitor := { s.monitor with timer := some s.now } } else s

/-- MONITOR_PERIOD_EXPIRY (R157). -/
def execMonitorPeriodExpiry (m : Moment) (s : State) : Host.Outcome State Fault Refusal := happen m monitorExpires s

end Sys2Proof.Machine
end

