-- ==== Sys2Proof/Machine/ResetCommands.lean ====
section
/-! DEFINITION. The meanings of POWER_ON_RESET and RESET_N_LOW. -/

namespace Sys2Proof.Machine

/-- POWER_ON_RESET: RESET_N returns high, and every block leaves power-on reset in its stated state. Given without a
RESET_N_LOW before it, it stands for the whole low pulse (log 15). -/
def execPowerOnReset (s : State) : Host.Outcome State Fault Refusal := .next (powerOn s)

/-- RESET_N_LOW: RESET_N goes low and holds the part in power-on reset (R16, log 14). -/
def execResetNLow (s : State) : Host.Outcome State Fault Refusal := .next (hold s)

end Sys2Proof.Machine
end

