-- ==== Sys2Proof/Machine/Dispatch.lean ====
section
/-! DEFINITION. The dispatch: one arm per command of the opcode table, each one call of its meaning. -/

namespace Sys2Proof.Machine

/-- The effect of a command on everything but the queue of commands. -/
def exec (i : Instr) (s : State) : Host.Outcome State Fault Refusal :=
  match i with
  | .powerOnReset => Sys2Proof.Machine.execPowerOnReset s
  | .frameError m link byte => Sys2Proof.Machine.execFrameError m link byte s
  | .frameTimeout m link => Sys2Proof.Machine.execFrameTimeout m link s
  | .speedDemandTaken m seq target ramp mode flags => Sys2Proof.Machine.execSpeedDemandTaken m seq target ramp mode flags s
  | .driveStatusTaken m seq speed torque bus driveState driveFault => Sys2Proof.Machine.execDriveStatusTaken m seq speed torque bus driveState driveFault s
  | .managementRequestTaken m seq tag op object index data => Sys2Proof.Machine.execManagementRequestTaken m seq tag op object index data s
  | .passFrameTaken m port cls seq payload => Sys2Proof.Machine.execPassFrameTaken m port cls seq payload s
  | .dropFrameTaken m port cls seq payload => Sys2Proof.Machine.execDropFrameTaken m port cls seq payload s
  | .sampleTaken m seq count ax ay az => Sys2Proof.Machine.execSampleTaken m seq count ax ay az s
  | .transmitEnd m port => Sys2Proof.Machine.execTransmitEnd m port s
  | .controllerSilent m => Sys2Proof.Machine.execControllerSilent m s
  | .orphanStopRepeat m => Sys2Proof.Machine.execOrphanStopRepeat m s
  | .driveSilent m => Sys2Proof.Machine.execDriveSilent m s
  | .sensorLoss m => Sys2Proof.Machine.execSensorLoss m s
  | .switchRawChange m switch => Sys2Proof.Machine.execSwitchRawChange m switch s
  | .debounceExpiry m switch => Sys2Proof.Machine.execDebounceExpiry m switch s
  | .indexPulse m => Sys2Proof.Machine.execIndexPulse m s
  | .indexLost m => Sys2Proof.Machine.execIndexLost m s
  | .valveWindowEdge m => Sys2Proof.Machine.execValveWindowEdge m s
  | .flowPulse m => Sys2Proof.Machine.execFlowPulse m s
  | .flowTimeout m => Sys2Proof.Machine.execFlowTimeout m s
  | .flowTailExpiry m => Sys2Proof.Machine.execFlowTailExpiry m s
  | .bleedPeriod m => Sys2Proof.Machine.execBleedPeriod m s
  | .monitorPeriodExpiry m => Sys2Proof.Machine.execMonitorPeriodExpiry m s
  | .read m => Sys2Proof.Machine.execRead m s
  | .write m => Sys2Proof.Machine.execWrite m s
  | .setBits m => Sys2Proof.Machine.execSetBits m s
  | .clearBits m => Sys2Proof.Machine.execClearBits m s
  | .acknowledgeIf m => Sys2Proof.Machine.execAcknowledgeIf m s
  | .transfer m => Sys2Proof.Machine.execTransfer m s
  | .clearTrip m => Sys2Proof.Machine.execClearTrip m s
  | .query m => Sys2Proof.Machine.execQuery m s
  | .softReset m => Sys2Proof.Machine.execSoftReset m s
  | .unknownOp m => Sys2Proof.Machine.execUnknownOp m s
  | .byteReceived m link byte => Sys2Proof.Machine.execByteReceived m link byte s
  | .resetNLow => Sys2Proof.Machine.execResetNLow s

end Sys2Proof.Machine
end

