-- ==== Sys2Proof/Safety.lean ====
section
/-! DEFINITION. What every reachable state of the part satisfies, as the rules state it: one test per subject, each a function of the state. Claims that a step keeps such a test, and that the reset state passes it, stand among the obligations. -/

namespace Sys2Proof.Safety

open Sys2Proof.Machine

/-! ### Links and queues -/

/-- R12, R15, R159, Table 1-15: no queue holds more than its capacity. -/
def queuesBounded (s : State) : Bool :=
  decide (s.portC.forwardedQ.length ≤ Config.forwardedCapacity) &&
  decide (s.portC.localQ.length ≤ Config.localCapacity) &&
  decide (s.portD.forwardedQ.length ≤ Config.forwardedCapacity) &&
  decide (s.portD.localQ.length ≤ Config.localCapacity) &&
  decide (s.requests.length ≤ Config.requestCapacity)

/-- The waiting frames of a class. -/
def ofClass (c : Class) (q : List QFrame) : List QFrame := q.filter fun f => f.cls == c

/-- R13: the two Port D queues together never hold more than one SPEED DEMAND; the local queue holds restated demands
alone (R22, R24), the forwarded queue none. -/
def oneDemand (s : State) : Bool :=
  decide ((ofClass speedDemandClass s.portD.forwardedQ).length + (ofClass speedDemandClass s.portD.localQ).length ≤ 1) &&
  (s.portD.localQ.all fun f => f.cls == speedDemandClass && f.restated) &&
  (s.portD.forwardedQ.all fun f => !f.restated)

/-- R14: the Port C forwarded queue holds at most one DRIVE STATUS. -/
def oneStatus (s : State) : Bool := decide ((ofClass driveStatusClass s.portC.forwardedQ).length ≤ 1)

/-- R154: the Port C local queue never holds two notices of one kind, nor two reports. -/
def localDistinct (s : State) : Bool :=
  decide (((ofClass noticeClass s.portC.localQ).map fun f => field8 f.payload 0).Nodup) &&
  decide ((ofClass reportClass s.portC.localQ).length ≤ 1)

/-- R16: while a port is idle nothing waits in its queues. -/
def idleEmpty (s : State) : Bool :=
  (s.portC.sending.isSome || (s.portC.forwardedQ.isEmpty && s.portC.localQ.isEmpty)) &&
  (s.portD.sending.isSome || (s.portD.forwardedQ.isEmpty && s.portD.localQ.isEmpty))

/-- R4: what a receive framer holds in each of its states. -/
def framerSound (f : Framer) : Bool :=
  match f.phase with
  | .hunt => f.stored.isEmpty
  | .header => decide (1 ≤ f.stored.length) && decide (f.stored.length ≤ 3)
  | .payload => decide (f.length ≤ 24) && decide (4 ≤ f.stored.length) && decide (f.stored.length < 4 + f.length)
  | .check =>
    decide (f.length ≤ 24) && decide (4 + f.length ≤ f.stored.length) && decide (f.stored.length < 6 + f.length)

/-- R4: the three framers. -/
def framersSound (s : State) : Bool := framerSound s.framerC && framerSound s.framerD && framerSound s.framerS

/-- R24: ORPHAN STOP stands exactly while CONTROLLER_SILENT is true. -/
def orphanWhileSilent (s : State) : Bool := s.silence.orphan.isSome == s.silence.controllerSilent

/-! ### Ranges -/

/-- A number lies in a range. -/
def within (lo hi v : Int) : Bool := decide (lo ≤ v) && decide (v ≤ hi)

/-- R10, R11, R21, R19: the ranges of the demand and drive records. -/
def recordsInRange (s : State) : Bool :=
  within (-1500) 1500 s.requested.target && within (-1500) 1500 s.drive.speed &&
  within (-1500) 1500 s.standing.target && within 1 2000 s.standing.ramp

/-- The ranges of object 0x20 (R54, R74, R92, R118, R121, R125 to R129, R132, R135, R147, section 10.3), WEIGH_HI being
at least WEIGH_LO + 20 (R74). -/
def spinInRange (p : SpinSettings) : Bool :=
  (List.range 21).all (fun i => within (spinRange i).1 (spinRange i).2 (p.list.getD i 0 : Nat)) &&
  decide (p.weighLo + 20 ≤ p.weighHi)

/-- R33, R87, R140, R155: the ranges of the service settings and of the write-once limits. -/
def serviceInRange (s : State) : Bool :=
  within 0 255 s.service.reportEvery && within 1 255 s.service.debounceLid && within 0 255 s.service.debounceStrike &&
  (s.limits.abs.all fun a => within 300 1500 a) && (s.limits.mass.all fun m => within 100 9999 m)

/-- R94: a plateau field is 0 or in its range. -/
def plateauInRange (i v : Nat) : Bool := v == 0 || clampPlateau (i % 6) v == v

/-- R62, R77, R78, R94, R107: the ranges of the tables. -/
def tablesInRange (t : Tables) : Bool :=
  (t.envelope.toList.all fun v => decide (v ≤ 9999)) && (t.rampLimit.toList.all fun v => decide (v ≤ 2000)) &&
  (t.gain.toList.all fun v => decide (v ≤ 65535)) && (t.phase.toList.all fun v => decide (v ≤ 65535)) &&
  (t.weighThresh.toList.all fun v => decide (v ≤ 65535)) &&
  ((List.range 36).all fun i => plateauInRange i (look t.plateau i 0))

/-- R121: every chamber content lies between 0 and CHAMBER_CAP. -/
def contentsInRange (s : State) : Bool := s.ring.contents.toList.all fun g => decide (g ≤ s.spin.chamberCap)

/-- R156, R157: the monitor counter's ranges; the period timer runs exactly in AUTO. -/
def monitorSound (s : State) : Bool :=
  decide (s.monitor.count ≤ 65535) && decide (s.monitor.holding ≤ 65535) && s.monitor.timer.isSome == s.monitor.auto

/-! ### Angle and estimate -/

/-- R39: what the tracker holds in each of its states. -/
def trackerSound (t : Tracker) : Bool :=
  match t.state with
  | .untimed => t.lastIndex.isNone && t.period.isNone && t.mismatch == 0
  | .timing => t.lastIndex.isSome && t.period.isNone && t.mismatch == 0
  | .locked =>
    t.lastIndex.isSome && (t.period.any fun p => within Config.minPeriod Config.maxPeriod p) && decide (t.mismatch ≤ 3)
  | .held =>
    t.lastIndex.isSome && (t.period.any fun p => within Config.minPeriod Config.maxPeriod p) && t.mismatch == 4

/-- R53, R56, R60, R61: the ranges of Table 4-1. -/
def estimateInRange (e : Estimator) : Bool :=
  within (-32767) 32767 e.fx && within (-32767) 32767 e.fy && decide (e.m16 ≤ 46339) && decide (e.band ≤ 31) &&
  decide (e.u ≤ 9999) && decide (e.thin ≤ 255) && decide (e.priming ≤ 15) &&
  (e.acc.all fun a =>
    decide (a.n ≤ 2047) && within (-(262144000 * a.n)) (262144000 * a.n) a.i &&
      within (-(262144000 * a.n)) (262144000 * a.n) a.q)

/-- R53, R63: an accumulation is open exactly outside INVALID; in INVALID the priming count and U are 0 and the seed mark
is set. -/
def estimatorSound (e : Estimator) : Bool :=
  match e.state with
  | .invalid => e.acc.isNone && e.priming == 0 && e.u == 0 && e.seed
  | .priming | .valid => e.acc.isSome

/-- R63: the estimator is INVALID while the angle is invalid and while SENSOR_LOSS holds. -/
def estimateTrusted (s : State) : Bool := s.est.state == .invalid || (s.angleValid && !s.intake.loss)

/-! ### Ceilings and demands -/

/-- R83, R86, R89: the effective ceilings are those that the terms standing compose. -/
def ceilingsComposed (s : State) : Bool := s.gov.spin == s.spinCeiling && s.gov.agitate == s.agitateCeiling

/-- R22, R90: the standing target lies within the ceiling of its mode, or a SPEED DEMAND waits. -/
def standingWithin (s : State) : Bool :=
  s.portD.demandWaits || decide (s.standing.target.natAbs ≤ s.gov.ceiling s.standing.mode)

/-! ### Session and ring -/

/-- R84, R97: the session is in CLIMB, DWELL, CORRECT or SETTLE only while there is a current plateau, and in LIMITED
or HOLD_DOWN only with a failed plateau. -/
def sessionSound (s : State) : Bool :=
  (!s.session.state.onPlateau || s.currentPlateau.isSome) &&
  (!(s.session.state == .limited || s.session.state == .holdDown) || s.session.failed.isSome)

/-- R102, R114: the plateaus marked passed form an unbroken run from entry 0. -/
def passedRun (s : State) : Bool :=
  (List.range 5).all fun i => !((look s.session.progress (i + 1) Progress.reset).passed) || (look s.session.progress i Progress.reset).passed

/-- R109: at most 8 correction records; only the newest can be IN PROGRESS, and only in CORRECT. -/
def correctionsSound (s : State) : Bool :=
  decide (s.session.corrections.length ≤ Config.correctionCapacity) &&
  (s.session.corrections.dropLast.all fun c => c.outcome != .inProgress) &&
  (s.session.state == .correct || s.session.corrections.all fun c => c.outcome != .inProgress)

/-- R104, R105, R130: an injection is ACTIVE exactly while the session is in CORRECT. -/
def injectionWhileCorrect (s : State) : Bool := (s.ring.ctx.state == .active) == (s.session.state == .correct)

/-- R126: VALVE is open exactly while its three conditions hold. -/
def valveSound (s : State) : Bool := s.ring.valve == s.valveOpen

/-- R135: the bleed timer runs exactly while the magnitude of the speed is below RETAIN_SPEED. -/
def bleedSound (s : State) : Bool := s.ring.bleed.isSome == s.speedBelow s.spin.retainSpeed

/-! ### Trips and events -/

/-- R144: the TRIP line follows the latch. -/
def tripLine (s : State) : Bool := s.trip.line == s.trip.latch

/-- R88, R115, R144: while the trip latch is set, VALVE is closed and both ceilings are 0; the session is in TRIPPED
exactly then. -/
def tripHolds (s : State) : Bool :=
  (s.session.state == .tripped) == s.trip.latch &&
  (!s.trip.latch || (!s.ring.valve && s.gov.spin == 0 && s.gov.agitate == 0))

/-- R142, R143: every cause that is true is in the cause set of a set latch. -/
def causesTaken (s : State) : Bool :=
  s.held || allCauses.all fun c => !s.causeHolds c || (s.trip.latch && s.trip.causes.has c)

/-- R148, R149: every live value is its condition. -/
def liveFollows (s : State) : Bool := allKinds.all fun k => s.events.live.getLsbD k.number.val == s.condition k

/-- R153: ATTN is asserted exactly when some latch is set whose attention enable is set. -/
def attnFollows (s : State) : Bool := s.events.attn == s.events.attnDue

/-! ### Links in time -/

/-- The bytes of a frame fed to a framer one by one, each with its stop bit high, at the times given. -/
def feed (link : Link) : List (Byte × Time) → Framer → Framer × List Report
  | [], f => (f, [])
  | (v, now) :: rest, f =>
    let r := f.line link now { value := v, stopHigh := true }
    let q := feed link rest r.1
    (q.1, r.2 ++ q.2)

/-- Each time is at most 100 µs after the one before it. -/
def inTime : Time → List (Byte × Time) → Bool
  | _, [] => true
  | since, (_, now) :: rest => decide (elapsed now since ≤ Config.byteGapMicros) && inTime now rest

end Sys2Proof.Safety
end

