-- ==== Sys2Proof/Certificates/Slice0/Obligations.lean ====
section
/-! DEFINITION. The statements for the provers. `tick m s` is the state at the moment of a command: the timebase advanced and VALVE judged (O3 says what it is). A frame is written as `t = { tick m s with f := t.f, … }`: every field not named stands as it stood. -/

open Sys2Proof Sys2Proof.Machine Sys2Proof.Safety

/-! ### The step and the moment -/

/-- The step takes the command at the front of the queue and runs it on the state with the queue's rest; on an empty
queue the block idles (log 4, the model's choice). -/
def Obligations.StepTakesFront : Prop :=
  ∀ (s : State) (c : Instr) (rest : List Instr),
    step { s with pending := c :: rest } = exec c { s with pending := rest } ∧
      step { s with pending := [] } = .next { s with pending := [] }

/-- No command touches the queue of commands. -/
def Obligations.ExecKeepsQueue : Prop :=
  ∀ (c : Instr) (s : State), ∃ t, exec c s = .next t ∧ t.pending = s.pending

/-- VALVE_WINDOW_EDGE (R50, R125, R126), and with it the moment of every command. VALVE is open exactly while an
injection is ACTIVE, the angle is valid, and the nozzle angle lies in the window of the context's chamber, the window
taken modulo 65536. Nothing else but the timebase moves. -/
def Obligations.ValveWindow : Prop :=
  ∀ (m : Moment) (s : State), s.held = false → s.spin.guardAngle ≤ 4096 →
    ∃ t, exec (.valveWindowEdge m) s = .next t ∧
      (t.ring.valve = true ↔
        s.ring.ctx.state = .active ∧
          ∃ (since : Time) (p : Nat) (theta : Nat) (k : Int),
            s.tracker.state = .locked ∧ s.tracker.lastIndex = some since ∧ s.tracker.period = some p ∧
              theta = (if elapsed (s.now + m.elapsed) since < p then elapsed (s.now + m.elapsed) since * 65536 / p
                else 65535) ∧
              (s.ring.ctx.chamber.val : Int) * 16384 - 8192 + s.spin.guardAngle ≤
                (theta : Int) + s.spin.nozzleOffset + s.ring.lead + k * 65536 ∧
              (theta : Int) + s.spin.nozzleOffset + s.ring.lead + k * 65536 <
                (s.ring.ctx.chamber.val : Int) * 16384 + 8192 - s.spin.guardAngle) ∧
      t = { s with now := s.now + m.elapsed, ring := { s.ring with valve := t.ring.valve } } ∧ t = tick m s

/-! ### Resets -/

/-- State.reset passes every test of Safety.lean. -/
def Obligations.ResetIsSafe : Prop :=
  let s := State.reset
  queuesBounded s = true ∧ oneDemand s = true ∧ oneStatus s = true ∧ localDistinct s = true ∧ idleEmpty s = true ∧
  framersSound s = true ∧ orphanWhileSilent s = true ∧ recordsInRange s = true ∧ spinInRange s.spin = true ∧
  serviceInRange s = true ∧ tablesInRange s.tables = true ∧ contentsInRange s = true ∧ monitorSound s = true ∧
  trackerSound s.tracker = true ∧ estimateInRange s.est = true ∧ estimatorSound s.est = true ∧
  estimateTrusted s = true ∧ ceilingsComposed s = true ∧ standingWithin s = true ∧ sessionSound s = true ∧
  passedRun s = true ∧ correctionsSound s = true ∧ injectionWhileCorrect s = true ∧ valveSound s = true ∧
  bleedSound s = true ∧ tripLine s = true ∧ tripHolds s = true ∧ causesTaken s = true ∧ liveFollows s = true ∧
  attnFollows s = true

/-- POWER_ON_RESET with STRIKE low leaves every block at its reset value: `State.reset`, with the levels found
on LID and STRIKE, LID_OPEN true if LID is low, and the waiting commands as they were. With STRIKE high the part trips
at once (R138): the latch is set by STRIKE, TRIP is asserted, the session is TRIPPED, both ceilings are 0, and the
trip stop leaves Port D with sequence 0. The model's choice in it, not the spec's: the levels kept on the pins (log
13), the command standing for the whole low pulse of RESET_N (log 15), and the values that `State.reset` gives the
arrival time and length of each framer, the two debounce times and the lead of the ring, for which the spec states no
reset value (log 19). -/
def Obligations.PowerOnReset : Prop :=
  ∀ s : State, ∃ t, exec .powerOnReset s = .next t ∧
    t.now = 0 ∧ t.held = false ∧ t.pending = s.pending ∧
    t.lid = { raw := s.lid.raw, debounced := s.lid.raw, pending := false, since := 0 } ∧
    t.strike = { raw := s.strike.raw, debounced := s.strike.raw, pending := false, since := 0 } ∧
    (s.strike.raw = false →
      t = { State.reset with
        lid := t.lid, strike := t.strike, pending := s.pending
        events := { Events.reset with live := if s.lid.raw then 0 else 0x1000 } }) ∧
    (s.strike.raw = true →
      t.trip = { latch := true, line := true, first := some .strike, causes := CauseSet.empty.add .strike, speed := 0,
                 source := .drive, u := 0 } ∧
      t.session.state = .tripped ∧ t.gov.spin = 0 ∧ t.gov.agitate = 0 ∧
      t.portD.sending = some { bytes := frameBytes 0x11 0 (demandPayload 0 600 0 1), start := 0 })

/-- RESET_N_LOW: the part is held in power-on reset with both ports idle and every queue empty; and while it is held,
every command but POWER_ON_RESET, RESET_N_LOW and SWITCH_RAW_CHANGE leaves it exactly as it is (log 14, the model's
reading of the hold). -/
def Obligations.HoldInReset : Prop :=
  (∀ s : State, ∃ t, exec .resetNLow s = .next t ∧ t.held = true ∧ t.now = 0 ∧ t.portC = PortC.reset ∧
    t.portD = PortD.reset ∧ t.requests = [] ∧ t.trip = Trip.reset ∧ t.ring.valve = false ∧ t.events.attn = false ∧
    t.tables = Tables.reset ∧ t.spin = SpinSettings.reset ∧ t.limits.abs = none ∧ t.limits.mass = none ∧
    t.lid.raw = s.lid.raw ∧ t.strike.raw = s.strike.raw ∧ t.pending = s.pending) ∧
  (∀ (c : Instr) (s : State), s.held = true → c ≠ .powerOnReset → c ≠ .resetNLow →
    (∀ (m : Moment) (sw : Switch), c ≠ .switchRawChange m sw) → exec c s = .next s)

/-- SOFT_RESET executed at the front of the request queue, the spin settings being in their ranges (RangesKept). With
STRIKE low: what is kept, what is reset in every block, the ceilings composed from the terms kept, the bleed timer
started, the live values as the conditions stand, and the response that leaves TXC first with sequence 0 (R169 and the
reset rule of each block: R28 to R30, R33, R76, R96, R120, R135, R138, R148, R155, R156 among them). With STRIKE high the
trip unit acts as the reset completes (R138, R142, R143): a clear latch is set by STRIKE and the trip stop leaves Port D
with sequence 0; a latch kept set takes STRIKE into its cause set. With any data (R169) the answer is BAD_LENGTH and no
reset is made. (That the debounce start times and the framers' arrival times are kept is the model's choice: log 19.) -/
def Obligations.SoftReset : Prop :=
  (∀ (m : Moment) (s : State) (r : Request) (rest : List Request), s.held = false → s.requests = r :: rest → r.op = 9 →
    r.data = [] → s.portC.localQ.length < 4 → s.strike.raw = false → spinInRange s.spin = true →
    ∃ t, exec (.softReset m) s = .next t ∧
      t.now = s.now + m.elapsed ∧ t.requests = [] ∧
      t.portC = { PortC.reset with
        seq := 1, mark := .localQ
        sending := some { bytes := frameBytes 0x3D 0 [r.tag, 9, 0, r.object], start := s.now + m.elapsed } } ∧
      t.portD = PortD.reset ∧ t.standing = Standing.reset ∧ t.requested = { mode := 0, target := 0 } ∧
      t.drive = { speed := 0, torque := 0, time := 0 } ∧ t.rxC = RxCheck.reset ∧ t.rxD = RxCheck.reset ∧
      t.silence = { controllerSince := t.now, controllerSilent := false, driveSince := t.now, driveSilent := false,
                    orphan := none } ∧
      t.framerC = { s.framerC with phase := .hunt, stored := [] } ∧
      t.framerD = { s.framerD with phase := .hunt, stored := [] } ∧
      t.framerS = { s.framerS with phase := .hunt, stored := [] } ∧
      t.intake = { since := t.now, loss := false, lastCount := 0, armed := false
                   last := { present := false, count := 0, ax := 0, ay := 0, az := 0, saturated := false, timestamp := 0 } } ∧
      t.lid = { s.lid with debounced := s.lid.raw, pending := false } ∧
      t.strike = { s.strike with debounced := false, pending := false } ∧
      t.tracker = Tracker.reset ∧ t.est = Estimator.reset ∧ t.weigh = Weighing.reset ∧
      t.loadClass = s.spin.defaultClass ∧ t.monitor = Monitor.reset ∧
      t.session = { Session.reset with state := if s.trip.latch then .tripped else .idle } ∧
      t.gov = { eHeld := 0, eNew := 0, rise := 0
                spin := if s.trip.latch then 0 else (match s.limits.abs with
                  | some a => min a s.spin.blindCeiling
                  | none => s.spin.blindCeiling)
                agitate := if s.trip.latch then 0 else (match s.limits.abs with
                  | some a => min a s.spin.agitateLimit
                  | none => s.spin.agitateLimit) } ∧
      t.events = { live := t.events.live, latch := 0, report := 0, attention := 0, edge := 0
                   counts := Vector.replicate 16 0, attn := false, revNumber := 0, reportCount := 0 } ∧
      (∀ k : Fin 16, t.events.live.getLsbD k.val =
        (if k = 6 then s.ring.contents.toList.any (fun g => g == s.spin.chamberCap)
         else if k = 11 then s.trip.latch else if k = 12 then !s.lid.raw else false)) ∧
      t.classTable = s.classTable ∧ t.tables = s.tables ∧ t.spin = s.spin ∧ t.service = s.service ∧
      t.limits = s.limits ∧
      t.ring = { contents := s.ring.contents, available := s.ring.available, lead := s.ring.lead
                 strayCount := 0, strayTime := 0, bleed := some t.now, valve := false
                 ctx := if s.ring.ctx.state = .active then
                    { s.ring.ctx with
                      outcome := .aborted, endTime := t.now
                      state := if s.spin.flowTail = 0 then .closed else .tail }
                  else s.ring.ctx } ∧
      t.trip = { s.trip with line := s.trip.latch }) ∧
  (∀ (m : Moment) (s : State) (r : Request) (rest : List Request), s.held = false → s.requests = r :: rest → r.op = 9 →
    r.data = [] → s.portC.localQ.length < 4 → s.strike.raw = true → spinInRange s.spin = true →
    ∃ t, exec (.softReset m) s = .next t ∧
      t.portC = { PortC.reset with
        seq := 1, mark := .localQ
        sending := some { bytes := frameBytes 0x3D 0 [r.tag, 9, 0, r.object], start := s.now + m.elapsed } } ∧
      t.strike = { s.strike with debounced := true, pending := false } ∧ t.events.live.getLsbD 13 = true ∧
      t.events.live.getLsbD 11 = true ∧ t.events.attn = false ∧ t.session.state = .tripped ∧ t.gov.spin = 0 ∧
      t.gov.agitate = 0 ∧ t.ring.valve = false ∧
      (s.trip.latch = true →
        t.trip = { s.trip with line := true, causes := s.trip.causes.add .strike } ∧ t.portD = PortD.reset) ∧
      (s.trip.latch = false →
        t.trip = { latch := true, line := true, first := some .strike, speed := 0, source := .drive, u := 0
                   causes := { strike := true, lid := false, mass := false, overspeed := false, drive := false } } ∧
          t.portD = { PortD.reset with
            seq := 1
            sending := some
              { bytes := frameBytes 0x11 0 ([0, 0] ++ be16 (BitVec.ofNat 16 s.spin.tripRamp) ++ [0, 1])
                start := s.now + m.elapsed } })) ∧
  (∀ (m : Moment) (s : State) (r : Request) (rest : List Request), s.held = false → s.requests = r :: rest → r.op = 9 →
    r.data ≠ [] → s.portC.localQ.length < 4 → s.portC.sending ≠ none →
    ∃ t, exec (.softReset m) s = .next t ∧
      t = { tick m s with
        requests := rest
        portC := { s.portC with
          localQ := s.portC.localQ ++
            [{ cls := 0x3D, payload := [r.tag, 9, 5, r.object], changed := false, restated := false }] } })

/-! ### Bytes on a link -/

/-- Part of R4, HUNT: a byte with its stop bit low, or other than 0xA5, is discarded and is no frame error; a 0xA5 is
stored and the framer enters HEADER. Nothing else moves but the arrival time. R5: a byte received in time with its
stop bit low while a frame is under assembly: the stored bytes and the byte are discarded, the framer enters HUNT, and
one occurrence of the port's frame-error source is counted. R5: more than 100 µs after the last byte of a frame under
assembly the frame is abandoned: HUNT, nothing stored, one occurrence counted; the arrival time of the last byte
stands. R5: a class byte with an upper bit set, or at Port S other than 0x21: one occurrence is counted, and the byte
is examined again in HUNT, where a 0xA5 starts a new frame. R5, at the framer: a fault of class, of length or of check
abandons the frame: one frame error, and the stored bytes behind the start byte, the faulty one last, are examined
again from HUNT as though each arrived anew at this moment.
R4, R6: a byte in time with its stop bit high that is no fault is stored: the class, the sequence and the length byte in
HEADER, which the length byte leaves for PAYLOAD or, at 0, for CHECK; the payload bytes, the last of which brings CHECK;
the first check byte. The second check byte that agrees completes the frame: the part does exactly what the command of
that whole frame does. (That BYTE_RECEIVED takes the frame, and that PASS_FRAME_TAKEN and SAMPLE_TAKEN stand for the last
byte of a whole good frame, the class table deciding what becomes of it, is the model's choice: logs 10 and 11.) -/
def Obligations.FramerBytes : Prop :=
  (∀ (m : Moment) (link : Link) (b : LineByte) (s : State), s.held = false → (s.framer link).phase = .hunt →
    (s.framer link).stored = [] →
    ∃ t, exec (.byteReceived m link b) s = .next t ∧
      t = (tick m s).withFramer link
        { phase := if b.stopHigh = true ∧ b.value = 0xA5 then .header else .hunt
          stored := if b.stopHigh = true ∧ b.value = 0xA5 then [0xA5] else []
          lastByte := s.now + m.elapsed
          length := (s.framer link).length }) ∧
  (∀ (m : Moment) (link : Link) (v : Byte) (s : State), s.held = false → (s.framer link).phase ≠ .hunt →
    elapsed (s.now + m.elapsed) (s.framer link).lastByte ≤ 100 →
    ∃ t, exec (.frameError m link { value := v, stopHigh := false }) s = .next t ∧
      t.framer link = { phase := .hunt, stored := [], lastByte := s.now + m.elapsed, length := (s.framer link).length } ∧
      (∀ l, l ≠ link → t.framer l = s.framer l) ∧
      t.monitor = { s.monitor with
        count := if s.monitor.source = errorSource link then min 65535 (s.monitor.count + 1) else s.monitor.count } ∧
      t = { tick m s with
        framerC := t.framerC, framerD := t.framerD, framerS := t.framerS, monitor := t.monitor, events := t.events
        portC := t.portC }) ∧
  (∀ (m : Moment) (link : Link) (s : State), s.held = false → (s.framer link).phase ≠ .hunt →
    100 < elapsed (s.now + m.elapsed) (s.framer link).lastByte →
    ∃ t, exec (.frameTimeout m link) s = .next t ∧
      t.framer link = { s.framer link with phase := .hunt, stored := [] } ∧
      (∀ l, l ≠ link → t.framer l = s.framer l) ∧
      t.monitor = { s.monitor with
        count := if s.monitor.source = errorSource link then min 65535 (s.monitor.count + 1) else s.monitor.count } ∧
      t = { tick m s with
        framerC := t.framerC, framerD := t.framerD, framerS := t.framerS, monitor := t.monitor, events := t.events
        portC := t.portC }) ∧
  (∀ (m : Moment) (link : Link) (v : Byte) (s : State), s.held = false → (s.framer link).phase = .header →
    (s.framer link).stored = [0xA5] → elapsed (s.now + m.elapsed) (s.framer link).lastByte ≤ 100 →
    (64 ≤ v.toNat ∨ (link = .portS ∧ v ≠ 0x21)) →
    ∃ t, exec (.frameError m link { value := v, stopHigh := true }) s = .next t ∧
      t.framer link =
        { phase := if v = 0xA5 then .header else .hunt, stored := if v = 0xA5 then [0xA5] else []
          lastByte := s.now + m.elapsed, length := (s.framer link).length } ∧
      (∀ l, l ≠ link → t.framer l = s.framer l) ∧
      t.monitor = { s.monitor with
        count := if s.monitor.source = errorSource link then min 65535 (s.monitor.count + 1) else s.monitor.count } ∧
      t = { tick m s with
        framerC := t.framerC, framerD := t.framerD, framerS := t.framerS, monitor := t.monitor, events := t.events
        portC := t.portC }) ∧
  (∀ (link : Link) (f : Framer) (now : Time) (v : Byte), framerSound f = true → elapsed now f.lastByte ≤ 100 →
    (f.phase = .header ∧ f.stored.length = 1 ∧ (64 ≤ v.toNat ∨ (link = .portS ∧ v ≠ 0x21)) ∨
      f.phase = .header ∧ f.stored.length = 3 ∧ lengthAllowed f.cls v.toNat = false ∨
      f.phase = .check ∧ f.stored.length = 5 + f.length ∧
        be16 (crc ((f.stored.drop 1).take (3 + f.length))) ≠ [f.stored.getD (4 + f.length) 0, v]) →
    f.line link now { value := v, stopHigh := true } =
      (let r := feed link ((f.stored.tail ++ [v]).map fun b => (b, now))
        { phase := .hunt, stored := [], lastByte := now, length := f.length }
       (r.1, .error :: r.2))) ∧
  (∀ (m : Moment) (link : Link) (v : Byte) (s : State), s.held = false →
    elapsed (s.now + m.elapsed) (s.framer link).lastByte ≤ 100 → framerSound (s.framer link) = true →
    (let f := s.framer link
     let g : Framer := { f with stored := f.stored ++ [v], lastByte := s.now + m.elapsed }
     let next (h : Framer) : Prop :=
      ∃ t, exec (.byteReceived m link { value := v, stopHigh := true }) s = .next t ∧ t = (tick m s).withFramer link h
     (f.phase = .header → f.stored.length = 1 → v.toNat < 64 → (link = .portS → v = 0x21) → next g) ∧
     (f.phase = .header → f.stored.length = 2 → next g) ∧
     (f.phase = .header → f.stored.length = 3 → lengthAllowed ((f.stored.getD 1 0).setWidth 6) v.toNat = true →
      next { g with length := v.toNat, phase := if v = 0 then .check else .payload }) ∧
     (f.phase = .payload →
      next { g with phase := if f.stored.length + 1 = 4 + f.length then .check else .payload }) ∧
     (f.phase = .check → f.stored.length = 4 + f.length → next g))) ∧
  (∀ (m : Moment) (link : Link) (v : Byte) (s : State), s.held = false →
    elapsed (s.now + m.elapsed) (s.framer link).lastByte ≤ 100 → framerSound (s.framer link) = true →
    (s.framer link).phase = .check → (s.framer link).stored.length = 5 + (s.framer link).length →
    (let f := s.framer link
     let cls : Sys2Proof.Class := (f.stored.getD 1 0).setWidth 6
     let seq := f.stored.getD 2 0
     let payload := (f.stored.drop 4).take f.length
     be16 (crc ((f.stored.drop 1).take (3 + f.length))) = [f.stored.getD (4 + f.length) 0, v] →
      lengthAllowed cls f.length = true → (link = .portS → cls = 0x21) →
      ∃ t, exec (.byteReceived m link { value := v, stopHigh := true }) s = .next t ∧
        (t.framer link).phase = .hunt ∧ (t.framer link).stored = [] ∧ (t.framer link).lastByte = s.now + m.elapsed ∧
        (link = .portC → exec (.passFrameTaken m .c cls seq payload) s = .next t) ∧
        (link = .portD → exec (.passFrameTaken m .d cls seq payload) s = .next t) ∧
        (link = .portS →
          exec (.sampleTaken m seq (field8 payload 0) (field16 payload 1) (field16 payload 3) (field16 payload 5)) s =
            .next t)))

/-- A frame that leaves a port as R2 and Table 1-1 give it, received in time on a link that may carry its class with a
length allowed for it (Tables 1-12, 1-13), is taken exactly once, at its last byte, with the class, sequence and
payload it was sent with, and leaves the framer in HUNT.
R4, R5, R6, and how a byte reaches a framer: BYTE_RECEIVED and FRAME_ERROR do one thing; the framer of the link takes the
byte and the other two stand; where it reports nothing, nothing else moves, where it reports frame errors alone, each is
one occurrence of the port's source, and where it reports one frame taken, the part does what the command of the whole
frame does. (That the two commands do one thing, that a whole-frame command stands for the frame's last byte, and that a
late byte meets the timeout first, are the model's own: logs 11, 10 and 12.) -/
def Obligations.FrameRoundTrip : Prop :=
  (∀ (link : Link) (cls : Sys2Proof.Class) (seq : Byte) (payload : List Byte) (f : Framer) (times : List Time),
     f.phase = .hunt → f.stored = [] → lengthAllowed cls payload.length = true →
     (link = .portS → cls = 0x21) → times.length = (frameBytes cls seq payload).length →
     inTime (times.headD 0) ((frameBytes cls seq payload).zip times) = true →
     (feed link ((frameBytes cls seq payload).zip times) f).2 = [.taken cls seq payload] ∧
       (feed link ((frameBytes cls seq payload).zip times) f).1.phase = .hunt ∧
       (feed link ((frameBytes cls seq payload).zip times) f).1.stored = []) ∧
  (∀ (m : Moment) (link : Link) (b : LineByte) (s : State), s.held = false →
    ∃ t, exec (.byteReceived m link b) s = .next t ∧ exec (.frameError m link b) s = .next t ∧
      (let r := (s.framer link).line link (s.now + m.elapsed) b
       t.framer link = r.1 ∧ (∀ l, l ≠ link → t.framer l = s.framer l) ∧
       (r.2 = [] → t = (tick m s).withFramer link r.1) ∧
       (∀ n, r.2 = List.replicate n .error →
        t.monitor = { s.monitor with
          count := if s.monitor.source = errorSource link ∧ n ≠ 0 then min 65535 (s.monitor.count + n)
            else s.monitor.count } ∧
        t = { tick m s with
          framerC := t.framerC, framerD := t.framerD, framerS := t.framerS, monitor := t.monitor, events := t.events
          portC := t.portC }) ∧
       (∀ (cls : Sys2Proof.Class) (seq : Byte) (payload : List Byte), r.2 = [.taken cls seq payload] →
        ∃ u, exec (match link with
            | .portC => .passFrameTaken m .c cls seq payload
            | .portD => .passFrameTaken m .d cls seq payload
            | .portS =>
              .sampleTaken m seq (field8 payload 0) (field16 payload 1) (field16 payload 3) (field16 payload 5)) s =
            .next u ∧
          (lengthAllowed cls payload.length = true → (link = .portS → cls = 0x21) →
            t = u.withFramer link r.1))))

/-! ### Frames taken -/

/-- Part of R7, R9, R23, R24: a frame disposed of by DROP. At Port D it passes the sequence check and does nothing
more; at Port C it also restarts the silence timer and ends CONTROLLER_SILENT and ORPHAN STOP. R9, R14, R16: a PASS
frame taken at Port C. Where the Port D forwarded queue has room and the port is transmitting, the frame joins at the
back unchanged in class and payload; where the port is idle with nothing waiting, it starts to leave at once,
renumbered with the port's own sequence; where the queue is full, it is dropped and QUEUE_OVERFLOW latches. R9, R14,
R16, R18: a PASS frame taken at Port D goes to Port C in the same way: at the back of a forwarded queue with room
while the port transmits, at once on an idle port that no notice of a sequence gap can take first, the last-served
mark naming the forwarded queue, and dropped at a full queue with QUEUE_OVERFLOW latched and one DROPS offered. (A
whole good frame taken at one moment: log 10.) -/
def Obligations.FramesDisposed : Prop :=
  (∀ (m : Moment) (cls : Sys2Proof.Class) (seq : Byte) (payload : List Byte) (s : State), s.held = false →
    lengthAllowed cls payload.length = true → s.action .d cls = .drop →
    ∃ t, exec (.dropFrameTaken m .d cls seq payload) s = .next t ∧
      t.rxD = { lastSeq := seq, armed := true } ∧
      t.monitor = { s.monitor with
        count := if s.monitor.source = .seqGap ∧ s.rxD.armed = true ∧ seq ≠ s.rxD.lastSeq + 1 then
          min 65535 (s.monitor.count + 1) else s.monitor.count } ∧
      t = { tick m s with
        framerD := t.framerD, rxD := t.rxD, monitor := t.monitor, events := t.events, portC := t.portC }) ∧
  (∀ (m : Moment) (cls : Sys2Proof.Class) (seq : Byte) (payload : List Byte) (s : State), s.held = false →
    lengthAllowed cls payload.length = true → s.action .c cls = .drop →
    ∃ t, exec (.dropFrameTaken m .c cls seq payload) s = .next t ∧
      t.rxC = { lastSeq := seq, armed := true } ∧
      t.silence = { s.silence with
        controllerSince := s.now + m.elapsed, controllerSilent := false, orphan := none } ∧
      t.monitor = { s.monitor with
        count := if s.monitor.source = .seqGap ∧ s.rxC.armed = true ∧ seq ≠ s.rxC.lastSeq + 1 then
          min 65535 (s.monitor.count + 1) else s.monitor.count } ∧
      t = { tick m s with
        framerC := t.framerC, rxC := t.rxC, silence := t.silence, monitor := t.monitor, events := t.events
        portC := t.portC }) ∧
  (∀ (m : Moment) (cls : Sys2Proof.Class) (seq : Byte) (payload : List Byte) (s : State), s.held = false →
    lengthAllowed cls payload.length = true → s.action .c cls = .pass →
    ∃ t, exec (.passFrameTaken m .c cls seq payload) s = .next t ∧
      (s.portD.sending ≠ none → s.portD.forwardedQ.length < 8 →
        t.portD = { s.portD with
          forwardedQ := s.portD.forwardedQ ++
            [{ cls := cls, payload := payload, changed := false, restated := false }] }) ∧
      (s.portD.sending = none → s.portD.forwardedQ = [] → s.portD.localQ = [] →
        t.portD = { s.portD with
          seq := s.portD.seq + 1
          sending := some { bytes := frameBytes cls s.portD.seq payload, start := s.now + m.elapsed } }) ∧
      (8 ≤ s.portD.forwardedQ.length →
        t.portD = s.portD ∧ t.events.latch.getLsbD 14 = true ∧
          t.events.counts[14] = s.events.counts[14] + 1) ∧
      t.rxC = { lastSeq := seq, armed := true } ∧
      (s.portD.sending ≠ none ∨ (s.portD.localQ = [] ∧ s.portD.forwardedQ = []) ∨ 8 ≤ s.portD.forwardedQ.length →
        t = { tick m s with
          framerC := t.framerC, rxC := t.rxC, silence := t.silence, monitor := t.monitor, events := t.events
          portC := t.portC, portD := t.portD })) ∧
  (∀ (m : Moment) (cls : Sys2Proof.Class) (seq : Byte) (payload : List Byte) (s : State), s.held = false →
    lengthAllowed cls payload.length = true → s.action .d cls = .pass →
    ∃ t, exec (.passFrameTaken m .d cls seq payload) s = .next t ∧
      (s.portC.sending ≠ none → s.portC.forwardedQ.length < 8 →
        t.portC.forwardedQ = s.portC.forwardedQ ++
            [{ cls := cls, payload := payload, changed := false, restated := false }] ∧
          t.portC.sending = s.portC.sending ∧ t.portC.seq = s.portC.seq) ∧
      (s.portC.sending = none → s.portC.forwardedQ = [] → s.portC.localQ = [] → s.monitor.source ≠ .seqGap →
        t.portC = { s.portC with
          seq := s.portC.seq + 1, mark := .forwarded
          sending := some { bytes := frameBytes cls s.portC.seq payload, start := s.now + m.elapsed } }) ∧
      (8 ≤ s.portC.forwardedQ.length → s.portC.sending ≠ none →
        t.portC.forwardedQ = s.portC.forwardedQ ∧ t.events.latch.getLsbD 14 = true ∧
          t.events.counts[14] = s.events.counts[14] + 1 ∧
          (s.monitor.source = .drops → t.monitor.count = min 65535 (s.monitor.count + 1))) ∧
      t.rxD = { lastSeq := seq, armed := true } ∧
      t = { tick m s with
        framerD := t.framerD, rxD := t.rxD, monitor := t.monitor, events := t.events, portC := t.portC })

/-- Part of R10, R13: a SPEED DEMAND taken at Port C while Port D transmits. The requested demand record takes the
mode as received and the clamped target. The frame replaces a SPEED DEMAND waiting in the forwarded queue in place, or
joins at the back of a queue with room, with its changed-on-receipt mark; and no restated demand waits any longer.
R10, R13, R16, R19, R20, R21: one that moves no session, taken in IDLE while Port D is idle with nothing waiting,
starts to leave at once, governed by the ceilings in force and the ramp limit of the speed band, and the standing
demand takes what leaves, GOVERNED set when the clamp on receipt or the governing changed a field. R13: one that finds
the forwarded queue full with no SPEED DEMAND in it is dropped: the queue stands, a waiting restated demand stays,
QUEUE_OVERFLOW latches once and one DROPS is offered. -/
def Obligations.SpeedDemandTaken : Prop :=
  (∀ (m : Moment) (seq : Byte) (target ramp : Sys2Proof.Word) (mode flags : Byte) (s : State), s.held = false →
    s.portD.sending ≠ none →
    (s.portD.forwardedQ.any (fun g => g.cls == 0x11) = true ∨ s.portD.forwardedQ.length < 8) →
    ∃ t, exec (.speedDemandTaken m seq target ramp mode flags) s = .next t ∧
      t.requested = { mode := mode, target := max (-1500) (min 1500 target.toInt) } ∧
      t.portD.forwardedQ =
        (let f : QFrame :=
          { cls := 0x11
            payload := be16 (BitVec.ofInt 16 (max (-1500) (min 1500 target.toInt))) ++ be16 ramp ++ [mode, flags]
            changed := decide (target.toInt < -1500 ∨ 1500 < target.toInt)
            restated := false }
         if s.portD.forwardedQ.any (fun g => g.cls == 0x11) then
           replaceFirst (fun g => g.cls == 0x11) f s.portD.forwardedQ
         else s.portD.forwardedQ ++ [f]) ∧
      (∀ g ∈ t.portD.localQ, g.restated = false) ∧ t.portD.sending = s.portD.sending ∧ t.portD.seq = s.portD.seq ∧
      t.rxC = { lastSeq := seq, armed := true } ∧ t.silence.controllerSilent = false ∧ t.silence.orphan = none) ∧
  (∀ (m : Moment) (seq : Byte) (target ramp : Sys2Proof.Word) (mode flags : Byte) (s : State), s.held = false →
    s.portD.sending = none → s.portD.forwardedQ = [] → s.portD.localQ = [] → s.session.state = .idle →
    (mode ≠ 2 ∨ max (-1500) (min 1500 target.toInt) ≤ (s.spin.blindCeiling : Int)) → s.trip.latch = false →
    ceilingsComposed s = true →
    ∃ t, exec (.speedDemandTaken m seq target ramp mode flags) s = .next t ∧
      (let clamped : Int := max (-1500) (min 1500 target.toInt)
       t.requested = { mode := mode, target := clamped } ∧ t.session = s.session ∧ t.gov = s.gov ∧
       t.standing.mode = (if mode = 1 then .agitate else if mode = 2 then .spin else if mode = 3 then .coast else .stop) ∧
       t.standing.target =
        (match t.standing.mode with
         | .stop | .coast => 0
         | .spin => max 0 (min clamped s.gov.spin)
         | .agitate => max (-(s.gov.agitate : Int)) (min clamped s.gov.agitate)) ∧
       t.standing.ramp =
        max 1 (min ramp.toNat
          (if look s.tables.rampLimit s.speedBand 0 = 0 then 2000 else look s.tables.rampLimit s.speedBand 0)) ∧
       (t.standing.governed = true ↔
        clamped ≠ target.toInt ∨ t.standing.mode.code ≠ mode ∨ t.standing.target ≠ clamped ∨
          t.standing.ramp ≠ ramp.toNat) ∧
       t.portD = { s.portD with
        seq := s.portD.seq + 1
        sending := some
          { bytes := frameBytes 0x11 s.portD.seq
              (be16 (BitVec.ofInt 16 t.standing.target) ++ be16 (BitVec.ofNat 16 t.standing.ramp) ++
                [t.standing.mode.code, if t.standing.governed then 1 else 0])
            start := s.now + m.elapsed } })) ∧
  (∀ (m : Moment) (seq : Byte) (target ramp : Sys2Proof.Word) (mode flags : Byte) (s : State), s.held = false →
    s.portD.sending ≠ none → s.portD.forwardedQ.any (fun g => g.cls == 0x11) = false →
    8 ≤ s.portD.forwardedQ.length →
    ∃ t, exec (.speedDemandTaken m seq target ramp mode flags) s = .next t ∧
      t.requested = { mode := mode, target := max (-1500) (min 1500 target.toInt) } ∧
      t.portD.forwardedQ = s.portD.forwardedQ ∧ (∀ g ∈ s.portD.localQ, g ∈ t.portD.localQ) ∧
      t.portD.sending = s.portD.sending ∧ t.standing = s.standing ∧
      t.events.latch.getLsbD 14 = true ∧ t.events.counts[14] = s.events.counts[14] + 1 ∧
      (s.monitor.source = .drops → t.monitor.count = min 65535 (s.monitor.count + 1)))

/-- Part of R97, R98, R99, R69, R123: a spin request taken in IDLE with the trip latch clear and the drive fresh starts
a session: progress and corrections cleared, the ring AVAILABLE, the weighing ARMED and empty, the load class
DEFAULT_CLASS. With an empty program the session enters OPEN and the redistribution count clears; with a first plateau
below the target that the index speed has not reached within 10 rpm, it enters CLIMB and the count is kept. Taken while
Port D is idle with nothing waiting, one SPEED DEMAND leaves, the request's frame held to the ceiling then in force,
whatever ceiling falls as the session starts (log 33, the model's reading of R22). R139, R10, R13: the same request with
the drive silent starts the session and trips it at once on DRIVE, and on an idle Port D one SPEED DEMAND leaves, the
request's frame as the trip stop. Table 6-3, R94, R95, R97, R105, R111, R113: a spin request outside IDLE. In CLIMB,
DWELL, SETTLE and CORRECT nothing changes while a plateau is current under the new request, and else the session enters
OPEN, in CORRECT with the injection ABORTED and recorded; OPEN enters CLIMB at a current plateau; RUNDOWN resumes in
CLIMB or OPEN, the marks, the list, the weighing and the availability kept; an entry to CLIMB at the plateau's speed
less 10 or more goes on to DWELL; LIMITED, HOLD_DOWN and TRIPPED stand. The current plateau is the lowest of the program
that lies below the target and is not passed. (That the attempt of an aborted injection is charged to the plateau of the
newest record is the model's reading, log 24, and `midRev`, set at an entry to DWELL, is the model's mark, log 18.) -/
def Obligations.SessionStarts : Prop :=
  (∀ (m : Moment) (seq : Byte) (target ramp : Sys2Proof.Word) (flags : Byte) (s : State), s.held = false →
    s.session.state = .idle → s.trip.latch = false → s.silence.driveSilent = false →
    (s.spin.blindCeiling : Int) < max (-1500) (min 1500 target.toInt) →
    (look s.tables.plateau 0 0 = 0 ∨
      (((look s.tables.plateau 0 0 : Nat) : Int) < max (-1500) (min 1500 target.toInt) ∧
        s.indexSpeed + 10 < look s.tables.plateau 0 0)) →
    ∃ t, exec (.speedDemandTaken m seq target ramp 2 flags) s = .next t ∧
      t.session.state = (if look s.tables.plateau 0 0 = 0 then .opened else .climb) ∧
      t.session.redist = (if look s.tables.plateau 0 0 = 0 then 0 else s.session.redist) ∧
      t.session.corrections = [] ∧ t.session.progress = Vector.replicate 6 Progress.reset ∧
      t.ring.available = true ∧ t.ring.contents = s.ring.contents ∧
      t.weigh = { Weighing.reset with state := .armed } ∧ t.loadClass = s.spin.defaultClass ∧
      t.trip = s.trip ∧ t.est = s.est ∧ t.tracker = s.tracker ∧ t.drive = s.drive ∧ t.limits = s.limits ∧
      t.tables = s.tables ∧ t.spin = s.spin ∧ t.requests = s.requests ∧
      (s.portD.sending = none → s.portD.forwardedQ = [] → s.portD.localQ = [] →
        t.standing.mode = .spin ∧ t.standing.target = min (max (-1500) (min 1500 target.toInt)) t.gov.spin ∧
          t.portD = { s.portD with
            seq := s.portD.seq + 1
            sending := some
              { bytes := frameBytes 0x11 s.portD.seq (be16 (BitVec.ofInt 16 t.standing.target) ++
                  be16 (BitVec.ofNat 16 t.standing.ramp) ++ [2, if t.standing.governed then 1 else 0])
                start := s.now + m.elapsed } })) ∧
  (∀ (m : Moment) (seq : Byte) (target ramp : Sys2Proof.Word) (flags : Byte) (s : State), s.held = false →
    s.session.state = .idle → s.trip.latch = false → s.silence.driveSilent = true →
    (s.spin.blindCeiling : Int) < max (-1500) (min 1500 target.toInt) → s.portD.sending = none →
    s.portD.forwardedQ = [] → s.portD.localQ = [] →
    ∃ t, exec (.speedDemandTaken m seq target ramp 2 flags) s = .next t ∧
      t.trip.latch = true ∧ t.trip.line = true ∧ t.trip.first = some .drive ∧ t.trip.causes.has .drive = true ∧
      t.session.state = .tripped ∧ t.weigh.state = .failed ∧ t.gov.spin = 0 ∧ t.gov.agitate = 0 ∧
      t.ring.valve = false ∧ t.events.live.getLsbD 11 = true ∧
      t.standing = { mode := .stop, target := 0, ramp := s.spin.tripRamp, governed := true } ∧
      t.portD = { s.portD with
        seq := s.portD.seq + 1
        sending := some
          { bytes := frameBytes 0x11 s.portD.seq ([0, 0] ++ be16 (BitVec.ofNat 16 s.spin.tripRamp) ++ [0, 1])
            start := s.now + m.elapsed } }) ∧
  (∀ (m : Moment) (seq : Byte) (target ramp : Sys2Proof.Word) (flags : Byte) (s : State), s.held = false →
    s.session.state ≠ .idle → (s.spin.blindCeiling : Int) < max (-1500) (min 1500 target.toInt) →
    ∃ t, exec (.speedDemandTaken m seq target ramp 2 flags) s = .next t ∧
      t.requested = { mode := 2, target := max (-1500) (min 1500 target.toInt) } ∧
      (let speed (e : Fin 6) : Nat := look s.tables.plateau (e.val * 6) 0
       let applies (e : Fin 6) : Bool :=
        (∀ d : Fin 6, d ≤ e → speed d ≠ 0) ∧ (∀ c d : Fin 6, c < d → d ≤ e → speed c < speed d) ∧
          (speed e : Int) < max (-1500) (min 1500 target.toInt)
       let current (e : Fin 6) : Bool :=
        applies e = true ∧ s.session.progress[e].passed = false ∧
          ∀ d : Fin 6, d < e → applies d = true → s.session.progress[d].passed = true
       let entered (x : Session) (e : Fin 6) : Session :=
        if speed e ≤ s.indexSpeed + 10 then { x with state := .dwell, dwell := 0, midRev := true }
        else { x with state := .climb }
       let opened (x : Session) : Session := { x with state := .opened, redist := 0 }
       (s.session.state = .climb ∨ s.session.state = .dwell ∨ s.session.state = .settle →
        t.session = (if ∃ e, current e = true then s.session else opened s.session) ∧ t.ring.ctx = s.ring.ctx) ∧
       (s.session.state = .correct → (∃ e, current e = true) → t.session = s.session ∧ t.ring.ctx = s.ring.ctx) ∧
       (s.session.state = .correct → (∀ e, current e = false) → s.ring.ctx.state = .active →
        t.session.state = .opened ∧ t.session.redist = 0 ∧ t.ring.valve = false ∧ t.ring.ctx.outcome = .aborted ∧
          t.ring.ctx.endTime = s.now + m.elapsed ∧
          ∀ (l : List Correction) (c : Correction), s.session.corrections = l ++ [c] →
            t.session.corrections = l ++ [{ c with outcome := .aborted, credited := s.ring.ctx.credited }] ∧
              t.session.progress[c.plateau].attempts = s.session.progress[c.plateau].attempts + 1) ∧
       (s.session.state = .opened →
        (∀ e, current e = true → t.session = entered s.session e) ∧
          ((∀ e, current e = false) → t.session = s.session)) ∧
       (s.session.state = .rundown →
        (∀ e, current e = true → t.session = entered s.session e) ∧
          ((∀ e, current e = false) → t.session = opened s.session)) ∧
       (s.session.state = .limited ∨ s.session.state = .holdDown ∨ s.session.state = .tripped →
        t.session = s.session)) ∧
      (s.weigh.state ≠ .armed → t.weigh = s.weigh ∧ t.loadClass = s.loadClass) ∧
      t.ring.available = s.ring.available ∧ t.ring.contents = s.ring.contents ∧ t.trip = s.trip ∧ t.est = s.est ∧
      t.tracker = s.tracker ∧ t.limits = s.limits ∧ t.tables = s.tables ∧ t.requests = s.requests)

/-- Part of R98, R105, R113, R72: an ending request taken outside IDLE, HOLD_DOWN, RUNDOWN and TRIPPED, with the speed
not below RETAIN_SPEED, sends the session to RUNDOWN. A weighing still ARMED is FAILED with J 0; in CORRECT the
injection ends ABORTED with VALVE closed, the newest correction record takes ABORTED and the grams credited, and its
plateau's attempts used advance by one. (The plateau of the newest record: log 24.)
R113, R114: at a speed below RETAIN_SPEED the session goes through RUNDOWN to IDLE at once: passed marks cleared, failed
plateau none, counts 0, attempts used, U and the list kept. Table 6-3: in IDLE, HOLD_DOWN, RUNDOWN and TRIPPED an ending
request changes nothing in the session. -/
def Obligations.EndingRequest : Prop :=
  (∀ (m : Moment) (seq : Byte) (target ramp : Sys2Proof.Word) (mode flags : Byte) (s : State), s.held = false →
     s.session.state ≠ .idle → s.session.state ≠ .holdDown → s.session.state ≠ .rundown → s.session.state ≠ .tripped →
     s.silence.driveSilent = false → s.speedBelow s.spin.retainSpeed = false →
     (mode ≠ 2 ∨ max (-1500) (min 1500 target.toInt) ≤ (s.spin.blindCeiling : Int)) →
     ∃ t, exec (.speedDemandTaken m seq target ramp mode flags) s = .next t ∧
       t.session.state = .rundown ∧
       t.weigh = (if s.weigh.state = .armed then { s.weigh with state := .failed, j := 0 } else s.weigh) ∧
       (s.session.state ≠ .correct →
         t.session = { s.session with state := .rundown } ∧ t.ring.ctx = s.ring.ctx) ∧
       (s.session.state = .correct → s.ring.ctx.state = .active →
         t.ring.ctx.outcome = .aborted ∧ t.ring.ctx.endTime = s.now + m.elapsed ∧ t.ring.valve = false ∧
           ∀ (l : List Correction) (c : Correction), s.session.corrections = l ++ [c] →
             t.session.corrections = l ++ [{ c with outcome := .aborted, credited := s.ring.ctx.credited }] ∧
               t.session.progress[c.plateau].attempts = s.session.progress[c.plateau].attempts + 1) ∧
       t.ring.contents = s.ring.contents ∧ t.est = s.est ∧ t.tracker = s.tracker ∧ t.limits = s.limits) ∧
  (∀ (m : Moment) (seq : Byte) (target ramp : Sys2Proof.Word) (mode flags : Byte) (s : State), s.held = false →
    (s.session.state = .climb ∨ s.session.state = .dwell ∨ s.session.state = .settle ∨ s.session.state = .opened ∨
      s.session.state = .limited) → s.speedBelow s.spin.retainSpeed = true →
    (mode ≠ 2 ∨ max (-1500) (min 1500 target.toInt) ≤ (s.spin.blindCeiling : Int)) →
    ∃ t, exec (.speedDemandTaken m seq target ramp mode flags) s = .next t ∧
      (∀ e : Fin 6, t.session.progress[e] = { s.session.progress[e] with passed := false }) ∧
      t.session = { s.session with
        state := .idle, progress := t.session.progress, failed := none, dwell := 0, settle := 0 } ∧
      t.weigh = (if s.weigh.state = .armed then { s.weigh with state := .failed, j := 0 } else s.weigh) ∧
      t.ring.contents = s.ring.contents ∧ t.est = s.est ∧ t.trip = s.trip) ∧
  (∀ (m : Moment) (seq : Byte) (target ramp : Sys2Proof.Word) (mode flags : Byte) (s : State), s.held = false →
    (s.session.state = .idle ∨ s.session.state = .holdDown ∨ s.session.state = .rundown ∨
      s.session.state = .tripped) →
    (mode ≠ 2 ∨ max (-1500) (min 1500 target.toInt) ≤ (s.spin.blindCeiling : Int)) →
    ∃ t, exec (.speedDemandTaken m seq target ramp mode flags) s = .next t ∧
      t.requested = { mode := mode, target := max (-1500) (min 1500 target.toInt) } ∧ t.session = s.session ∧
      t.ring = (tick m s).ring ∧ t.trip = s.trip ∧ t.est = s.est ∧ t.weigh = s.weigh ∧ t.loadClass = s.loadClass)

/-- Part of R11, R14, R23: a DRIVE STATUS taken at Port D while Port C transmits. The record takes the clamped speed,
the torque current and the time; the silence timer restarts and DRIVE_SILENT is false; the frame, its speed not
clamped, replaces the DRIVE STATUS waiting in the Port C forwarded queue in place or joins the back of a queue with
room.
R110, R113, R114: with the angle invalid, the drive speed is the speed. HOLD_DOWN and RUNDOWN enter IDLE at the status
whose speed lies below RETAIN_SPEED in magnitude (and trips nothing): the passed marks are cleared, the failed plateau is
none, the counts are 0, and from HOLD_DOWN the redistribution count advances; at or above it the session stands. -/
def Obligations.DriveStatusTaken : Prop :=
  (∀ (m : Moment) (seq : Byte) (speed torque bus : Sys2Proof.Word) (driveState driveFault : Byte) (s : State),
     s.held = false → s.portC.sending ≠ none →
     (s.portC.forwardedQ.any (fun g => g.cls == 0x31) = true ∨ s.portC.forwardedQ.length < 8) →
     ∃ t, exec (.driveStatusTaken m seq speed torque bus driveState driveFault) s = .next t ∧
       t.drive = { speed := max (-1500) (min 1500 speed.toInt), torque := torque.toInt, time := s.now + m.elapsed } ∧
       t.silence = { s.silence with driveSince := s.now + m.elapsed, driveSilent := false } ∧
       t.rxD = { lastSeq := seq, armed := true } ∧
       t.portC.forwardedQ =
         (let f : QFrame :=
           { cls := 0x31, payload := be16 speed ++ be16 torque ++ be16 bus ++ [driveState, driveFault], changed := false
             restated := false }
          if s.portC.forwardedQ.any (fun g => g.cls == 0x31) then
            replaceFirst (fun g => g.cls == 0x31) f s.portC.forwardedQ
          else s.portC.forwardedQ ++ [f]) ∧
       t.est = s.est ∧ t.tracker = s.tracker ∧ t.limits = s.limits ∧ t.tables = s.tables ∧ t.spin = s.spin ∧
       t.requested = s.requested ∧ t.requests = s.requests ∧ t.ring.contents = s.ring.contents ∧
       t.intake = s.intake ∧ t.lid = s.lid ∧ t.strike = s.strike) ∧
  (∀ (m : Moment) (seq : Byte) (speed torque bus : Sys2Proof.Word) (driveState driveFault : Byte) (s : State),
    s.held = false → (s.session.state = .holdDown ∨ s.session.state = .rundown) → s.tracker.state ≠ .locked →
    -1500 ≤ speed.toInt → speed.toInt ≤ 1500 → speed.toInt.natAbs ≤ s.overspeedBound → s.lid.debounced = true →
    ∃ t, exec (.driveStatusTaken m seq speed torque bus driveState driveFault) s = .next t ∧
      (speed.toInt.natAbs < s.spin.retainSpeed →
        (∀ e : Fin 6, t.session.progress[e] = { s.session.progress[e] with passed := false }) ∧
        t.session = { s.session with
          state := .idle, progress := t.session.progress, failed := none, dwell := 0, settle := 0
          redist := if s.session.state = .holdDown then s.session.redist + 1 else s.session.redist } ∧
        t.events.live.getLsbD 3 = false ∧ t.ring.bleed.isSome = true) ∧
      (s.spin.retainSpeed ≤ speed.toInt.natAbs → t.session = s.session ∧ t.ring.bleed = none) ∧
      t.trip = s.trip ∧ t.ring.contents = s.ring.contents)

/-- Part of R70: a DRIVE STATUS taken while the weighing is ARMED, with its speed in the window and no trip cause
arising from it: the status is recorded; at n = 65535 the current sum and n stand. Outside the window from below it is
not recorded and the weighing stays as it was. R71, R73: a DRIVE STATUS above WEIGH_HI ends an ARMED weighing whose
window holds five statuses or more, 20 rpm or more and a positive current sum: the weighing is DONE, J is formed from
the exact product and bounded by 65535, and the load class is the number of thresholds that J equals or exceeds. The
status itself is not recorded. R71, R72: a window of fewer than five statuses, of less than 20 rpm or of a current sum
of 0 or less: FAILED with J 0, and the load class is DEFAULT_CLASS (log 23). -/
def Obligations.WeighingExamined : Prop :=
  (∀ (m : Moment) (seq : Byte) (speed torque bus : Sys2Proof.Word) (driveState driveFault : Byte) (s : State),
    s.held = false → s.weigh.state = .armed → s.weigh.n ≤ 65535 → s.lid.debounced = true →
    -1500 ≤ speed.toInt → speed.toInt ≤ (s.spin.weighHi : Int) → s.spin.weighHi ≤ 600 →
    speed.toInt.natAbs ≤ s.overspeedBound →
    ∃ t, exec (.driveStatusTaken m seq speed torque bus driveState driveFault) s = .next t ∧
      t.weigh =
        (if speed.toInt < (s.spin.weighLo : Int) then s.weigh
         else
          { s.weigh with
            cSum := if s.weigh.n = 65535 then s.weigh.cSum else s.weigh.cSum + torque.toInt
            n := min 65535 (s.weigh.n + 1)
            tFirst := if s.weigh.n = 0 then s.now + m.elapsed else s.weigh.tFirst
            sFirst := if s.weigh.n = 0 then speed.toInt else s.weigh.sFirst
            tLast := s.now + m.elapsed
            sLast := speed.toInt }) ∧
      t.loadClass = s.loadClass) ∧
  (∀ (m : Moment) (seq : Byte) (speed torque bus : Sys2Proof.Word) (driveState driveFault : Byte) (s : State),
    s.held = false → s.weigh.state = .armed → 5 ≤ s.weigh.n → 20 ≤ s.weigh.sLast - s.weigh.sFirst → 0 < s.weigh.cSum →
    s.lid.debounced = true → (s.spin.weighHi : Int) < speed.toInt → speed.toInt ≤ 1500 →
    speed.toInt.natAbs ≤ s.overspeedBound →
    ∃ t, exec (.driveStatusTaken m seq speed torque bus driveState driveFault) s = .next t ∧
      t.weigh = { s.weigh with
        state := .done
        j := min 65535
          ((s.weigh.cSum / s.weigh.n).toNat * elapsed s.weigh.tLast s.weigh.tFirst /
            ((s.weigh.sLast - s.weigh.sFirst).toNat * 1000)) } ∧
      t.loadClass = s.tables.weighThresh.toList.countP (fun w => decide (w ≤ t.weigh.j))) ∧
  (∀ (m : Moment) (seq : Byte) (speed torque bus : Sys2Proof.Word) (driveState driveFault : Byte) (s : State),
    s.held = false → s.weigh.state = .armed →
    (s.weigh.n < 5 ∨ s.weigh.sLast - s.weigh.sFirst < 20 ∨ s.weigh.cSum ≤ 0) → s.lid.debounced = true →
    (s.spin.weighHi : Int) < speed.toInt → speed.toInt ≤ 1500 → speed.toInt.natAbs ≤ s.overspeedBound →
    ∃ t, exec (.driveStatusTaken m seq speed torque bus driveState driveFault) s = .next t ∧
      t.weigh = { s.weigh with state := .failed, j := 0 } ∧ t.loadClass = s.spin.defaultClass)

/-- Part of R9, R159: a MANAGEMENT REQUEST taken at Port C joins the back of a request queue that holds fewer than
two; at a full queue it is dropped and one DROPS is offered to the monitor counter. -/
def Obligations.RequestTaken : Prop :=
  ∀ (m : Moment) (seq tag op object index : Byte) (data : List Byte) (s : State), s.held = false → data.length ≤ 20 →
    ∃ t, exec (.managementRequestTaken m seq tag op object index data) s = .next t ∧
      t.requests = (if s.requests.length < 2 then
        s.requests ++ [{ tag := tag, op := op, object := object, index := index, data := data }] else s.requests) ∧
      t.rxC = { lastSeq := seq, armed := true } ∧
      (2 ≤ s.requests.length → s.monitor.source = .drops → t.monitor.count = min 65535 (s.monitor.count + 1)) ∧
      t = { tick m s with
        framerC := t.framerC, rxC := t.rxC, silence := t.silence, monitor := t.monitor, events := t.events
        portC := t.portC, requests := t.requests }

/-- Part of R25 to R30, R49, R55, R56: a SAMPLE taken. The silence timer restarts and SENSOR_LOSS is false; the last
sample record takes the clamped fields, the saturated mark and the timestamp; a sample given an angle below P adds its
terms to an open accumulation of fewer than 2047 samples. Any other sample leaves the estimator as it stands: one with
no angle (the tracker not LOCKED), an EARLY one, a LATE one, one with no accumulation open (the estimator INVALID),
and one that meets an accumulation of 2047. -/
def Obligations.SampleTaken : Prop :=
  ∀ (m : Moment) (seq count : Byte) (ax ay az : Sys2Proof.Word) (s : State), s.held = false →
    ∃ t, exec (.sampleTaken m seq count ax ay az) s = .next t ∧
      t.intake =
        { since := s.now + m.elapsed, loss := false, lastCount := count, armed := true
          last :=
            { present := true, count := count, ax := max (-8000) (min 8000 ax.toInt), ay := max (-8000) (min 8000 ay.toInt)
              az := az.toInt
              saturated := decide (ax.toInt < -8000 ∨ 8000 < ax.toInt ∨ ay.toInt < -8000 ∨ 8000 < ay.toInt)
              timestamp := s.now + m.elapsed - BitVec.ofNat 32 s.spin.sensorLatency } } ∧
      (∀ (since : Time) (p : Nat) (a : Accumulation), s.tracker.state = .locked → s.tracker.lastIndex = some since →
        s.tracker.period = some p → s.est.state ≠ .invalid → s.est.acc = some a → a.n < 2047 →
        s.spin.sensorLatency ≤ elapsed (s.now + m.elapsed) since →
        elapsed (s.now + m.elapsed) since - s.spin.sensorLatency < p →
        (let theta := (elapsed (s.now + m.elapsed) since - s.spin.sensorLatency) * 65536 / p
         t.est = { s.est with
          acc := some
            { i := a.i + (t.intake.last.ax * sineEntry ((theta / 64 + 256) % 1024) +
                t.intake.last.ay * sineEntry (theta / 64))
              q := a.q + (t.intake.last.ay * sineEntry ((theta / 64 + 256) % 1024) -
                t.intake.last.ax * sineEntry (theta / 64))
              n := a.n + 1 } })) ∧
      (s.tracker.state ≠ .locked ∨ s.tracker.lastIndex = none ∨ s.tracker.period = none ∨ s.est.state = .invalid ∨
        s.est.acc = none → t.est = s.est) ∧
      (∀ since : Time, s.tracker.lastIndex = some since →
        elapsed (s.now + m.elapsed) since < s.spin.sensorLatency → t.est = s.est) ∧
      (∀ (since : Time) (p : Nat), s.tracker.lastIndex = some since → s.tracker.period = some p →
        s.spin.sensorLatency + p ≤ elapsed (s.now + m.elapsed) since → t.est = s.est) ∧
      (∀ a : Accumulation, s.est.acc = some a → 2047 ≤ a.n → t.est = s.est) ∧
      (s.monitor.source = .seqGap → s.intake.armed = true → count ≠ s.intake.lastCount + 1 →
        t.monitor.count = min 65535 (s.monitor.count + 1)) ∧
      t = { tick m s with
        framerS := t.framerS, intake := t.intake, est := t.est, monitor := t.monitor, events := t.events
        portC := t.portC }

/-- Part of R25, R32: neither the sequence byte nor az of a SAMPLE reaches anything but the az of the last sample
record. -/
def Obligations.SampleSeqAndAzInert : Prop :=
  ∀ (m : Moment) (seq seq' count : Byte) (ax ay az az' : Sys2Proof.Word) (s : State),
    ∃ t t', exec (.sampleTaken m seq count ax ay az) s = .next t ∧
      exec (.sampleTaken m seq' count ax ay az') s = .next t' ∧
      t' = { t with intake := { t.intake with last := { t.intake.last with az := t'.intake.last.az } } }

/-! ### Transmission -/

/-- R17: as Port D ends a transmission, the front of the local queue leaves next whenever that queue is not empty, the
front of the forwarded queue otherwise; with nothing waiting the port is idle. -/
def Obligations.ArbiterD : Prop :=
  ∀ (m : Moment) (s : State) (x : Sending), s.held = false → s.portD.sending = some x →
    x.bytes.length * 10 ≤ elapsed (s.now + m.elapsed) x.start →
    ∃ t, exec (.transmitEnd m .d) s = .next t ∧
      t.portD.localQ = s.portD.localQ.tail ∧
      t.portD.forwardedQ = (if s.portD.localQ = [] then s.portD.forwardedQ.tail else s.portD.forwardedQ) ∧
      (s.portD.localQ = [] → s.portD.forwardedQ = [] → t.portD = { s.portD with sending := none }) ∧
      (∀ (f : QFrame) (rest : List QFrame),
        s.portD.localQ ++ (if s.portD.localQ = [] then s.portD.forwardedQ else []) = f :: rest → f.cls ≠ 0x11 →
        t.portD.sending = some { bytes := frameBytes f.cls s.portD.seq f.payload, start := s.now + m.elapsed } ∧
          t.portD.seq = s.portD.seq + 1 ∧ t.standing = s.standing) ∧
      t = { tick m s with portD := t.portD, standing := t.standing, events := t.events, portC := t.portC }

/-- Part of R16, R19, R20, R21: a SPEED DEMAND that starts to leave Port D as the port ends a transmission. With the
trip latch set it leaves as STOP, target 0, ramp TRIP_RAMP. Otherwise a mode above 3 is STOP; STOP and COAST carry
target 0, SPIN a target cut to 0..ceiling, AGITATE one cut to the ceiling with its sign kept; the ramp is cut to 1..L,
L being RAMP_LIMIT of the band of the speed (band 0 while it is unknown), or to 1..2000 where L is 0. The target's
magnitude does not exceed the ceiling of its mode; the standing demand takes what leaves; GOVERNED is set exactly when
the frame carries the changed mark or its mode, target or ramp differ from those it waited with. -/
def Obligations.DemandGoverned : Prop :=
  ∀ (m : Moment) (s : State) (x : Sending) (f : QFrame) (rest : List QFrame), s.held = false →
    s.portD.sending = some x → x.bytes.length * 10 ≤ elapsed (s.now + m.elapsed) x.start →
    s.portD.localQ ++ (if s.portD.localQ = [] then s.portD.forwardedQ else []) = f :: rest → f.cls = 0x11 →
    (s.trip.latch = true → s.gov.spin = 0 ∧ s.gov.agitate = 0) →
    ∃ t, exec (.transmitEnd m .d) s = .next t ∧
      t.standing.mode = (if s.trip.latch then .stop else if demandMode f.payload = 1 then .agitate
        else if demandMode f.payload = 2 then .spin else if demandMode f.payload = 3 then .coast else .stop) ∧
      t.standing.target =
        (match t.standing.mode with
         | .stop | .coast => 0
         | .spin => max 0 (min (demandTarget f.payload) s.gov.spin)
         | .agitate => max (-(s.gov.agitate : Int)) (min (demandTarget f.payload) s.gov.agitate)) ∧
      t.standing.ramp =
        (if s.trip.latch then s.spin.tripRamp
         else max 1 (min (demandRamp f.payload)
          (if look s.tables.rampLimit s.speedBand 0 = 0 then 2000 else look s.tables.rampLimit s.speedBand 0))) ∧
      t.standing.target.natAbs ≤ t.gov.ceiling t.standing.mode ∧
      (t.standing.governed = true ↔
        f.changed = true ∨ t.standing.mode.code ≠ demandMode f.payload ∨ t.standing.target ≠ demandTarget f.payload ∨
          t.standing.ramp ≠ demandRamp f.payload) ∧
      t.portD.sending = some
        { bytes := frameBytes 0x11 s.portD.seq
            (be16 (BitVec.ofInt 16 t.standing.target) ++ be16 (BitVec.ofNat 16 t.standing.ramp) ++
              [t.standing.mode.code, if t.standing.governed then 1 else 0])
          start := s.now + m.elapsed } ∧
      t.portD.seq = s.portD.seq + 1 ∧ t.gov = s.gov ∧ t.trip = s.trip ∧ t.session = s.session ∧
      (t.events.live.getLsbD 1 = t.standing.governed)

/-- R18: as Port C ends a transmission with frames in both queues, the front of the queue not named by the mark
leaves; with frames in one queue its front leaves; the mark then names the queue picked. After either reset the mark
names the forwarded queue. -/
def Obligations.ArbiterC : Prop :=
  (∀ (m : Moment) (s : State) (x : Sending), s.held = false → s.portC.sending = some x →
    x.bytes.length * 10 ≤ elapsed (s.now + m.elapsed) x.start →
    ∃ t, exec (.transmitEnd m .c) s = .next t ∧
      (∀ (f : QFrame) (rest : List QFrame), s.portC.localQ = f :: rest →
        (s.portC.mark = .forwarded ∨ s.portC.forwardedQ = []) →
        t.portC = { s.portC with
          localQ := rest, mark := .localQ, seq := s.portC.seq + 1
          sending := some { bytes := frameBytes f.cls s.portC.seq f.payload, start := s.now + m.elapsed } }) ∧
      (∀ (f : QFrame) (rest : List QFrame), s.portC.forwardedQ = f :: rest →
        (s.portC.mark = .localQ ∨ s.portC.localQ = []) →
        t.portC = { s.portC with
          forwardedQ := rest, mark := .forwarded, seq := s.portC.seq + 1
          sending := some { bytes := frameBytes f.cls s.portC.seq f.payload, start := s.now + m.elapsed } }) ∧
      (s.portC.localQ = [] → s.portC.forwardedQ = [] → t.portC = { s.portC with sending := none }) ∧
      t = { tick m s with portC := t.portC }) ∧
  PortC.reset.mark = .forwarded

/-! ### Silence -/

/-- Part of R7, R23, R24: 500 ms after the last good frame at Port C, with Port D transmitting: CONTROLLER_SILENT is
true, the Port C sequence check is disarmed, the requested demand is STOP with target 0, no SPEED DEMAND waits in the
Port D forwarded queue, and the orphan stop with DOWN_RAMP is the one demand in the local queue. R24: every 100 ms of
ORPHAN STOP the removal and the queuing are made again (the requested demand and the phase of the repetitions as log
22 says). -/
def Obligations.OrphanStop : Prop :=
  (∀ (m : Moment) (s : State), s.held = false → s.silence.controllerSilent = false →
    500000 ≤ elapsed (s.now + m.elapsed) s.silence.controllerSince → oneDemand s = true → s.portD.sending ≠ none →
    ∃ t, exec (.controllerSilent m) s = .next t ∧
      t.silence = { s.silence with controllerSilent := true, orphan := some (s.now + m.elapsed) } ∧
      t.rxC = { s.rxC with armed := false } ∧ t.requested = { mode := 0, target := 0 } ∧
      t.portD.forwardedQ = s.portD.forwardedQ.filter (fun g => g.cls != 0x11) ∧
      t.portD.localQ =
        [{ cls := 0x11, payload := be16 0 ++ be16 (BitVec.ofNat 16 s.spin.downRamp) ++ [0, 0], changed := false
           restated := true }] ∧
      t.portD.sending = s.portD.sending ∧
      (s.session.state = .opened ∨ s.session.state = .limited ∨ s.session.state = .climb ∨ s.session.state = .dwell →
        s.speedBelow s.spin.retainSpeed = false → t.session.state = .rundown) ∧
      t.est = s.est ∧ t.tracker = s.tracker ∧ t.trip = s.trip ∧ t.limits = s.limits) ∧
  (∀ (m : Moment) (s : State) (since : Time), s.held = false → s.silence.orphan = some since →
    100000 ≤ elapsed (s.now + m.elapsed) since → oneDemand s = true → s.portD.sending ≠ none →
    ∃ t, exec (.orphanStopRepeat m) s = .next t ∧
      t.silence = { s.silence with orphan := some (since + 100000) } ∧
      t.portD.forwardedQ = s.portD.forwardedQ.filter (fun g => g.cls != 0x11) ∧
      t.portD.localQ =
        [{ cls := 0x11, payload := be16 0 ++ be16 (BitVec.ofNat 16 s.spin.downRamp) ++ [0, 0], changed := false
           restated := true }] ∧
      t.requested = { mode := 0, target := 0 } ∧ t.rxC = s.rxC ∧ t.est = s.est ∧ t.tracker = s.tracker ∧
      t.trip = s.trip)

/-- Part of R11, R23, R139, R142: 100 ms after the last DRIVE STATUS the record is stale and the Port D sequence check
is disarmed. In a session that stands in CLIMB, DWELL, CORRECT, SETTLE, OPEN or LIMITED, with no cause true before and
the latch clear, DRIVE sets the latch and is the first cause; in IDLE with the latch clear nothing trips. -/
def Obligations.DriveFallsSilent : Prop :=
  ∀ (m : Moment) (s : State), s.held = false → s.silence.driveSilent = false →
    100000 ≤ elapsed (s.now + m.elapsed) s.silence.driveSince → s.trip.latch = false →
    (∀ c : Cause, s.causeHolds c = false) →
    ∃ t, exec (.driveSilent m) s = .next t ∧
      t.silence = { s.silence with driveSilent := true } ∧ t.rxD = { s.rxD with armed := false } ∧ t.drive = s.drive ∧
      (s.session.state = .idle → t.trip = s.trip ∧ t.session = s.session) ∧
      (s.session.state ≠ .idle → s.session.state ≠ .holdDown → s.session.state ≠ .rundown →
        t.trip.latch = true ∧ t.trip.line = true ∧ t.trip.first = some .drive ∧
          t.trip.causes = CauseSet.empty.add .drive ∧ t.trip.u = s.est.u ∧ t.session.state = .tripped ∧
          t.gov.spin = 0 ∧ t.gov.agitate = 0) ∧
      (s.angleValid = false → t.ring.bleed = none) ∧
      t.est = s.est ∧ t.tracker = s.tracker ∧ t.requested = s.requested ∧ t.ring.contents = s.ring.contents

/-- Part of R29, R30, R31, R63, R83: 20 ms after the last SAMPLE, SENSOR_LOSS is true, the sample-count check is
disarmed, and the estimator is INVALID with no accumulation, priming count 0, U 0 and the seed mark set, its vector,
magnitude, band and thin count kept. With the ceilings composed before, the SPIN ceiling is then at most
BLIND_CEILING. -/
def Obligations.SensorFallsSilent : Prop :=
  ∀ (m : Moment) (s : State), s.held = false → s.intake.loss = false →
    20000 ≤ elapsed (s.now + m.elapsed) s.intake.since → estimatorSound s.est = true → ceilingsComposed s = true →
    ∃ t, exec (.sensorLoss m) s = .next t ∧
      t.intake = { s.intake with loss := true, armed := false } ∧
      t.est = { s.est with state := .invalid, acc := none, priming := 0, u := 0, seed := true } ∧
      t.gov.spin ≤ s.spin.blindCeiling ∧ t.gov.eHeld = s.gov.eHeld ∧
      (s.est.state = .valid → t.gov.rise = 0 ∧ t.session.dwell = 0 ∧ t.session.settle = 0) ∧
      t.session.state = s.session.state ∧ t.tracker = s.tracker ∧ t.trip = s.trip ∧
      t.ring = { s.ring with valve := t.ring.valve } ∧ t.drive = s.drive ∧ t.lid = s.lid ∧ t.strike = s.strike

/-! ### Switches -/

/-- Part of R34, R35: a raw change of a switch input with a debounce time above 0, or back to the debounced state. A
change that differs from the debounced state starts the timing; one that brings the level back cancels it; the debounced
state stays in both. R34, R35, R38: with DEBOUNCE_STRIKE 0 the debounced STRIKE state takes each new raw level at the
moment of the change, the pending mark staying clear; going high it sets a clear trip latch by STRIKE, or joins the
cause set of a set one; going low it is handed to the event unit, and the latch stands. -/
def Obligations.RawChangeTimed : Prop :=
  (∀ (m : Moment) (sw : Switch) (s : State), s.held = false →
     (s.debounceMs sw ≠ 0 ∨ (!(s.switch sw).raw) = (s.switch sw).debounced) →
     ∃ t, exec (.switchRawChange m sw) s = .next t ∧
       t.switch sw =
         (if (!(s.switch sw).raw) = (s.switch sw).debounced then
           { s.switch sw with raw := !(s.switch sw).raw, pending := false }
          else { s.switch sw with raw := !(s.switch sw).raw, pending := true, since := s.now + m.elapsed }) ∧
       t = { tick m s with lid := t.lid, strike := t.strike } ∧
       (∀ w, w ≠ sw → t.switch w = s.switch w)) ∧
  (∀ (m : Moment) (s : State), s.held = false → s.service.debounceStrike = 0 → s.strike.pending = false →
    s.strike.raw = s.strike.debounced →
    ∃ t, exec (.switchRawChange m .strike) s = .next t ∧
      t.strike = { s.strike with raw := !s.strike.raw, debounced := !s.strike.raw, pending := false } ∧
      t.events.live.getLsbD 13 = !s.strike.raw ∧
      (s.strike.raw = false → s.trip.latch = false →
        t.trip.latch = true ∧ t.trip.first = some .strike ∧ t.session.state = .tripped ∧ t.gov.spin = 0 ∧
          t.gov.agitate = 0) ∧
      (s.strike.raw = false → s.trip.latch = true →
        t = { tick m s with
          strike := t.strike, events := t.events, portC := t.portC
          trip := { s.trip with causes := s.trip.causes.add .strike } }) ∧
      (s.strike.raw = true → t = { tick m s with strike := t.strike, events := t.events, portC := t.portC }))

/-- Part of R35, R38, R142: the debounced STRIKE state goes high with the latch clear: STRIKE sets the latch at any
speed and in any session state. The record takes the cause, the speed, its source and U; TRIP is asserted, the session
is TRIPPED, both ceilings are 0, VALVE is closed, an ACTIVE injection ends ABORTED, and the trip stop waits on Port D or
leaves it. R35, R38, R145: STRIKE going low at an expiry: the debounced state is low and the event unit is handed the
change; the trip latch, the session and everything else stand. -/
def Obligations.StrikeTrips : Prop :=
  (∀ (m : Moment) (s : State), s.held = false → s.strike.pending = true → s.strike.raw = true →
     s.service.debounceStrike * 1000 ≤ elapsed (s.now + m.elapsed) s.strike.since → s.trip.latch = false →
     (s.ring.ctx.state = .active ∨ s.ring.valve = false) →
     ∃ t, exec (.debounceExpiry m .strike) s = .next t ∧
       t.strike = { s.strike with debounced := true, pending := false } ∧
       t.trip.latch = true ∧ t.trip.line = true ∧ t.trip.first = some .strike ∧ t.trip.causes.strike = true ∧
       t.trip.u = s.est.u ∧
       (t.trip.speed, t.trip.source) =
         (if s.tracker.state = .locked then ((s.indexSpeed : Int), SpeedSource.index)
          else if s.silence.driveSilent = false then (s.drive.speed, SpeedSource.drive) else (0, SpeedSource.unknown)) ∧
       t.session.state = .tripped ∧ t.gov.spin = 0 ∧ t.gov.agitate = 0 ∧ t.ring.valve = false ∧
       (s.ring.ctx.state = .active → t.ring.ctx.outcome = .aborted ∧ t.ring.ctx.endTime = s.now + m.elapsed) ∧
       (t.portD.demandWaits = true ∨
         t.standing = { mode := .stop, target := 0, ramp := s.spin.tripRamp, governed := t.standing.governed }) ∧
       t.est = s.est ∧ t.tracker = s.tracker ∧ t.requested = s.requested ∧ t.ring.contents = s.ring.contents) ∧
  (∀ (m : Moment) (s : State), s.held = false → s.strike.pending = true → s.strike.raw = false →
    s.service.debounceStrike * 1000 ≤ elapsed (s.now + m.elapsed) s.strike.since →
    ∃ t, exec (.debounceExpiry m .strike) s = .next t ∧
      t.strike = { s.strike with debounced := false, pending := false } ∧ t.events.live.getLsbD 13 = false ∧
      t = { tick m s with strike := t.strike, events := t.events, portC := t.portC })

/-- Part of R35, R37, R111: the debounced LID state takes the raw level. LID_OPEN becoming true clears the
redistribution count; at a speed that is known and at or above RETAIN_SPEED it sets the trip latch with LID as the
first cause, and below it nothing trips.
R35, R37: the lid closing at an expiry: LID_OPEN is false, the event unit is handed the change, and the redistribution
count, the trip latch and everything else stand. -/
def Obligations.LidOpens : Prop :=
  (∀ (m : Moment) (s : State), s.held = false → s.lid.pending = true → s.lid.raw = false →
     s.service.debounceLid * 1000 ≤ elapsed (s.now + m.elapsed) s.lid.since → s.trip.latch = false →
     ∃ t, exec (.debounceExpiry m .lid) s = .next t ∧
       t.lid = { s.lid with debounced := false, pending := false } ∧ t.session.redist = 0 ∧
       (s.speedAtLeast s.spin.retainSpeed = true →
         t.trip.latch = true ∧ t.trip.first = some .lid ∧ t.session.state = .tripped) ∧
       (s.speedAtLeast s.spin.retainSpeed = false →
         t = { tick m s with
           lid := t.lid, session := { s.session with redist := 0 }, events := t.events, portC := t.portC }) ∧
       t.events.live.getLsbD 12 = true) ∧
  (∀ (m : Moment) (s : State), s.held = false → s.lid.pending = true → s.lid.raw = true →
    s.service.debounceLid * 1000 ≤ elapsed (s.now + m.elapsed) s.lid.since → s.lid.debounced = false →
    ∃ t, exec (.debounceExpiry m .lid) s = .next t ∧
      t.lid = { s.lid with debounced := true, pending := false } ∧ t.events.live.getLsbD 12 = false ∧
      t = { tick m s with lid := t.lid, events := t.events, portC := t.portC })

/-! ### Drum angle and estimate -/

/-- Part of R40, R41: a pulse in UNTIMED is accepted and starts the timing; a pulse sooner than 45,000 µs, or in
LOCKED and HELD sooner than P div 2, is a glitch: one INDEX_GLITCH is offered and the tracker, the estimator and
everything else stand. R41, R47, R64: an accepted pulse in TIMING gives P and brings LOCKED, with a mismatch count of
0 or 1; with SENSOR_LOSS false and a sample taken since the reset, the estimator leaves INVALID for PRIMING with an
empty accumulation; no revolution closes. R42, R44, R47: in LOCKED and HELD an accepted pulse up to 2,000,000 µs after
the last gives P; a revolution that mismatches the fresh drive speed by more than D div 8, D being 60 rpm or more,
advances the mismatch count, any other clears it, and the tracker is LOCKED below 4 and HELD at 4. LOCKED to HELD: the
estimator is INVALID, an ACTIVE injection is ABORTED, VALVE is closed and no revolution closes. HELD to HELD: nothing
else moves. HELD to LOCKED: the estimator may leave INVALID. R42: an interval above 2,000,000 µs brings TIMING anew.
R45, R64: LOCKED to LOCKED with the estimator INVALID: no revolution counts, and the estimator enters PRIMING as above or
stays. R110, R113, R114: in HOLD_DOWN and RUNDOWN an index speed below RETAIN_SPEED brings IDLE (no MASS trip arising). -/
def Obligations.PulsesJudged : Prop :=
  (∀ (m : Moment) (s : State), s.held = false → trackerSound s.tracker = true →
    ∃ t, exec (.indexPulse m) s = .next t ∧
      (s.tracker.state = .untimed →
        t = { tick m s with
          tracker := { state := .timing, lastIndex := some (s.now + m.elapsed), period := none, mismatch := 0 } }) ∧
      (∀ since, s.tracker.lastIndex = some since →
        elapsed (s.now + m.elapsed) since < max 45000 (s.tracker.period.getD 0 / 2) →
        t.monitor = { s.monitor with
          count := if s.monitor.source = .indexGlitch then min 65535 (s.monitor.count + 1) else s.monitor.count } ∧
        t = { tick m s with monitor := t.monitor, events := t.events, portC := t.portC })) ∧
  (∀ (m : Moment) (s : State) (since : Time), s.held = false → s.tracker.state = .timing →
    s.tracker.lastIndex = some since → 45000 ≤ elapsed (s.now + m.elapsed) since →
    elapsed (s.now + m.elapsed) since ≤ 2000000 → estimatorSound s.est = true → s.est.state = .invalid →
    ∃ t, exec (.indexPulse m) s = .next t ∧
      t.tracker.state = .locked ∧ t.tracker.lastIndex = some (s.now + m.elapsed) ∧
      t.tracker.period = some (elapsed (s.now + m.elapsed) since) ∧ t.tracker.mismatch ≤ 1 ∧
      t.indexSpeed = 60000000 / elapsed (s.now + m.elapsed) since ∧
      t.est = (if s.intake.loss = false ∧ s.intake.last.present = true then
        { s.est with state := .priming, acc := some { i := 0, q := 0, n := 0 } } else s.est) ∧
      t.events.live.getLsbD 7 = false ∧ t.events.revNumber = s.events.revNumber ∧
      t.drive = s.drive ∧ t.intake = s.intake ∧ t.requested = s.requested ∧ t.limits = s.limits) ∧
  (∀ (m : Moment) (s : State) (since : Time) (p : Nat), s.held = false →
    (s.tracker.state = .locked ∨ s.tracker.state = .held) → s.tracker.lastIndex = some since →
    s.tracker.period = some p → max 45000 (p / 2) ≤ elapsed (s.now + m.elapsed) since →
    elapsed (s.now + m.elapsed) since ≤ 2000000 → estimatorSound s.est = true →
    (s.ring.ctx.state = .active ∨ s.ring.valve = false) →
    ∃ t, exec (.indexPulse m) s = .next t ∧
      (let d := elapsed (s.now + m.elapsed) since
       let mismatch : Bool := decide (s.silence.driveSilent = false ∧ 60 ≤ s.drive.speed.natAbs ∧
         s.drive.speed.natAbs / 8 < ((s.drive.speed.natAbs : Int) - (60000000 / d : Nat)).natAbs)
       let count := if mismatch then min 4 (s.tracker.mismatch + 1) else 0
       t.tracker = { state := if count < 4 then .locked else .held, lastIndex := some (s.now + m.elapsed)
                     period := some d, mismatch := count } ∧
       (s.tracker.state = .locked → count = 4 →
        t.est = { s.est with state := .invalid, acc := none, priming := 0, u := 0, seed := true } ∧
          t.ring.valve = false ∧ t.ring.contents = s.ring.contents ∧
          (s.ring.ctx.state = .active → t.ring.ctx.outcome = .aborted) ∧
          t.events.live.getLsbD 7 = decide (s.silence.driveSilent = false ∧ 30 ≤ s.drive.speed.natAbs) ∧
          t.events.revNumber = s.events.revNumber) ∧
       (s.tracker.state = .held → count = 4 → t = { tick m s with tracker := t.tracker }) ∧
       (s.tracker.state = .held → count < 4 → s.est.state = .invalid →
        t.est = (if s.intake.loss = false ∧ s.intake.last.present = true then
            { s.est with state := .priming, priming := 0, acc := some { i := 0, q := 0, n := 0 } } else s.est) ∧
          t.events.live.getLsbD 7 = false ∧ t.events.revNumber = s.events.revNumber) ∧
       (s.tracker.state = .locked → count < 4 → s.est.state = .invalid →
        t.est = (if s.intake.loss = false ∧ s.intake.last.present = true then
            { s.est with state := .priming, priming := 0, acc := some { i := 0, q := 0, n := 0 } } else s.est) ∧
          t.events.revNumber = s.events.revNumber ∧ t.events.reportCount = s.events.reportCount ∧
          t.gov.eHeld = s.gov.eHeld ∧ t.gov.eNew = s.gov.eNew ∧ t.gov.rise = s.gov.rise ∧
          (s.session.state = .dwell ∨ s.session.state = .settle → t.session.dwell = s.session.dwell ∧
            t.session.settle = s.session.settle)) ∧
       (s.tracker.state = .locked → count < 4 → s.session.state = .holdDown ∨ s.session.state = .rundown →
        60000000 / d < s.spin.retainSpeed → (∀ x, s.limits.mass = some x → t.est.u ≤ x) →
        (∀ e : Fin 6, t.session.progress[e] = { s.session.progress[e] with passed := false }) ∧
          t.session = { s.session with
            state := .idle, progress := t.session.progress, failed := none, dwell := 0, settle := 0, midRev := false
            redist := if s.session.state = .holdDown then s.session.redist + 1 else s.session.redist } ∧
          t.events.live.getLsbD 3 = false)) ∧
      t.drive = s.drive ∧ t.intake = s.intake ∧ t.requested = s.requested ∧ t.limits = s.limits) ∧
  (∀ (m : Moment) (s : State) (since : Time), s.held = false →
    (s.tracker.state = .locked ∨ s.tracker.state = .held) → s.tracker.lastIndex = some since →
    2000000 < elapsed (s.now + m.elapsed) since → s.tracker.period.getD 0 ≤ 2000000 →
    estimatorSound s.est = true →
    ∃ t, exec (.indexPulse m) s = .next t ∧
      t.tracker = { state := .timing, lastIndex := some (s.now + m.elapsed), period := none, mismatch := 0 } ∧
      (s.tracker.state = .locked →
        t.est = { s.est with state := .invalid, acc := none, priming := 0, u := 0, seed := true }) ∧
      (s.tracker.state = .held → t = { tick m s with tracker := t.tracker }))

/-- Part of R42 to R45, R57 to R61, R65, R66: an accepted pulse that finds the tracker LOCKED, gives a period that
agrees with the drive or mismatches for at most the third time in a row, and closes a revolution of 16 samples or more.
The raw vector is the exact quotient rounded to nearest with halves away from zero and saturated; the filter seeds or
steps by the floored fraction; the magnitude is the integer root; U follows by GAIN of the band of the new index speed;
the priming count and the state step. Part of R80, R81: of a revolution that leaves the estimator VALID (with no
weighing ARMED) E_new is the envelope ceiling of the new U, and E_held and the rise counter take it at once at the close
that brings VALID, and with the hysteresis at any other; one that leaves it PRIMING moves none of them. Part of R100,
R101, R102, R106 (no trip cause being made true): in DWELL and SETTLE a revolution that leaves the estimator VALID and
began after the entry advances the count, and at the plateau's number the dwell end is judged as DwellEnds states it, or
DWELL is entered; in CLIMB the new index speed may bring DWELL, whose count this revolution does not advance; any other
leaves the session as it stands (`midRev` is the model's mark: log 18). R155: the report count advances, and at
REPORT_EVERY it is 0 and a BALANCE REPORT with the new revolution number and the new estimate takes its place in the
local queue or is skipped. -/
def Obligations.CountedRevolution : Prop :=
  ∀ (m : Moment) (s : State) (since : Time) (p : Nat) (a : Accumulation), s.held = false → s.tracker.state = .locked →
    s.tracker.lastIndex = some since → s.tracker.period = some p →
    max 45000 (p / 2) ≤ elapsed (s.now + m.elapsed) since → elapsed (s.now + m.elapsed) since ≤ 2000000 →
    (mismatches s.driveSpeed (60000000 / elapsed (s.now + m.elapsed) since) = false ∨ s.tracker.mismatch < 3) →
    s.est.state ≠ .invalid → s.est.acc = some a → 16 ≤ a.n → s.est.priming ≤ 15 →
    ∃ t, exec (.indexPulse m) s = .next t ∧
      t.tracker = { state := .locked, lastIndex := some (s.now + m.elapsed)
                    period := some (elapsed (s.now + m.elapsed) since)
                    mismatch :=
                      if mismatches s.driveSpeed (60000000 / elapsed (s.now + m.elapsed) since) then
                        s.tracker.mismatch + 1 else 0 } ∧
      (let b := min 31 (60000000 / elapsed (s.now + m.elapsed) since / 40)
       let rx := clampInt (-32767) 32767 (roundDiv (16 * a.i) (a.n * 16384))
       let ry := clampInt (-32767) 32767 (roundDiv (16 * a.q) (a.n * 16384))
       t.est.fx = (if s.est.seed then rx else s.est.fx + (rx - s.est.fx) / 2 ^ s.spin.filterShift) ∧
       t.est.fy = (if s.est.seed then ry else s.est.fy + (ry - s.est.fy) / 2 ^ s.spin.filterShift) ∧
       t.est.m16 = isqrt (t.est.fx.natAbs ^ 2 + t.est.fy.natAbs ^ 2) ∧ t.est.band = b ∧
       t.est.u = min 9999 (t.est.m16 * look s.tables.gain b 0 / 4096)) ∧
      t.est.seed = false ∧ t.est.acc = some { i := 0, q := 0, n := 0 } ∧ t.est.thin = s.est.thin ∧
      (s.est.state = .valid → t.est.state = .valid ∧ t.est.priming = s.est.priming) ∧
      (s.est.state = .priming → t.est.priming = min 15 (s.est.priming + 1) ∧
        t.est.state = (if s.spin.primeRevs ≤ min 15 (s.est.priming + 1) then .valid else .priming)) ∧
      t.events.revNumber = s.events.revNumber + (if t.est.state = .valid then 1 else 0) ∧
      (s.weigh.state ≠ .armed →
        (let e := envelopeCeiling s.tables.envelope s.loadClass t.est.u
         (t.est.state ≠ .valid →
          t.gov.eNew = s.gov.eNew ∧ t.gov.eHeld = s.gov.eHeld ∧ t.gov.rise = s.gov.rise) ∧
         (t.est.state = .valid → t.gov.eNew = e) ∧
         (t.est.state = .valid → (s.est.state = .priming ∨ e ≤ s.gov.eHeld) → t.gov.eHeld = e ∧ t.gov.rise = 0) ∧
         (s.est.state = .valid → s.gov.eHeld < e → s.gov.rise + 1 < s.spin.hystRevs →
          t.gov.eHeld = s.gov.eHeld ∧ t.gov.rise = s.gov.rise + 1) ∧
         (s.est.state = .valid → s.gov.eHeld < e → s.spin.hystRevs ≤ s.gov.rise + 1 →
          t.gov.eHeld = e ∧ t.gov.rise = 0))) ∧
      (s.trip.latch = false → s.lid.debounced = true → (∀ x, s.limits.mass = some x → t.est.u ≤ x) →
        ∀ e : Fin 6, s.currentPlateau = some e →
        (let dwells := max 1 (look s.tables.plateau (e.val * 6 + 1) 0)
         let settles := look s.tables.plateau (e.val * 6 + 4) 0
         let counts : Bool := t.est.state = .valid ∧ s.session.midRev = false
         (s.session.state = .dwell → counts = false → t.session = { s.session with midRev := false }) ∧
         (s.session.state = .dwell → counts = true → s.session.dwell + 1 < dwells →
          t.session = { s.session with dwell := s.session.dwell + 1, midRev := false }) ∧
         (s.session.state = .dwell → counts = true → dwells ≤ s.session.dwell + 1 →
          (let u := dwellEnd m.choice e
            { tick m s with
              tracker := t.tracker, est := t.est, session := { s.session with dwell := s.session.dwell + 1 } }
           t.session = { u.session with midRev := false } ∧ t.session.progress[e].uLast = t.est.u ∧
            (t.est.u ≤ look s.tables.plateau (e.val * 6 + 2) 0 →
              t.session.progress[e].passed = true ∧ t.events.latch.getLsbD 2 = true ∧
                t.events.counts[2] = s.events.counts[2] + 1) ∧
            (look s.tables.plateau (e.val * 6 + 2) 0 < t.est.u →
              t.session.progress[e].passed = s.session.progress[e].passed ∧ t.session.state ≠ .dwell ∧
                t.events.counts[2] = s.events.counts[2]))) ∧
         (s.session.state = .settle → counts = false → t.session = { s.session with midRev := false }) ∧
         (s.session.state = .settle → counts = true →
          t.session = { s.session with
            state := if settles ≤ s.session.settle + 1 then .dwell else .settle
            dwell := if settles ≤ s.session.settle + 1 then 0 else s.session.dwell
            settle := s.session.settle + 1, midRev := false }) ∧
         (s.session.state = .climb →
          t.session = (if look s.tables.plateau (e.val * 6) 0 ≤ t.indexSpeed + 10 then
              { s.session with state := .dwell, dwell := 0, midRev := false }
            else { s.session with midRev := false })))) ∧
      (let every := s.service.reportEvery
       t.events.reportCount = (if t.est.state ≠ .valid then s.events.reportCount
        else if every ≤ s.events.reportCount + 1 then 0 else s.events.reportCount + 1) ∧
       (t.est.state = .valid → 0 < every → every ≤ s.events.reportCount + 1 → s.events.report = 0 →
        s.portC.sending ≠ none →
        ∃ f : QFrame, f.cls = 0x3F ∧ f.payload.length = 22 ∧
          f.payload.take 10 = be16 t.events.revNumber ++ be16 (BitVec.ofNat 16 t.indexSpeed) ++
            be16 (BitVec.ofInt 16 t.est.fx) ++ be16 (BitVec.ofInt 16 t.est.fy) ++ be16 (BitVec.ofNat 16 t.est.u) ∧
          t.portC.localQ = (if s.portC.localQ.any (fun g => g.cls == 0x3F) then
              replaceFirst (fun g => g.cls == 0x3F) f s.portC.localQ
            else if s.portC.localQ.length < 4 then s.portC.localQ ++ [f] else s.portC.localQ)) ∧
       ((t.est.state ≠ .valid ∨ every = 0 ∨ s.events.reportCount + 1 < every) → s.events.report = 0 →
        s.portC.sending ≠ none → t.portC = s.portC))

/-- Part of R57: the same pulse over fewer than 16 samples: the revolution is discarded, the thin count advances to at
most 255, a new accumulation opens, and the rest of the estimate, the revolution number and a dwell or settle count
stand. -/
def Obligations.ThinRevolution : Prop :=
  ∀ (m : Moment) (s : State) (since : Time) (p : Nat) (a : Accumulation), s.held = false → s.tracker.state = .locked →
    s.tracker.lastIndex = some since → s.tracker.period = some p →
    max 45000 (p / 2) ≤ elapsed (s.now + m.elapsed) since → elapsed (s.now + m.elapsed) since ≤ 2000000 →
    (mismatches s.driveSpeed (60000000 / elapsed (s.now + m.elapsed) since) = false ∨ s.tracker.mismatch < 3) →
    s.est.state ≠ .invalid → s.est.acc = some a → a.n < 16 →
    ∃ t, exec (.indexPulse m) s = .next t ∧
      t.est = { s.est with thin := min 255 (s.est.thin + 1), acc := some { i := 0, q := 0, n := 0 } } ∧
      t.events.revNumber = s.events.revNumber ∧
      (s.session.state = .dwell → t.session.state = .dwell → t.session.dwell = s.session.dwell) ∧
      (s.session.state = .settle → t.session.state = .settle → t.session.settle = s.session.settle)

/-- R60: after the filter step of a counted revolution M16 is the greatest integer whose square does not exceed the
exact sum of squares of the filtered components; it lies in 0..46339. -/
def Obligations.MagnitudeIsRoot : Prop :=
  ∀ (k : Nat) (gain : Vector Nat 32) (b : Nat) (a : Accumulation) (e : Estimator), e.fx.natAbs ≤ 32767 →
    e.fy.natAbs ≤ 32767 →
    (let t := e.estimate k gain b a
     t.m16 ^ 2 ≤ t.fx.natAbs ^ 2 + t.fy.natAbs ^ 2 ∧ t.fx.natAbs ^ 2 + t.fy.natAbs ^ 2 < (t.m16 + 1) ^ 2 ∧
       t.m16 ≤ 46339)

/-- R58, R59: each raw component is the exact quotient 16 × sum / (N × 16384) to the nearest integer, halves away from
zero, saturated at ±32767. With the seed mark set the filtered vector takes the raw vector and the mark clears; with
it clear each component moves by the quotient of the difference by 2^k rounded toward minus infinity, to a value
between the old one and the raw one, both included, which is the raw one for k = 0. -/
def Obligations.VectorSteps : Prop :=
  (∀ (sum : Int) (n : Nat), 0 < n →
    ∃ r : Int, rawComponent sum n = max (-32767) (min 32767 r) ∧
      2 * (r * (n * 16384) - 16 * sum).natAbs ≤ n * 16384 ∧
      (2 * (r * (n * 16384) - 16 * sum).natAbs = n * 16384 → (16 * sum).natAbs < (r * (n * 16384)).natAbs)) ∧
  (∀ (k : Nat) (f r : Int),
    (f ≤ r → f ≤ filterStep k f r ∧ filterStep k f r ≤ r) ∧ (r ≤ f → r ≤ filterStep k f r ∧ filterStep k f r ≤ f) ∧
      filterStep 0 f r = r ∧ 2 ^ k * (filterStep k f r - f) ≤ r - f ∧ r - f < 2 ^ k * (filterStep k f r - f + 1)) ∧
  (∀ (k : Nat) (gain : Vector Nat 32) (b : Nat) (a : Accumulation) (e : Estimator),
    (let t := e.estimate k gain b a
     t.seed = false ∧
       t.fx = (if e.seed then rawComponent a.i a.n else filterStep k e.fx (rawComponent a.i a.n)) ∧
       t.fy = (if e.seed then rawComponent a.q a.n else filterStep k e.fy (rawComponent a.q a.n))))

/-- R51: entry k of the sine table is 16384 × sin(2πk/1024) to the nearest integer (no product falls on a half); the
entries lie in −16384..16384, entries 0, 256, 512 and 768 are 0, 16384, 0 and −16384, entry 512 − k equals entry k,
and entry 1024 − k is its negative. -/
def Obligations.SineTableRounds : Prop :=
  (∀ k : Nat, k < 1024 → |(sineEntry k : ℝ) - 16384 * Real.sin (2 * Real.pi * k / 1024)| < 1 / 2) ∧
    (∀ k : Nat, k < 1024 → -16384 ≤ sineEntry k ∧ sineEntry k ≤ 16384) ∧
    sineEntry 0 = 0 ∧ sineEntry 256 = 16384 ∧ sineEntry 512 = 0 ∧ sineEntry 768 = -16384 ∧
    (∀ k : Nat, k ≤ 512 → sineEntry (512 - k) = sineEntry k) ∧
    (∀ k : Nat, 1 ≤ k → k ≤ 1023 → sineEntry (1024 - k) = -sineEntry k)

/-- Part of R46, R47, R63: the index is lost in LOCKED: P is none, the mismatch count is 0, the tracker is in TIMING
with the last index time kept if P was below 1,000,000 µs, and in UNTIMED without it otherwise; the estimator is
INVALID; an ACTIVE injection has ended ABORTED and VALVE is closed; INDEX_LOSS stands as the drive speed gives it.
R46: the index lost in HELD moves the tracker in the same way, and in TIMING, more than 2,000,000 µs after the last
pulse, to UNTIMED; in both nothing else moves. -/
def Obligations.IndexIsLost : Prop :=
  (∀ (m : Moment) (s : State) (since : Time) (p : Nat), s.held = false → s.tracker.state = .locked →
    s.tracker.lastIndex = some since → s.tracker.period = some p → 2 * p < elapsed (s.now + m.elapsed) since →
    estimatorSound s.est = true → (s.ring.ctx.state = .active ∨ s.ring.valve = false) →
    ∃ t, exec (.indexLost m) s = .next t ∧
      t.tracker = (if p < 1000000 then { state := .timing, lastIndex := some since, period := none, mismatch := 0 }
        else { state := .untimed, lastIndex := none, period := none, mismatch := 0 }) ∧
      t.est = { s.est with state := .invalid, acc := none, priming := 0, u := 0, seed := true } ∧
      t.ring.valve = false ∧
      (s.ring.ctx.state = .active → t.ring.ctx.outcome = .aborted ∧ t.ring.ctx.credited = s.ring.ctx.credited) ∧
      t.ring.contents = s.ring.contents ∧
      t.events.live.getLsbD 7 = decide (s.silence.driveSilent = false ∧ 30 ≤ s.drive.speed.natAbs) ∧
      t.drive = s.drive ∧ t.intake = s.intake ∧ t.requested = s.requested ∧ t.limits = s.limits) ∧
  (∀ (m : Moment) (s : State) (since : Time) (p : Nat), s.held = false → s.tracker.state = .held →
    s.tracker.lastIndex = some since → s.tracker.period = some p → 2 * p < elapsed (s.now + m.elapsed) since →
    ∃ t, exec (.indexLost m) s = .next t ∧
      t = { tick m s with
        tracker := if p < 1000000 then { state := .timing, lastIndex := some since, period := none, mismatch := 0 }
          else { state := .untimed, lastIndex := none, period := none, mismatch := 0 } }) ∧
  (∀ (m : Moment) (s : State) (since : Time), s.held = false → s.tracker.state = .timing →
    s.tracker.lastIndex = some since → 2000000 < elapsed (s.now + m.elapsed) since →
    ∃ t, exec (.indexLost m) s = .next t ∧
      t = { tick m s with tracker := { state := .untimed, lastIndex := none, period := none, mismatch := 0 } })

/-! ### Envelope and ceilings -/

/-- R79: b_lim is the smallest band whose ENVELOPE entry in the row of the load class is less than U, 32 if no entry
is, and E_new is max(0, 40 × b_lim − 1). -/
def Obligations.EnvelopeCeiling : Prop :=
  ∀ s : State, ∃ b : Nat, b ≤ 32 ∧ (∀ j, j < b → s.est.u ≤ look s.tables.envelope (s.loadClass * 32 + j) 0) ∧
    (b < 32 → look s.tables.envelope (s.loadClass * 32 + b) 0 < s.est.u) ∧
    (s.envelopeNew : Int) = max 0 (40 * (b : Int) - 1)

/-- R83, R86: with the ceilings composed (CeilingsKept), the SPIN ceiling is at most every term of Table 5-2 that
applies, and is one of them, in 0..1500; the AGITATE ceiling is 0 while the trip latch is set, the lesser of
AGITATE_LIMIT and ABS_LIMIT when that is set, AGITATE_LIMIT otherwise; the ceiling for STOP and COAST is 0. -/
def Obligations.CeilingsLeast : Prop :=
  ∀ s : State, ceilingsComposed s = true → s.spin.blindCeiling ≤ 1500 → (∀ a, s.limits.abs = some a → a ≤ 1500) →
    s.gov.spin ≤ 1500 ∧ (∀ a, s.limits.abs = some a → s.gov.spin ≤ a) ∧
    (s.limits.abs = none ∨ s.est.state ≠ .valid → s.gov.spin ≤ s.spin.blindCeiling) ∧
    (s.est.state = .valid → s.gov.spin ≤ s.gov.eHeld) ∧
    (∀ e, s.session.state = .climb ∨ s.session.state = .dwell ∨ s.session.state = .correct ∨
      s.session.state = .settle → s.currentPlateau = some e → s.gov.spin ≤ look s.tables.plateau (e.val * 6) 0) ∧
    (∀ e, s.session.state = .limited → s.session.failed = some e →
      s.gov.spin ≤ look s.tables.plateau (e.val * 6) 0) ∧
    (s.session.state = .holdDown → s.gov.spin = 0) ∧ (s.trip.latch = true → s.gov.spin = 0) ∧
    (s.limits.abs = some s.gov.spin ∨
      (s.gov.spin = s.spin.blindCeiling ∧ (s.limits.abs = none ∨ s.est.state ≠ .valid)) ∨
      (s.gov.spin = s.gov.eHeld ∧ s.est.state = .valid) ∨
      (s.session.state.onPlateau = true ∧
        ∃ e, s.currentPlateau = some e ∧ s.gov.spin = look s.tables.plateau (e.val * 6) 0) ∨
      (s.session.state = .limited ∧ ∃ e, s.session.failed = some e ∧ s.gov.spin = look s.tables.plateau (e.val * 6) 0) ∨
      (s.gov.spin = 0 ∧ (s.session.state = .holdDown ∨ s.trip.latch = true))) ∧
    s.gov.agitate =
      (if s.trip.latch then 0
       else match s.limits.abs with
        | some a => min s.spin.agitateLimit a
        | none => s.spin.agitateLimit) ∧
    s.gov.ceiling .spin = s.gov.spin ∧ s.gov.ceiling .agitate = s.gov.agitate ∧ s.gov.ceiling .stop = 0 ∧
      s.gov.ceiling .coast = 0

/-- Part of R80, R81, R89: the governor's part of a counted VALID revolution. At the one that brings VALID E_held
takes E_new at once; at any other a lower E_new is taken at once, a higher one when the rise counter reaches
HYST_REVS, and any E_new not above E_held clears the counter. The ceilings are composed again, and nothing but the
demand on Port D and GOVERNING can follow from them. -/
def Obligations.GovernorCloses : Prop :=
  ∀ (entered : Bool) (s : State),
    (let t := governorClose entered s
     let e := s.envelopeNew
     t.gov.eNew = e ∧ (entered = true ∨ e < s.gov.eHeld → t.gov.eHeld = e ∧ t.gov.rise = 0) ∧
       (entered = false → e = s.gov.eHeld → t.gov.eHeld = e ∧ t.gov.rise = 0) ∧
       (entered = false → s.gov.eHeld < e → s.gov.rise + 1 < s.spin.hystRevs →
         t.gov.eHeld = s.gov.eHeld ∧ t.gov.rise = s.gov.rise + 1) ∧
       (entered = false → s.gov.eHeld < e → s.spin.hystRevs ≤ s.gov.rise + 1 → t.gov.eHeld = e ∧ t.gov.rise = 0) ∧
       ceilingsComposed t = true ∧
       t = { s with
        gov := t.gov, portD := t.portD, standing := t.standing, events := t.events, portC := t.portC })

/-! ### Sessions -/

/-- Part of R102, R103, R104, R105, R109, R110, R111, R112: the dwell end at plateau e. The plateau's record takes U.
At most the pass limit, the plateau passes: its record is marked, PLATEAU_PASSED latches, and the session goes to
CLIMB at the new current plateau, through it to DWELL where the index speed has reached it, or to OPEN with the
redistribution count at 0. Above it, with an attempt left, a cap above 0, the ring AVAILABLE and a plan, the session
enters CORRECT with a record and an ACTIVE injection; without, the plateau fails, to HOLD_DOWN or LIMITED by the
redistribution count. (That the end time of the injection before stands in the new context is the model's reading:
log 25.) R101, R106: the session's part of a counted VALID revolution: begun at or after the entry it advances the
dwell count of DWELL, and at the dwell revolutions of the plateau brings the dwell end; or the settle count of SETTLE,
and at the settle revolutions brings DWELL; one begun before the entry, or in any other state, has no effect (the mark
`midRev`, log 18). R100, R71: in CLIMB, an index speed within 10 rpm of the plateau's speed or above it brings DWELL
with the dwell count 0 and ends a weighing still ARMED; below it nothing moves. -/
def Obligations.DwellEnds : Prop :=
  (∀ (ch : Choice) (e : Fin 6) (s : State),
    (let t := dwellEnd ch e s
     let pass := look s.tables.plateau (e.val * 6 + 2) 0
     let cap := look s.tables.plateau (e.val * 6 + 3) 0
     let tried := s.session.progress[e].attempts < look s.tables.plateau (e.val * 6 + 5) 0 ∧ 0 < cap ∧
       s.ring.available = true
     (s.est.u ≤ pass →
       t.session.progress = s.session.progress.set e
           { s.session.progress[e] with passed := true, uLast := s.est.u } ∧
         t.events.latch.getLsbD 2 = true ∧ t.events.counts[2] = s.events.counts[2] + 1 ∧
         t.session.corrections = s.session.corrections ∧ t.ring = s.ring ∧
         (∀ d, t.currentPlateau = some d →
           t.session.state = (if look s.tables.plateau (d.val * 6) 0 ≤ s.indexSpeed + 10 then .dwell else .climb) ∧
             t.session.redist = s.session.redist) ∧
         (t.currentPlateau = none → t.session.state = .opened ∧ t.session.redist = 0)) ∧
     t.session.progress[e].uLast = s.est.u ∧
     (∀ (c : Fin 4) (w : Nat), pass < s.est.u → tried → planCorrection s cap = some (c, w) → s.angleValid = true →
       s.trip.latch = false →
       t.session.state = .correct ∧
         t.session.corrections =
           (if 8 ≤ s.session.corrections.length then s.session.corrections.drop 1 else s.session.corrections) ++
             [{ plateau := e, chamber := c, requested := w, credited := 0, outcome := .inProgress, uPlan := s.est.u }] ∧
         t.ring.ctx = { s.ring.ctx with
           state := .active, chamber := c, requested := w, credited := 0, tailCredited := 0, outcome := .inProgress
           start := s.now, lastPulse := s.now } ∧
         t.ring.contents = s.ring.contents) ∧
     (pass < s.est.u → ¬(tried ∧ (planCorrection s cap).isSome = true) →
       (s.session.redist < s.spin.maxRedist → s.speedBelow s.spin.retainSpeed = false →
         t.session.state = .holdDown ∧ t.session.failed = some e ∧ t.gov.spin = 0) ∧
       (s.session.redist < s.spin.maxRedist → s.speedBelow s.spin.retainSpeed = true →
         t.session.state = .idle ∧ t.session.redist = s.session.redist + 1) ∧
       (s.spin.maxRedist ≤ s.session.redist → t.session.state = .limited ∧ t.session.failed = some e) ∧
       t.ring = s.ring ∧ t.session.corrections = s.session.corrections) ∧
     t.est = s.est ∧ t.tracker = s.tracker ∧ t.trip = s.trip ∧ t.requested = s.requested ∧ t.limits = s.limits)) ∧
  (∀ (ch : Choice) (e : Fin 6) (s : State), s.currentPlateau = some e →
    (let t := sessionClose ch s
     let dwells := max 1 (look s.tables.plateau (e.val * 6 + 1) 0)
     let settles := look s.tables.plateau (e.val * 6 + 4) 0
     (s.session.state = .dwell → s.session.midRev = false → s.session.dwell + 1 < dwells →
       t = { s with session := { s.session with dwell := s.session.dwell + 1 } }) ∧
     (s.session.state = .dwell → s.session.midRev = false → dwells ≤ s.session.dwell + 1 →
       t = dwellEnd ch e { s with session := { s.session with dwell := s.session.dwell + 1 } }) ∧
     (s.session.state = .settle → s.session.midRev = false → s.session.settle + 1 < settles →
       t = { s with session := { s.session with settle := s.session.settle + 1 } }) ∧
     (s.session.state = .settle → s.session.midRev = false → settles ≤ s.session.settle + 1 →
       t.session = { s.session with
         state := .dwell, dwell := 0, settle := s.session.settle + 1, midRev := true } ∧
         t.ring = s.ring ∧ t.est = s.est ∧ t.trip = s.trip) ∧
     (s.session.midRev = true ∨ (s.session.state ≠ .dwell ∧ s.session.state ≠ .settle) → t = s))) ∧
  (∀ (ch : Choice) (e : Fin 6) (s : State), s.session.state = .climb → s.currentPlateau = some e →
    (let t := climbCheck ch s
     let speed := look s.tables.plateau (e.val * 6) 0
     (s.indexSpeed + 10 < speed → t = s) ∧
     (speed ≤ s.indexSpeed + 10 →
       t.session = { s.session with state := .dwell, dwell := 0, midRev := true } ∧ t.weigh.state ≠ .armed ∧
         (s.weigh.state ≠ .armed → t.weigh = s.weigh ∧ t.loadClass = s.loadClass) ∧
         t.ring = s.ring ∧ t.est = s.est ∧ t.trip = s.trip)))

/-- R108 (with the rotation of section 6.7): planning chooses chamber c and W grams exactly when c is a candidate (a
score above 0 and room for one flow pulse), no candidate has a higher score and none of a lower number the same, W is
the least of the floored mass, the cap and the free space, and W is above 0. -/
def Obligations.CorrectionPlanned : Prop :=
  ∀ (s : State) (cap : Nat) (c : Fin 4) (w : Nat),
    (let p := look s.tables.phase s.est.band 0
     let cosine := sineEntry ((p / 64 + 256) % 1024)
     let sine := sineEntry (p / 64)
     let vx := (s.est.fx * cosine + s.est.fy * sine).tdiv 16384
     let vy := (s.est.fy * cosine - s.est.fx * sine).tdiv 16384
     let points (d : Fin 4) : Int := if d = 0 then -vx else if d = 1 then -vy else if d = 2 then vx else vy
     let free (d : Fin 4) : Nat := s.spin.chamberCap - s.ring.contents[d]
     let candidate (d : Fin 4) : Prop := 0 < points d ∧ s.spin.flowGrams ≤ free d
     planCorrection s cap = some (c, w) ↔
       candidate c ∧ (∀ d, candidate d → points d ≤ points c) ∧ (∀ d, d < c → candidate d → points d < points c) ∧
         w = min (min ((points c).toNat * look s.tables.gain s.est.band 0 / 4096) cap) (free c) ∧ 0 < w)

/-! ### Ring -/

/-- Part of R127, R128, R105: a FLOW pulse while an injection is ACTIVE. The context is credited with FLOW_GRAMS and
its chamber rises by as much, held at CHAMBER_CAP; the other chambers stand. Where the chamber then stands at
CHAMBER_CAP the injection ends CHAMBER_FULL, else where W has been credited it ends DONE, with VALVE closed; else it
goes on. In CORRECT the newest correction record then takes the outcome and the grams credited, its plateau's attempts
used advance by one (the plateau of the newest record: log 24), and the session goes to SETTLE or through it to DWELL. -/
def Obligations.FlowPulseCredits : Prop :=
  ∀ (m : Moment) (s : State), s.held = false → s.ring.ctx.state = .active →
    ∃ t, exec (.flowPulse m) s = .next t ∧
      (let c := s.ring.ctx.chamber
       let g := min s.spin.chamberCap (s.ring.contents[c] + s.spin.flowGrams)
       let credited := s.ring.ctx.credited + s.spin.flowGrams
       t.ring.contents[c] = g ∧ (∀ d : Fin 4, d ≠ c → t.ring.contents[d] = s.ring.contents[d]) ∧
       (g ≠ s.spin.chamberCap → credited < s.ring.ctx.requested →
         t.ring.ctx = { s.ring.ctx with credited := credited, lastPulse := s.now + m.elapsed } ∧
           t.session = s.session) ∧
       (g = s.spin.chamberCap ∨ s.ring.ctx.requested ≤ credited →
         t.ring.valve = false ∧
           t.ring.ctx = { s.ring.ctx with
             credited := credited, lastPulse := s.now + m.elapsed, endTime := s.now + m.elapsed
             outcome := if g = s.spin.chamberCap then .chamberFull else .done
             state := if s.spin.flowTail = 0 then .closed else .tail }) ∧
       (g = s.spin.chamberCap ∨ s.ring.ctx.requested ≤ credited → s.session.state = .correct →
         (t.session.state = .settle ∨ t.session.state = .dwell) ∧
           ∀ (l : List Correction) (x : Correction), s.session.corrections = l ++ [x] →
            t.session.corrections = l ++
                [{ x with
                  outcome := if g = s.spin.chamberCap then .chamberFull else .done, credited := credited }] ∧
              t.session.progress[x.plateau].attempts = s.session.progress[x.plateau].attempts + 1 ∧
              ∀ e : Fin 6, e ≠ x.plateau → t.session.progress[e] = s.session.progress[e]) ∧
       (g = s.spin.chamberCap ∨ s.ring.ctx.requested ≤ credited → s.session.state ≠ .correct →
         t.session = s.session)) ∧
      t.est = s.est ∧ t.tracker = s.tracker ∧ t.trip = s.trip ∧ t.drive = s.drive ∧ t.requested = s.requested

/-- Part of R133, R134: a stray FLOW pulse is credited to no chamber. The first of a run, or one after a gap of more
than 1000 ms, leaves the count at 1; one within the gap advances it; the fifth makes the ring UNAVAILABLE, latches
INJECTION_FAULT and clears the count. Its time is kept. -/
def Obligations.StrayRun : Prop :=
  ∀ (m : Moment) (s : State), s.held = false → (s.ring.ctx.state = .none ∨ s.ring.ctx.state = .closed) →
    s.ring.strayCount ≤ 4 →
    ∃ t, exec (.flowPulse m) s = .next t ∧
      (let gap := elapsed (s.now + m.elapsed) s.ring.strayTime
       t.ring.strayTime = s.now + m.elapsed ∧ t.ring.contents = s.ring.contents ∧ t.ring.ctx = s.ring.ctx ∧
       (s.ring.strayCount = 0 → t.ring.strayCount = 1) ∧
       (0 < s.ring.strayCount → 1000000 < gap → t.ring.strayCount = 1) ∧
       (0 < s.ring.strayCount → s.ring.strayCount < 4 → gap ≤ 1000000 →
         t.ring.strayCount = s.ring.strayCount + 1) ∧
       (s.ring.strayCount = 4 → gap ≤ 1000000 →
         t.ring.strayCount = 0 ∧ t.ring.available = false ∧ t.events.latch.getLsbD 5 = true ∧
           t.events.counts[5] = s.events.counts[5] + 1) ∧
       (¬(s.ring.strayCount = 4 ∧ gap ≤ 1000000) →
         t = { tick m s with ring := t.ring } ∧ t.ring.available = s.ring.available))

/-- Part of R105, R129, R131, R134: FLOW_TIMEOUT exceeded since the last pulse of an ACTIVE injection while the
session is in CORRECT: the injection ends NO_FLOW, VALVE closes, the ring is UNAVAILABLE, INJECTION_FAULT latches, the
newest correction record takes NO_FLOW and the grams credited, its plateau's attempts used advance by one, and the
session goes to SETTLE or through it to DWELL. The contents stand. (The plateau of the newest record: log 24.) -/
def Obligations.NoFlow : Prop :=
  ∀ (m : Moment) (s : State) (l : List Correction) (c : Correction), s.held = false → s.ring.ctx.state = .active →
    s.session.state = .correct → s.session.corrections = l ++ [c] →
    s.spin.flowTimeout * 1000 < elapsed (s.now + m.elapsed) s.ring.ctx.lastPulse →
    ∃ t, exec (.flowTimeout m) s = .next t ∧
      t.ring.ctx = { s.ring.ctx with
        outcome := .noFlow, endTime := s.now + m.elapsed, state := if s.spin.flowTail = 0 then .closed else .tail } ∧
      t.ring.valve = false ∧ t.ring.available = false ∧ t.ring.contents = s.ring.contents ∧
      t.events.latch.getLsbD 5 = true ∧ t.events.counts[5] = s.events.counts[5] + 1 ∧
      t.session.corrections = l ++ [{ c with outcome := .noFlow, credited := s.ring.ctx.credited }] ∧
      t.session.progress[c.plateau].attempts = s.session.progress[c.plateau].attempts + 1 ∧
      (t.session.state = .settle ∨ t.session.state = .dwell) ∧ t.est = s.est ∧ t.tracker = s.tracker ∧ t.trip = s.trip

/-- Part of R132, R135: FLOW_TAIL after the end of an injection its context in TAIL is CLOSED, and nothing else moves;
and 100 ms after the bleed timer started, or after its last period, each chamber content falls by BLEED_RATE, to 0 at
the least. R127: a FLOW pulse while the context is in TAIL is credited to the context's chamber, held at CHAMBER_CAP,
and to the tail credited grams, and to nothing else: the credited grams, the last pulse time and the session stand. -/
def Obligations.TailAndBleed : Prop :=
  (∀ (m : Moment) (s : State), s.held = false → s.ring.ctx.state = .tail →
    s.spin.flowTail * 1000 ≤ elapsed (s.now + m.elapsed) s.ring.ctx.endTime →
    ∃ t, exec (.flowTailExpiry m) s = .next t ∧
      t = { tick m s with ring := { (tick m s).ring with ctx := { s.ring.ctx with state := .closed } } }) ∧
  (∀ (m : Moment) (s : State) (since : Time), s.held = false → s.ring.bleed = some since →
    100000 ≤ elapsed (s.now + m.elapsed) since →
    ∃ t, exec (.bleedPeriod m) s = .next t ∧
      (∀ d : Fin 4, (t.ring.contents[d] : Int) = max 0 ((s.ring.contents[d] : Int) - s.spin.bleedRate)) ∧
      t.ring.bleed = some (s.now + m.elapsed) ∧ t.ring.ctx = s.ring.ctx ∧ t.ring.available = s.ring.available ∧
      t = { tick m s with ring := t.ring, events := t.events, portC := t.portC }) ∧
  (∀ (m : Moment) (s : State), s.held = false → s.ring.ctx.state = .tail →
    ∃ t, exec (.flowPulse m) s = .next t ∧
      (let c := s.ring.ctx.chamber
       t.ring.contents[c] = min s.spin.chamberCap (s.ring.contents[c] + s.spin.flowGrams) ∧
       (∀ d : Fin 4, d ≠ c → t.ring.contents[d] = s.ring.contents[d])) ∧
      t.ring = { (tick m s).ring with
        contents := t.ring.contents
        ctx := { s.ring.ctx with tailCredited := min 65535 (s.ring.ctx.tailCredited + s.spin.flowGrams) } } ∧
      t = { tick m s with ring := t.ring, events := t.events, portC := t.portC })

/-! ### Monitor counter -/

/-- Part of R157, R158: an expiry of the period timer in AUTO: the count is copied into the holding value and cleared,
the next period starts, and COUNTER_SATURATED is false. R157, R158, R167: a TRANSFER request executed while Port C
transmits: the holding value takes the count, the count is 0, the period timer runs on, COUNTER_SATURATED is false,
and the answer OK carries 0 and the holding value. (That the answer stands in the queue before a notice of the same
moment is the model's choice: log 9.) A TRANSFER of any other object is answered UNKNOWN_OBJECT, one with data BAD_LENGTH,
and no transfer is made. -/
def Obligations.MonitorTransfers : Prop :=
  (∀ (m : Moment) (s : State) (since : Time), s.held = false → s.monitor.auto = true → s.monitor.timer = some since →
    1000000 ≤ elapsed (s.now + m.elapsed) since →
    ∃ t, exec (.monitorPeriodExpiry m) s = .next t ∧
      t.monitor = { s.monitor with holding := s.monitor.count, count := 0, timer := some (s.now + m.elapsed) } ∧
      t.events.live.getLsbD 15 = false ∧ t = { tick m s with monitor := t.monitor, events := t.events, portC := t.portC }) ∧
  (∀ (m : Moment) (s : State) (tag index : Byte) (rest : List Request), s.held = false →
    s.requests = { tag := tag, op := 6, object := 0x60, index := index, data := [] } :: rest →
    s.portC.localQ.length < 4 → s.portC.sending ≠ none →
    ∃ t, exec (.transfer m) s = .next t ∧
      t.monitor = { s.monitor with holding := s.monitor.count, count := 0 } ∧ t.events.live.getLsbD 15 = false ∧
      t.portC.localQ[s.portC.localQ.length]? = some
        { cls := 0x3D, payload := [tag, 6, 0, 0x60, 0, 0] ++ be16 (BitVec.ofNat 16 s.monitor.count), changed := false
          restated := false } ∧
      t = { tick m s with requests := rest, monitor := t.monitor, events := t.events, portC := t.portC }) ∧
  (∀ (m : Moment) (s : State) (r : Request) (rest : List Request), s.held = false → s.requests = r :: rest →
    r.op = 6 → s.portC.localQ.length < 4 → s.portC.sending ≠ none →
    (r.object ≠ 0x60 ∨ r.data ≠ []) →
    ∃ t, exec (.transfer m) s = .next t ∧
      t = { tick m s with
        requests := rest
        portC := { s.portC with
          localQ := s.portC.localQ ++
            [{ cls := 0x3D
               payload := [r.tag, 6, if r.object ≠ 0x60 then 3 else 5, r.object]
               changed := false
               restated := false }] } })

/-! ### Management requests -/

/-- Part of R159, R160, R163: a READ at the front of the queue, with room in the local queue of a transmitting Port C:
the request leaves the queue and its response joins the back of the local queue. A READ of 1 to 10 elements within the
object is answered OK with them; otherwise it is answered UNKNOWN_OBJECT, BAD_LENGTH or BAD_INDEX, the first that holds,
without data. Nothing else moves. R162: the sixteen objects and their sizes are those of Table 10-2, and each holds so
many elements. R162, R8: the elements of the sixteen objects are those of Tables 10-2 to 10-4 in their order: the class
table with the fixed entries of Table 1-14, the six tables, and object 0x20, 0x21, 0x30, 0x40, 0x50, 0x51, 0x52, 0x53
and 0x60 written out, signed values in two's complement, 32 bits high half first, marks as 1 and 0, the codes of Tables
1-9 to 1-11, 4-2, 7-2, 8-1, 9-2 and 10-4. -/
def Obligations.ReadAnswered : Prop :=
  (∀ (m : Moment) (s : State) (r : Request) (rest : List Request), s.held = false → s.requests = r :: rest → r.op = 1 →
    s.portC.localQ.length < 4 → s.portC.sending ≠ none →
    ∃ t, exec (.read m) s = .next t ∧
      (let n := (r.words.getD 0 0).toNat
       let size := (objectSize r.object).getD 0
       let status : Byte :=
        if objectSize r.object = none then 3 else if r.data.length ≠ 2 ∨ n = 0 ∨ 10 < n then 5
        else if size < r.index.toNat + n then 4 else 0
       t = { tick m s with
        requests := rest
        portC := { s.portC with
          localQ := s.portC.localQ ++
            [{ cls := 0x3D
               payload := [r.tag, 1, status, r.object] ++
                (if status = 0 then (((tick m s).objectWords r.object).drop r.index.toNat).take n else []).flatMap be16
               changed := false
               restated := false }] } })) ∧
  (∀ o : Byte, objectSize o =
    (match o.toNat with
     | 0x01 => some 64 | 0x10 => some 128 | 0x11 => some 32 | 0x12 => some 32 | 0x13 => some 32 | 0x14 => some 36
     | 0x15 => some 3 | 0x20 => some 21 | 0x21 => some 5 | 0x30 => some 2 | 0x40 => some 21 | 0x50 => some 30
     | 0x51 => some 18 | 0x52 => some 72 | 0x53 => some 7 | 0x60 => some 2 | _ => none)) ∧
  (∀ (s : State) (o : Byte), s.session.corrections.length ≤ 8 →
    (s.objectWords o).length = (objectSize o).getD 0) ∧
  (∀ s : State,
    (let u (n : Nat) : Sys2Proof.Word := BitVec.ofNat 16 n
     let i (z : Int) : Sys2Proof.Word := BitVec.ofInt 16 z
     let b (v : Bool) : Sys2Proof.Word := if v then 1 else 0
     let hi (x : Time) : Sys2Proof.Word := x.extractLsb' 16 16
     let lo (x : Time) : Sys2Proof.Word := x.extractLsb' 0 16
     let p : Time := BitVec.ofNat 32 (s.tracker.period.getD 0)
     let r := s.intake.last
     let c := s.ring.ctx
     let outcome (o : InjOutcome) : Sys2Proof.Word :=
      match o with | .inProgress => 0 | .done => 1 | .chamberFull => 2 | .noFlow => 3 | .aborted => 4
     let cause (o : Option Cause) : Sys2Proof.Word :=
      match o with
      | none => 0 | some .strike => 1 | some .lid => 2 | some .mass => 3 | some .overspeed => 4 | some .drive => 5
     let mask (x : Cause → Bool) : Sys2Proof.Word :=
      u ((if x .strike then 2 else 0) + (if x .lid then 4 else 0) + (if x .mass then 8 else 0) +
        (if x .overspeed then 16 else 0) + (if x .drive then 32 else 0))
     let d (x : Disposal) : Byte := match x with | .pass => 0 | .drop => 1
     (∀ k : Fin 64, k.val ∉ [0x11, 0x31, 0x3C, 0x3D, 0x3E, 0x3F] →
        (s.objectWords 0x01)[k.val]? = some (d s.classTable[k].atD ++ d s.classTable[k].atC)) ∧
     [0x11, 0x31, 0x3C, 0x3D, 0x3E, 0x3F].map (fun k : Nat => (s.objectWords 0x01)[k]?) =
        [some 0x0102, some 0x0301, some 0x0104, some 0x0101, some 0x0101, some 0x0101] ∧
     (s.objectWords 0x01).length = 64 ∧
     s.objectWords 0x10 = s.tables.envelope.toList.map u ∧ s.objectWords 0x11 = s.tables.rampLimit.toList.map u ∧
     s.objectWords 0x12 = s.tables.gain.toList.map u ∧ s.objectWords 0x13 = s.tables.phase.toList.map u ∧
     s.objectWords 0x14 = s.tables.plateau.toList.map u ∧ s.objectWords 0x15 = s.tables.weighThresh.toList.map u ∧
     s.objectWords 0x20 =
        [u s.spin.blindCeiling, u s.spin.agitateLimit, u s.spin.retainSpeed, u s.spin.filterShift, u s.spin.primeRevs,
          u s.spin.hystRevs, u s.spin.downRamp, u s.spin.defaultClass, u s.spin.weighLo, u s.spin.weighHi,
          u s.spin.maxRedist, u s.spin.chamberCap, u s.spin.flowGrams, u s.spin.flowTimeout, u s.spin.flowTail,
          u s.spin.bleedRate, u s.spin.nozzleOffset, u s.spin.guardAngle, u s.spin.valveLead, u s.spin.sensorLatency,
          u s.spin.tripRamp] ∧
     s.objectWords 0x21 =
        [u s.service.reportEvery, u s.service.debounceLid, u s.service.debounceStrike,
          (match s.monitor.source with
           | .frameErrC => 0 | .frameErrD => 1 | .frameErrS => 2 | .seqGap => 3 | .drops => 4 | .indexGlitch => 5),
          b s.monitor.auto] ∧
     s.objectWords 0x30 = [u (s.limits.abs.getD 0), u (s.limits.mass.getD 0)] ∧
     (s.objectWords 0x40).take 5 =
        [s.events.live, s.events.latch, s.events.report, s.events.attention, s.events.edge] ∧
     (s.objectWords 0x40).length = 21 ∧
     (∀ k : Fin 16, (s.objectWords 0x40)[5 + k.val]? = some (u (s.events.counts[k]).toNat)) ∧
     s.objectWords 0x50 =
        [(match s.tracker.state with | .untimed => 0 | .timing => 1 | .locked => 2 | .held => 3), hi p, lo p,
          u s.indexSpeed, u s.tracker.mismatch,
          (match s.est.state with | .invalid => 0 | .priming => 1 | .valid => 2), u s.est.priming, i s.est.fx,
          i s.est.fy, u s.est.m16, u s.est.band, u s.est.u, u s.est.thin,
          (match s.weigh.state with | .disarmed => 0 | .armed => 1 | .done => 2 | .failed => 3), u s.weigh.n,
          u s.weigh.j, u s.loadClass, u s.gov.eHeld, u s.gov.eNew, u s.gov.rise, u s.gov.spin, u s.gov.agitate,
          b r.present, u r.count.toNat, i r.ax, i r.ay, i r.az, b r.saturated, hi r.timestamp, lo r.timestamp] ∧
     s.objectWords 0x51 =
        [u s.ring.contents[(0 : Fin 4)], u s.ring.contents[(1 : Fin 4)], u s.ring.contents[(2 : Fin 4)],
          u s.ring.contents[(3 : Fin 4)], b s.ring.available,
          (match c.state with | .none => 0 | .active => 1 | .tail => 2 | .closed => 3), u c.chamber.val, u c.requested,
          u c.credited, u c.tailCredited, hi c.start, lo c.start, hi c.lastPulse, lo c.lastPulse, hi c.endTime,
          lo c.endTime, outcome c.outcome, u s.ring.strayCount] ∧
     (s.objectWords 0x52).take 4 =
        [(match s.session.state with
          | .idle => 0 | .climb => 1 | .dwell => 2 | .correct => 3 | .settle => 4 | .opened => 5 | .limited => 6
          | .holdDown => 7 | .rundown => 8 | .tripped => 9),
          (match s.session.failed with | none => 255 | some e => u e.val), u s.session.dwell, u s.session.settle] ∧
     (∀ e : Fin 6, ((s.objectWords 0x52).drop (4 + 3 * e.val)).take 3 =
        [b s.session.progress[e].passed, u s.session.progress[e].attempts, u s.session.progress[e].uLast]) ∧
     ((s.objectWords 0x52).drop 22).take 2 = [u s.session.redist, u s.session.corrections.length] ∧
     (∀ (k : Nat) (x : Correction), s.session.corrections[k]? = some x →
        ((s.objectWords 0x52).drop (24 + 6 * k)).take 6 =
          [u x.plateau.val, u x.chamber.val, u x.requested, u x.credited, outcome x.outcome, u x.uPlan]) ∧
     (s.session.corrections.length ≤ 8 → (s.objectWords 0x52).length = 72 ∧
        ∀ k : Nat, 24 + 6 * s.session.corrections.length ≤ k → k < 72 → (s.objectWords 0x52)[k]? = some 0) ∧
     s.objectWords 0x53 =
        [b s.trip.latch, cause s.trip.first, mask s.trip.causes.has, i s.trip.speed,
          (match s.trip.source with | .index => 0 | .drive => 1 | .unknown => 2), u s.trip.u,
          mask s.causeHolds + (if s.speedBelow s.spin.retainSpeed then 0 else 1)] ∧
     s.objectWords 0x60 = [u s.monitor.count, u s.monitor.holding]))

/-- Part of R8, R33, R36, R77, R78, R82, R94, R140, R142, R155 to R158, R160, R164: a WRITE executed while Port C
transmits. One that fails a check changes nothing but the queues: its request goes, and its response without data, the
first failure in the order of Table 10-1 (UNKNOWN_OBJECT, BAD_LENGTH, BAD_INDEX, READ_ONLY, BUSY, LOCKED), joins the
local queue. An accepted one: an entry of the class table takes DROP for code 1 and PASS for any other
code, and answers OK; an element of a table, in IDLE, takes the value clamped to its range, and a new ENVELOPE lowers
E_held at once, and only lowers it, while the estimator is VALID; a chamber content takes the value held at
CHAMBER_CAP and RING_FULL is judged; REPORT_EVERY is stored and the report count is 0; a debounce time is stored, and
a pending change whose timing has already run it completes at the write, STRIKE going high then trips; a source other
than the one held clears the count and the holding value and in AUTO restarts the period; a mode other than the one
held starts or stops the period; TRIP_MASS is set once, and trips a VALID estimate above it. The answer is OK, or
CLAMPED where the element stored differs from the value given, with the element as stored. R164: an accepted write of
more elements, up to ten, stores each in its place, every other element of the object standing, and answers with all of
them as stored. (That the answer stands in
the queue before a notice of the same moment is the model's choice: log 9.) -/
def Obligations.WriteAnswered : Prop :=
  (∀ (m : Moment) (s : State) (r : Request) (rest : List Request) (status : Byte), s.held = false →
    s.requests = r :: rest → r.op = 2 → s.portC.localQ.length < 4 → s.portC.sending ≠ none →
    (let n := r.data.length / 2
     let idx := r.index.toNat
     let readOnly (k : Nat) : Bool :=
      r.object = 0x40 ∨ r.object = 0x50 ∨ r.object = 0x52 ∨ r.object = 0x53 ∨ r.object = 0x60 ∨
        (r.object = 0x51 ∧ 4 ≤ k) ∨ (r.object = 0x01 ∧ k ∈ [0x11, 0x31, 0x3C, 0x3D, 0x3E, 0x3F])
     let settings : Bool := r.object ∈ ([0x10, 0x11, 0x12, 0x13, 0x14, 0x15, 0x20, 0x51] : List Byte)
     let locked : Bool := r.object = 0x30 ∧
      ((idx = 0 ∧ s.limits.abs ≠ none) ∨ (idx ≤ 1 ∧ 2 ≤ idx + n ∧ s.limits.mass ≠ none))
     (match objectSize r.object with
      | none => some 3
      | some size =>
        if r.data.length % 2 = 1 ∨ r.data.length = 0 ∨ 20 < r.data.length then some 5
        else if size < idx + n then some 4
        else if (List.range n).any (fun k => readOnly (idx + k)) then some 6
        else if settings ∧ s.session.state ≠ .idle then some 7
        else if locked then some 8
        else none) = some status) →
    ∃ t, exec (.write m) s = .next t ∧
      t = { tick m s with
        requests := rest
        portC := { s.portC with
          localQ := s.portC.localQ ++
            [{ cls := 0x3D, payload := [r.tag, 2, status, r.object], changed := false, restated := false }] } }) ∧
  (∀ (m : Moment) (s : State) (tag index : Byte) (w : Sys2Proof.Word) (rest : List Request), s.held = false →
    s.requests = { tag := tag, op := 2, object := 0x01, index := index, data := be16 w } :: rest →
    s.portC.localQ.length < 4 → s.portC.sending ≠ none → index.toNat < 64 →
    index.toNat ∉ [0x11, 0x31, 0x3C, 0x3D, 0x3E, 0x3F] →
    ∃ t, exec (.write m) s = .next t ∧
      (let low : Bool := w.extractLsb' 0 8 = 1
       let high : Bool := w.extractLsb' 8 8 = 1
       t = { tick m s with
        requests := rest
        classTable := put s.classTable index.toNat
          { atC := if low then .drop else .pass, atD := if high then .drop else .pass }
        portC := { s.portC with
          localQ := s.portC.localQ ++
            [{ cls := 0x3D, payload := [tag, 2, 0, 0x01, if high then 1 else 0, if low then 1 else 0], changed := false
               restated := false }] } })) ∧
  (∀ (m : Moment) (s : State) (tag object index : Byte) (w : Sys2Proof.Word) (rest : List Request), s.held = false →
    s.requests = { tag := tag, op := 2, object := object, index := index, data := be16 w } :: rest →
    s.portC.localQ.length < 4 → s.portC.sending ≠ none → s.session.state = .idle →
    object ∈ ([0x10, 0x11, 0x12, 0x13, 0x14, 0x15] : List Byte) → index.toNat < (objectSize object).getD 0 →
    ∃ t, exec (.write m) s = .next t ∧
      (let i := index.toNat
       let v := w.toNat
       let plateau : Nat :=
        match i % 6 with
        | 0 => if v = 0 then 0 else max 30 (min 1200 v)
        | 1 => max 1 (min 255 v)
        | 2 => min 9999 v
        | 3 => min 1000 v
        | 4 => min 63 v
        | _ => min 7 v
       let stored := if object = 0x10 then min 9999 v else if object = 0x11 then min 2000 v
        else if object = 0x14 then plateau else v
       let answer : QFrame :=
        { cls := 0x3D
          payload := [tag, 2, if stored = v then 0 else 1, object] ++ be16 (BitVec.ofNat 16 stored)
          changed := false
          restated := false }
       t.tables =
        (if object = 0x10 then { s.tables with envelope := put s.tables.envelope i stored }
         else if object = 0x11 then { s.tables with rampLimit := put s.tables.rampLimit i stored }
         else if object = 0x12 then { s.tables with gain := put s.tables.gain i stored }
         else if object = 0x13 then { s.tables with phase := put s.tables.phase i stored }
         else if object = 0x14 then { s.tables with plateau := put s.tables.plateau i stored }
         else { s.tables with weighThresh := put s.tables.weighThresh i stored }) ∧
       t.portC.localQ[s.portC.localQ.length]? = some answer ∧
       (object = 0x10 → s.est.state = .valid →
        t.gov.eNew = t.envelopeNew ∧ t.gov.eHeld = min s.gov.eHeld t.envelopeNew ∧
          t.gov.rise = (if t.envelopeNew < s.gov.eHeld then 0 else s.gov.rise)) ∧
       (object ≠ 0x10 ∨ s.est.state ≠ .valid →
        t = { tick m s with
          requests := rest, tables := t.tables, portC := { s.portC with localQ := s.portC.localQ ++ [answer] } }) ∧
       t = { tick m s with
        requests := rest, tables := t.tables, gov := t.gov, portD := t.portD, standing := t.standing
        events := t.events, portC := t.portC })) ∧
  (∀ (m : Moment) (s : State) (tag index : Byte) (w : Sys2Proof.Word) (rest : List Request), s.held = false →
    s.requests = { tag := tag, op := 2, object := 0x51, index := index, data := be16 w } :: rest →
    s.portC.localQ.length < 4 → s.portC.sending ≠ none → s.session.state = .idle → index.toNat < 4 →
    s.spin.chamberCap ≤ 65535 →
    ∃ t, exec (.write m) s = .next t ∧
      (let stored := min s.spin.chamberCap w.toNat
       t.ring = { (tick m s).ring with contents := put s.ring.contents index.toNat stored } ∧
       t.events.live.getLsbD 6 = t.ring.contents.toList.any (fun g => g == s.spin.chamberCap) ∧
       t.portC.localQ[s.portC.localQ.length]? = some
        { cls := 0x3D
          payload := [tag, 2, if stored = w.toNat then 0 else 1, 0x51] ++ be16 (BitVec.ofNat 16 stored)
          changed := false
          restated := false }) ∧
      t = { tick m s with requests := rest, ring := t.ring, events := t.events, portC := t.portC }) ∧
  (∀ (m : Moment) (s : State) (tag index : Byte) (w : Sys2Proof.Word) (rest : List Request), s.held = false →
    s.requests = { tag := tag, op := 2, object := 0x21, index := index, data := be16 w } :: rest →
    s.portC.localQ.length < 4 → s.portC.sending ≠ none → index.toNat < 5 →
    ∃ t, exec (.write m) s = .next t ∧
      (let v := w.toNat
       let stored : Nat :=
        if index = 0 then min 255 v else if index = 1 then max 1 (min 255 v) else if index = 2 then min 255 v
        else if index = 3 then min 5 v else min 1 v
       let answer : QFrame :=
        { cls := 0x3D, payload := [tag, 2, if stored = v then 0 else 1, 0x21] ++ be16 (BitVec.ofNat 16 stored)
          changed := false, restated := false }
       t.portC.localQ[s.portC.localQ.length]? = some answer ∧
       (index = 0 →
        t = { tick m s with
          requests := rest, service := { s.service with reportEvery := stored }
          events := { s.events with reportCount := 0 }, portC := { s.portC with localQ := s.portC.localQ ++ [answer] } }) ∧
       (∀ sw : Switch, index = (match sw with | .lid => 1 | .strike => 2) →
        t.service = (match sw with
          | .lid => { s.service with debounceLid := stored }
          | .strike => { s.service with debounceStrike := stored }) ∧
        ((s.switch sw).pending = true → stored * 1000 ≤ elapsed (s.now + m.elapsed) (s.switch sw).since →
          t.switch sw = { s.switch sw with debounced := (s.switch sw).raw, pending := false } ∧
            (sw = .lid → t.events.live.getLsbD 12 = !s.lid.raw) ∧
            (sw = .strike → t.events.live.getLsbD 13 = s.strike.raw ∧
              (s.strike.raw = true → s.trip.latch = false → t.trip.latch = true ∧ t.trip.first = some .strike))) ∧
        ((s.switch sw).pending = false ∨ elapsed (s.now + m.elapsed) (s.switch sw).since < stored * 1000 →
          t = { tick m s with
            requests := rest, service := t.service, portC := { s.portC with localQ := s.portC.localQ ++ [answer] } })) ∧
       (index = 3 →
        t.monitor.source.code = stored ∧
        t.monitor = (if s.monitor.source.code = stored then s.monitor
          else { s.monitor with
            source := t.monitor.source, count := 0, holding := 0
            timer := if s.monitor.auto then some (s.now + m.elapsed) else none }) ∧
        t.events.live.getLsbD 15 = decide (t.monitor.count = 65535) ∧
        t = { tick m s with requests := rest, monitor := t.monitor, events := t.events, portC := t.portC }) ∧
       (index = 4 →
        t = { tick m s with
          requests := rest
          monitor := if s.monitor.auto = decide (stored = 1) then s.monitor
            else { s.monitor with
              auto := decide (stored = 1), timer := if stored = 1 then some (s.now + m.elapsed) else none }
          portC := { s.portC with localQ := s.portC.localQ ++ [answer] } }))) ∧
  (∀ (m : Moment) (s : State) (tag : Byte) (w : Sys2Proof.Word) (rest : List Request), s.held = false →
    s.requests = { tag := tag, op := 2, object := 0x30, index := 1, data := be16 w } :: rest →
    s.portC.localQ.length < 4 → s.portC.sending ≠ none → s.limits.mass = none →
    ∃ t, exec (.write m) s = .next t ∧
      (let mass := max 100 (min 9999 w.toNat)
       let answer : QFrame :=
        { cls := 0x3D, payload := [tag, 2, if mass = w.toNat then 0 else 1, 0x30] ++ be16 (BitVec.ofNat 16 mass)
          changed := false, restated := false }
       t.limits = { s.limits with mass := some mass } ∧
       t.portC.localQ[s.portC.localQ.length]? = some answer ∧
       (s.est.state = .valid → mass < s.est.u → s.trip.latch = false →
        t.trip.latch = true ∧ t.trip.first = some .mass ∧ t.trip.u = s.est.u ∧ t.session.state = .tripped ∧
          t.gov.spin = 0 ∧ t.gov.agitate = 0) ∧
       (s.est.state ≠ .valid ∨ s.est.u ≤ mass →
        t = { tick m s with
          requests := rest, limits := t.limits, portC := { s.portC with localQ := s.portC.localQ ++ [answer] } }))) ∧
  (∀ (m : Moment) (s : State) (tag object index : Byte) (ws : List Sys2Proof.Word) (rest : List Request),
    s.held = false →
    s.requests = { tag := tag, op := 2, object := object, index := index, data := ws.flatMap be16 } :: rest →
    s.portC.localQ.length < 4 → s.portC.sending ≠ none → 0 < ws.length → ws.length ≤ 10 →
    object ∈ ([0x01, 0x10, 0x11, 0x12, 0x13, 0x14, 0x15, 0x21, 0x30, 0x51] : List Byte) →
    (object = 0x01 ∨ object = 0x21 ∨ object = 0x30 ∨ s.session.state = .idle) →
    (object = 0x30 → s.limits.abs = none ∧ s.limits.mass = none) → s.spin.chamberCap ≤ 65535 →
    index.toNat + ws.length ≤ (if object = 0x51 then 4 else (objectSize object).getD 0) →
    (object = 0x01 → ∀ k ∈ [0x11, 0x31, 0x3C, 0x3D, 0x3E, 0x3F], k < index.toNat ∨ index.toNat + ws.length ≤ k) →
    ∃ t, exec (.write m) s = .next t ∧
      (let stored (k : Nat) (w : Sys2Proof.Word) : Sys2Proof.Word :=
        let v := w.toNat
        let plateau : Nat :=
          match k % 6 with
          | 0 => if v = 0 then 0 else max 30 (min 1200 v)
          | 1 => max 1 (min 255 v)
          | 2 => min 9999 v
          | 3 => min 1000 v
          | 4 => min 63 v
          | _ => min 7 v
        if object = 0x01 then
          (if w.extractLsb' 8 8 = 1 then 0x0100 else 0) ||| (if w.extractLsb' 0 8 = 1 then 0x0001 else 0)
        else BitVec.ofNat 16
          (if object = 0x10 then min 9999 v else if object = 0x11 then min 2000 v
           else if object = 0x14 then plateau
           else if object = 0x21 then
            (if k = 0 then min 255 v else if k = 1 then max 1 (min 255 v) else if k = 2 then min 255 v
             else if k = 3 then min 5 v else min 1 v)
           else if object = 0x30 then (if k = 0 then max 300 (min 1500 v) else max 100 (min 9999 v))
           else if object = 0x51 then min s.spin.chamberCap v else v)
       let out : List Sys2Proof.Word := ws.mapIdx (fun k w => stored (index.toNat + k) w)
       (((t.objectWords object).drop index.toNat).take ws.length = out ∧
        (t.objectWords object).take index.toNat = (s.objectWords object).take index.toNat ∧
        (object ≠ 0x51 → (t.objectWords object).drop (index.toNat + ws.length) =
          (s.objectWords object).drop (index.toNat + ws.length)) ∧
        (object = 0x51 → ∀ c : Fin 4, index.toNat + ws.length ≤ c.val → t.ring.contents[c] = s.ring.contents[c]) ∧
        (object = 0x30 → index = 0 → ws.length = 2 → t.limits.abs.isSome = true ∧ t.limits.mass.isSome = true) ∧
        t.portC.localQ[s.portC.localQ.length]? = some
          { cls := 0x3D
            payload := [tag, 2, if object = 0x01 ∨ out = ws then 0 else 1, object] ++ out.flatMap be16
            changed := false
            restated := false } ∧
        t.requests = rest ∧ t.spin = s.spin ∧
        (∀ o ∈ ([0x01, 0x10, 0x11, 0x12, 0x13, 0x14, 0x15, 0x20, 0x21, 0x30] : List Byte), o ≠ object →
          t.objectWords o = s.objectWords o))))

/-- Part of R87, R89, R141, R164: the WRITE that sets ABS_LIMIT while Port C transmits: the value clamped to 300..1500
is stored, the answer is OK or, for a value outside the range, CLAMPED, with the element as stored; the ceilings are
composed again and neither exceeds the limit; TRIP_MASS, the settings and the tables stand. (That the answer stands in
the queue before a notice of the same moment is the model's choice: log 9.) -/
def Obligations.AbsLimitSet : Prop :=
  ∀ (m : Moment) (s : State) (tag : Byte) (w : Sys2Proof.Word) (rest : List Request), s.held = false →
    s.requests = { tag := tag, op := 2, object := 0x30, index := 0, data := be16 w } :: rest →
    s.portC.localQ.length < 4 → s.portC.sending ≠ none → s.limits.abs = none → ceilingsComposed s = true →
    ∃ t, exec (.write m) s = .next t ∧
      t.limits = { s.limits with abs := some (max 300 (min 1500 w.toNat)) } ∧
      t.gov.spin ≤ max 300 (min 1500 w.toNat) ∧ t.gov.agitate ≤ max 300 (min 1500 w.toNat) ∧
      ceilingsComposed t = true ∧
      t.portC.localQ[s.portC.localQ.length]? = some
        { cls := 0x3D
          payload := [tag, 2, if 300 ≤ w.toNat ∧ w.toNat ≤ 1500 then 0 else 1, 0x30] ++
            be16 (BitVec.ofNat 16 (max 300 (min 1500 w.toNat)))
          changed := false
          restated := false } ∧
      t.requests = rest ∧ t.spin = s.spin ∧ t.tables = s.tables ∧ t.service = s.service ∧ t.est = s.est ∧
      t.tracker = s.tracker

/-- Part of R164, R74, R92, R118, R121, R122, R132, R135, section 10.3 and the ranges of the settings: an accepted WRITE
of 1 to 10 spin settings in IDLE stores each clamped to its range, leaves every other setting but WEIGH_HI as it was,
and holds WEIGH_HI at WEIGH_LO + 20 or more where it touches either; it touches no table, limit or class entry. While
Port C transmits, the answer carries every element as stored, and is CLAMPED where one differs from the value given or
WEIGH_HI was moved, and OK otherwise. A chamber content above a new CHAMBER_CAP takes it and RING_FULL is judged; a tail
that has run a new FLOW_TAIL closes; a new RETAIN_SPEED judges the bleed timer. (That the answer stands in the queue
before a notice of the same moment is the model's choice: log 9.) -/
def Obligations.SpinSettingWritten : Prop :=
  ∀ (m : Moment) (s : State) (tag index : Byte) (ws : List Sys2Proof.Word) (rest : List Request), s.held = false →
    s.requests = { tag := tag, op := 2, object := 0x20, index := index, data := ws.flatMap be16 } :: rest →
    s.portC.localQ.length < 4 → s.session.state = .idle → 0 < ws.length → ws.length ≤ 10 →
    index.toNat + ws.length ≤ 21 → spinInRange s.spin = true →
    ∃ t, exec (.write m) s = .next t ∧
      (let ranges : List (Nat × Nat) :=
        [(40, 300), (0, 300), (30, 200), (0, 4), (1, 15), (1, 63), (10, 600), (0, 3), (30, 400), (50, 600), (0, 7),
          (50, 1000), (1, 16), (200, 5000), (0, 1000), (0, 50), (0, 65535), (0, 4096), (0, 20000), (0, 2000), (100, 2000)]
       let touched (k : Nat) : Bool := index.toNat ≤ k ∧ k < index.toNat + ws.length
       let given (k : Nat) : Nat := (ws.getD (k - index.toNat) 0).toNat
       let clamped (k : Nat) : Nat := max (ranges.getD k (0, 0)).1 (min (ranges.getD k (0, 0)).2 (given k))
       let before (k : Nat) : Nat := if touched k then clamped k else s.spin.list.getD k 0
       let after (k : Nat) : Nat := if k = 9 then max (before 9) (before 8 + 20) else before k
       (∀ k, k < 21 → t.spin.list.getD k 0 = after k) ∧
       (s.portC.sending ≠ none →
        t.portC.localQ[s.portC.localQ.length]? = some
          { cls := 0x3D
            payload :=
              [tag, 2, if (List.range 21).all (fun k => !touched k || after k == given k) &&
                  (after 9 == before 9 || !(touched 8 || touched 9)) then 0 else 1, 0x20] ++
                ((List.range ws.length).map fun k => BitVec.ofNat 16 (after (index.toNat + k))).flatMap be16
            changed := false
            restated := false }) ∧
       (∀ c : Fin 4, t.ring.contents[c] =
        (if touched 11 then min (after 11) s.ring.contents[c] else s.ring.contents[c])) ∧
       (touched 11 = true →
        t.events.live.getLsbD 6 = t.ring.contents.toList.any (fun g => g == t.spin.chamberCap)) ∧
       (touched 14 = true → s.ring.ctx.state = .tail → after 14 * 1000 ≤ elapsed (s.now + m.elapsed) s.ring.ctx.endTime →
        t.ring.ctx = { s.ring.ctx with state := .closed }) ∧
       (touched 14 = false ∨ elapsed (s.now + m.elapsed) s.ring.ctx.endTime < after 14 * 1000 →
        s.ring.ctx.state = .tail → t.ring.ctx = s.ring.ctx) ∧
       (touched 2 = true → t.ring.bleed.isSome = t.speedBelow (after 2)) ∧
       (touched 2 = false → t.ring.bleed = s.ring.bleed)) ∧
      t.tables = s.tables ∧ t.limits = s.limits ∧ t.classTable = s.classTable ∧ t.service = s.service ∧
      t.requests = rest

/-- Part of R151, R152, R153, R165: an accepted SET BITS or CLEAR BITS changes in the addressed element of the event
state exactly the bits of its mask, leaves every other element, and judges ATTN again; while Port C transmits the answer
is OK with the element as it stands after the change. R160, R165: one of another object is answered UNKNOWN_OBJECT, one
whose data is not one element BAD_LENGTH, one above index 20 BAD_INDEX, one of an element it may not change (for SET
BITS the latches too) READ_ONLY, the first that holds, and nothing but the queues changes. -/
def Obligations.BitsChanged : Prop :=
  (∀ (m : Moment) (s : State) (tag index : Byte) (w : Sys2Proof.Word) (rest : List Request), s.held = false →
    s.requests = { tag := tag, op := 3, object := 0x40, index := index, data := be16 w } :: rest →
    s.portC.localQ.length < 4 → 2 ≤ index.toNat → index.toNat ≤ 4 → attnFollows s = true →
    ∃ t, exec (.setBits m) s = .next t ∧
      t.events = { s.events with
        report := if index = 2 then s.events.report ||| w else s.events.report
        attention := if index = 3 then s.events.attention ||| w else s.events.attention
        edge := if index = 4 then s.events.edge ||| w else s.events.edge
        attn := t.events.attn } ∧
      t.events.attn = decide (t.events.latch &&& t.events.attention ≠ 0) ∧
      (s.portC.sending ≠ none →
        t.portC = { s.portC with
          localQ := s.portC.localQ ++
            [{ cls := 0x3D
               payload := [tag, 3, 0, 0x40] ++ be16
                (if index = 2 then t.events.report else if index = 3 then t.events.attention else t.events.edge)
               changed := false
               restated := false }] }) ∧
      t = { tick m s with requests := rest, portC := t.portC, events := t.events }) ∧
  (∀ (m : Moment) (s : State) (tag index : Byte) (w : Sys2Proof.Word) (rest : List Request), s.held = false →
    s.requests = { tag := tag, op := 4, object := 0x40, index := index, data := be16 w } :: rest →
    s.portC.localQ.length < 4 → 1 ≤ index.toNat → index.toNat ≤ 4 → attnFollows s = true →
    ∃ t, exec (.clearBits m) s = .next t ∧
      t.events = { s.events with
        latch := if index = 1 then s.events.latch &&& ~~~w else s.events.latch
        report := if index = 2 then s.events.report &&& ~~~w else s.events.report
        attention := if index = 3 then s.events.attention &&& ~~~w else s.events.attention
        edge := if index = 4 then s.events.edge &&& ~~~w else s.events.edge
        attn := t.events.attn } ∧
      t.events.attn = decide (t.events.latch &&& t.events.attention ≠ 0) ∧
      (s.portC.sending ≠ none →
        t.portC = { s.portC with
          localQ := s.portC.localQ ++
            [{ cls := 0x3D
               payload := [tag, 4, 0, 0x40] ++ be16
                (if index = 1 then t.events.latch else if index = 2 then t.events.report
                  else if index = 3 then t.events.attention else t.events.edge)
               changed := false
               restated := false }] }) ∧
      t = { tick m s with requests := rest, portC := t.portC, events := t.events }) ∧
  (∀ (m : Moment) (s : State) (r : Request) (rest : List Request), s.held = false → s.requests = r :: rest →
    r.op = 3 → s.portC.localQ.length < 4 → s.portC.sending ≠ none →
    (r.object ≠ 0x40 ∨ r.data.length ≠ 2 ∨ r.index.toNat < 2 ∨ 4 < r.index.toNat) →
    ∃ t, exec (.setBits m) s = .next t ∧
      t = { tick m s with
        requests := rest
        portC := { s.portC with
          localQ := s.portC.localQ ++
            [{ cls := 0x3D
               payload := [r.tag, 3, if r.object ≠ 0x40 then 3 else if r.data.length ≠ 2 then 5
                else if 20 < r.index.toNat then 4 else 6, r.object]
               changed := false
               restated := false }] } }) ∧
  (∀ (m : Moment) (s : State) (r : Request) (rest : List Request), s.held = false → s.requests = r :: rest →
    r.op = 4 → s.portC.localQ.length < 4 → s.portC.sending ≠ none →
    (r.object ≠ 0x40 ∨ r.data.length ≠ 2 ∨ r.index.toNat < 1 ∨ 4 < r.index.toNat) →
    ∃ t, exec (.clearBits m) s = .next t ∧
      t = { tick m s with
        requests := rest
        portC := { s.portC with
          localQ := s.portC.localQ ++
            [{ cls := 0x3D
               payload := [r.tag, 4, if r.object ≠ 0x40 then 3 else if r.data.length ≠ 2 then 5
                else if 20 < r.index.toNat then 4 else 6, r.object]
               changed := false
               restated := false }] } })

/-- Part of R151, R166: ACKNOWLEDGE IF of a kind and an expected count while Port C transmits. A set latch whose count
equals the expected count clears and the answer is OK; a set latch whose count differs stays and the answer is
MISMATCH; a clear latch stays clear and the answer is OK. The answer carries the count, which does not change.
R160, R166: one of another object is answered UNKNOWN_OBJECT, one whose data is not two elements BAD_LENGTH, one of a kind
above 15 BAD_INDEX, the first that holds, and nothing but the queues changes. -/
def Obligations.AcknowledgeIf : Prop :=
  (∀ (m : Moment) (s : State) (tag index : Byte) (k : Fin 16) (expected : Sys2Proof.Word) (rest : List Request),
    s.held = false →
    s.requests = { tag := tag, op := 5, object := 0x40, index := index
                   data := be16 (BitVec.ofNat 16 k.val) ++ be16 expected } :: rest →
    s.portC.localQ.length < 4 → s.portC.sending ≠ none →
    ∃ t, exec (.acknowledgeIf m) s = .next t ∧
      (let hit := s.events.latch.getLsbD k.val = true ∧ (s.events.counts[k]).toNat ≠ expected.toNat
       (∀ j : Fin 16, t.events.latch.getLsbD j.val =
          (if j = k ∧ ¬hit then false else s.events.latch.getLsbD j.val)) ∧
       t.events.counts = s.events.counts ∧ t.events.live = s.events.live ∧
       (¬hit → t.events.attn = decide (t.events.latch &&& t.events.attention ≠ 0)) ∧
       t.portC.localQ = s.portC.localQ ++
        [{ cls := 0x3D
           payload := [tag, 5, if hit then 9 else 0, 0x40] ++ be16 ((s.events.counts[k]).setWidth 16)
           changed := false
           restated := false }]) ∧
      t = { tick m s with requests := rest, portC := t.portC, events := t.events }) ∧
  (∀ (m : Moment) (s : State) (r : Request) (rest : List Request), s.held = false → s.requests = r :: rest →
    r.op = 5 → s.portC.localQ.length < 4 → s.portC.sending ≠ none →
    (r.object ≠ 0x40 ∨ r.data.length ≠ 4 ∨ 15 < (r.words.getD 0 0).toNat) →
    ∃ t, exec (.acknowledgeIf m) s = .next t ∧
      t = { tick m s with
        requests := rest
        portC := { s.portC with
          localQ := s.portC.localQ ++
            [{ cls := 0x3D
               payload := [r.tag, 5, if r.object ≠ 0x40 then 3 else if r.data.length ≠ 4 then 5 else 4, r.object]
               changed := false
               restated := false }] } })

/-- Part of R145, R146, R114: CLEAR TRIP with the latch set. With the speed known and below RETAIN_SPEED and no cause
true, the latch and the TRIP line clear and the cause set empties, the first cause, speed and U are kept, and the
session enters IDLE with every passed mark cleared; the request leaves the queue and the answer is OK without data (its
place before a notice of the same moment is the model's choice: log 9). Otherwise nothing but the queues changes and the
answer is REFUSED with the bit of each true cause and bit 0 for the speed. R160, R167: one of another object is answered
UNKNOWN_OBJECT, one with data BAD_LENGTH, one that finds the latch clear OK without data, and nothing but the queues
changes. -/
def Obligations.ClearTrip : Prop :=
  (∀ (m : Moment) (s : State) (tag index : Byte) (rest : List Request), s.held = false →
    s.requests = { tag := tag, op := 7, object := 0x53, index := index, data := [] } :: rest →
    s.portC.localQ.length < 4 → s.portC.sending ≠ none → s.trip.latch = true → s.session.state = .tripped →
    ∃ t, exec (.clearTrip m) s = .next t ∧
      (s.speedBelow s.spin.retainSpeed = true → (∀ c, s.causeHolds c = false) →
        t.trip = { s.trip with latch := false, line := false, causes := CauseSet.empty } ∧ t.session.state = .idle ∧
        (∀ e : Fin 6, t.session.progress[e] = { s.session.progress[e] with passed := false }) ∧
        t.session.failed = none ∧ t.session.dwell = 0 ∧ t.session.settle = 0 ∧
        t.session.corrections = s.session.corrections ∧ t.events.live.getLsbD 11 = false ∧
        ceilingsComposed t = true ∧ t.requests = rest ∧
        t.portC.localQ[s.portC.localQ.length]? = some
          { cls := 0x3D, payload := [tag, 7, 0, 0x53], changed := false, restated := false }) ∧
      (s.speedBelow s.spin.retainSpeed = false ∨ (∃ c, s.causeHolds c = true) →
        t = { tick m s with
          requests := rest
          portC := { s.portC with
            localQ := s.portC.localQ ++
              [{ cls := 0x3D
                 payload := [tag, 7, 10, 0x53, 0,
                  (if s.speedBelow s.spin.retainSpeed then 0 else 1) + (if s.causeHolds .strike then 2 else 0) +
                  (if s.causeHolds .lid then 4 else 0) + (if s.causeHolds .mass then 8 else 0) +
                  (if s.causeHolds .overspeed then 16 else 0) + (if s.causeHolds .drive then 32 else 0)]
                 changed := false
                 restated := false }] } })) ∧
  (∀ (m : Moment) (s : State) (r : Request) (rest : List Request), s.held = false → s.requests = r :: rest →
    r.op = 7 → s.portC.localQ.length < 4 → s.portC.sending ≠ none →
    (r.object ≠ 0x53 ∨ r.data ≠ [] ∨ s.trip.latch = false) →
    ∃ t, exec (.clearTrip m) s = .next t ∧
      t = { tick m s with
        requests := rest
        portC := { s.portC with
          localQ := s.portC.localQ ++
            [{ cls := 0x3D
               payload := [r.tag, 7, if r.object ≠ 0x53 then 3 else if r.data ≠ [] then 5 else 0, r.object]
               changed := false
               restated := false }] } })

/-- R168: a QUERY of a leaf is answered OK with the elements of Table 10-5, BAD_LENGTH with any data and BAD_INDEX above
leaf 3. And part of R160, R161: a request whose operation is not 1 to 9 is answered UNKNOWN_OP. Nothing but the queues
moves. -/
def Obligations.QueryAndUnknown : Prop :=
  (∀ (m : Moment) (s : State) (r : Request) (rest : List Request), s.held = false → s.requests = r :: rest → r.op = 8 →
    s.portC.localQ.length < 4 → s.portC.sending ≠ none →
    ∃ t, exec (.query m) s = .next t ∧
      (let flag (o : Option Nat) : Sys2Proof.Word := if o.isSome then 1 else 0
       let answer : Byte × List Sys2Proof.Word :=
        if r.data ≠ [] then (5, []) else
          match r.index.toNat with
          | 0 => (0, [3, 0x5A17])
          | 1 => (0, [1, 4, 6, 32, 4, 8, 4, 2, 8, 64])
          | 2 => (0, [40, 16, 32, 1, 1000, 1024])
          | 3 => (0, [flag s.limits.abs, flag s.limits.mass, BitVec.ofNat 16 (s.limits.abs.getD 0),
              BitVec.ofNat 16 (s.limits.mass.getD 0)])
          | _ => (4, [])
       t = { tick m s with
        requests := rest
        portC := { s.portC with
          localQ := s.portC.localQ ++
            [{ cls := 0x3D, payload := [r.tag, 8, answer.1, r.object] ++ answer.2.flatMap be16, changed := false
               restated := false }] } })) ∧
  (∀ (m : Moment) (s : State) (r : Request) (rest : List Request), s.held = false → s.requests = r :: rest →
    (r.op = 0 ∨ 9 < r.op.toNat) → s.portC.localQ.length < 4 → s.portC.sending ≠ none →
    ∃ t, exec (.unknownOp m) s = .next t ∧
      t = { tick m s with
        requests := rest
        portC := { s.portC with
          localQ := s.portC.localQ ++
            [{ cls := 0x3D, payload := [r.tag, r.op, 2, r.object], changed := false, restated := false }] } })

/-! ### What every step keeps -/

/-- Part of R4: every step keeps the framers sound; none holds more than 30 bytes. R12, R13, R14, R15, R16, R159:
every step keeps the queues within their capacities, one SPEED DEMAND at most in the two Port D queues, one DRIVE
STATUS at most in the Port C forwarded queue, and the queues of an idle port empty. -/
def Obligations.FramersAndQueuesKept : Prop :=
  (∀ s t : State, framersSound s = true → step s = .next t →
    framersSound t = true ∧ ∀ link, (t.framer link).stored.length ≤ 30) ∧
  (∀ s t : State, queuesBounded s = true → oneDemand s = true → oneStatus s = true → idleEmpty s = true →
    step s = .next t →
    queuesBounded t = true ∧ oneDemand t = true ∧ oneStatus t = true ∧ idleEmpty t = true)

/-- Part of R83, R86, R89, R22, R90: after every step the effective ceilings are those of the terms standing, and the
standing target lies within the ceiling of its mode or a SPEED DEMAND waits. -/
def Obligations.CeilingsKept : Prop :=
  ∀ s t : State, ceilingsComposed s = true → standingWithin s = true → step s = .next t →
    ceilingsComposed t = true ∧ standingWithin t = true

/-- Part of R83, R86, R88, R89, R104, R105, R115, R126, R130, R142, R143, R144: after every step the TRIP line follows
the latch; while the latch is set VALVE is closed, both ceilings are 0 and the session is TRIPPED, and it is TRIPPED
at no other time; every cause that is true is in the cause set of a set latch; the ceilings are those that the terms
compose; an injection is ACTIVE exactly in CORRECT; VALVE is open exactly while its three conditions hold. Part of
R24, R84, R96, R97, R102, R109, R135: every step keeps a current plateau in CLIMB, DWELL, CORRECT and SETTLE and a
failed plateau in LIMITED and HOLD_DOWN; the passed marks an unbroken run from entry 0; at most 8 correction records,
of which the newest alone, and in CORRECT alone, is IN PROGRESS; the bleed timer running exactly below RETAIN_SPEED;
ORPHAN STOP exactly while CONTROLLER_SILENT holds. -/
def Obligations.TripAndSessionKept : Prop :=
  (∀ s t : State, tripLine s = true → tripHolds s = true → causesTaken s = true → ceilingsComposed s = true →
    injectionWhileCorrect s = true → valveSound s = true → trackerSound s.tracker = true → step s = .next t →
    tripLine t = true ∧ tripHolds t = true ∧ causesTaken t = true ∧ ceilingsComposed t = true ∧
      injectionWhileCorrect t = true ∧ valveSound t = true ∧ trackerSound t.tracker = true) ∧
  (∀ s t : State, step s = .next t →
    (sessionSound s = true → sessionSound t = true) ∧ (passedRun s = true → passedRun t = true) ∧
      (correctionsSound s = true → correctionsSound t = true) ∧
      (trackerSound s.tracker = true → bleedSound s = true → bleedSound t = true) ∧
      (orphanWhileSilent s = true → orphanWhileSilent t = true))

/-- Part of R138, R143, R145: a set trip latch outlasts every command but CLEAR TRIP and the two of RESET_N, and the
first cause, speed, source and U of its record stand while it is set. -/
def Obligations.LatchOutlasts : Prop :=
  ∀ (c : Instr) (s t : State), s.trip.latch = true → exec c s = .next t → c ≠ .powerOnReset → c ≠ .resetNLow →
    (∀ m, c ≠ .clearTrip m) →
    t.trip.latch = true ∧ t.trip.first = s.trip.first ∧ t.trip.speed = s.trip.speed ∧ t.trip.source = s.trip.source ∧
      t.trip.u = s.trip.u ∧ ∀ x, s.trip.causes.has x = true → t.trip.causes.has x = true

/-- Part of R148, R149, R153: after every step each live value is its condition, and ATTN is asserted exactly when a
latch is set whose attention enable is set. R154: every step keeps the Port C local queue with at most one notice of
each kind and at most one report. Part of R149, R154: a latching sets the latch, advances the count modulo 256, judges
ATTN, and with the report enable set makes a BALANCE NOTICE of the kind, its live value, its count, the session state,
the index speed, U and, while the trip latch is set, the first cause; the notice replaces one of its kind in place, or
joins a local queue of fewer than 4 frames, or is skipped; on an idle Port C with nothing waiting it leaves at once.
Part of R155: the event unit's part of a counted VALID revolution advances the revolution number; with REPORT_EVERY 0
the report count is 0; else the count advances, and when it reaches REPORT_EVERY it is 0 and a BALANCE REPORT of the
fields of Table 1-8 is made, which replaces, joins or is skipped in the same way. -/
def Obligations.EventsAndNoticesKept : Prop :=
  (∀ s t : State, liveFollows s = true → attnFollows s = true → trackerSound s.tracker = true → step s = .next t →
    liveFollows t = true ∧ attnFollows t = true ∧ trackerSound t.tracker = true) ∧
  (∀ s t : State, localDistinct s = true → step s = .next t → localDistinct t = true) ∧
  (∀ (k : Kind) (s : State),
    (let t := latchKind k s
     let n := k.number
     let f : QFrame :=
      { cls := 0x3E
        payload := [BitVec.ofNat 8 n.val, if s.events.live.getLsbD n.val then 1 else 0, s.events.counts[n] + 1,
            s.session.state.code] ++ be16 (BitVec.ofNat 16 s.indexSpeed) ++ be16 (BitVec.ofNat 16 s.est.u) ++
          [BitVec.ofNat 8 (if s.trip.latch then causeCode s.trip.first else 0), 0]
        changed := false
        restated := false }
     let same (g : QFrame) : Bool := g.cls == 0x3E && g.payload.getD 0 0 == BitVec.ofNat 8 n.val
     (∀ j : Fin 16, t.events.latch.getLsbD j.val = (if j = n then true else s.events.latch.getLsbD j.val) ∧
       t.events.counts[j] = (if j = n then s.events.counts[j] + 1 else s.events.counts[j])) ∧
     t.events.attn = decide (t.events.latch &&& t.events.attention ≠ 0) ∧
     (s.events.report.getLsbD n.val = false → t.portC = s.portC) ∧
     (s.events.report.getLsbD n.val = true → s.portC.sending ≠ none →
       t.portC = { s.portC with
        localQ := if s.portC.localQ.any same then replaceFirst same f s.portC.localQ
          else if s.portC.localQ.length < 4 then s.portC.localQ ++ [f] else s.portC.localQ }) ∧
     (s.events.report.getLsbD n.val = true → s.portC.sending = none → s.portC.localQ = [] → s.portC.forwardedQ = [] →
       t.portC = { s.portC with
        seq := s.portC.seq + 1, mark := .localQ
        sending := some { bytes := frameBytes 0x3E s.portC.seq f.payload, start := s.now } }) ∧
     t = { s with
      events := { s.events with latch := t.events.latch, counts := t.events.counts, attn := t.events.attn }
      portC := t.portC })) ∧
  (∀ s : State,
    (let t := reportClose s
     let every := s.service.reportEvery
     let f : QFrame :=
      { cls := 0x3F
        payload := be16 (s.events.revNumber + 1) ++ be16 (BitVec.ofNat 16 s.indexSpeed) ++
          be16 (BitVec.ofInt 16 s.est.fx) ++ be16 (BitVec.ofInt 16 s.est.fy) ++ be16 (BitVec.ofNat 16 s.est.u) ++
          be16 (BitVec.ofNat 16 s.gov.spin) ++ [s.session.state.code, BitVec.ofNat 8 s.plateauIndex] ++
          s.ring.contents.toList.flatMap (fun g => be16 (BitVec.ofNat 16 g))
        changed := false
        restated := false }
     let same (g : QFrame) : Bool := g.cls == 0x3F
     t.events = { s.events with
      revNumber := s.events.revNumber + 1
      reportCount := if every ≤ s.events.reportCount + 1 then 0 else s.events.reportCount + 1 } ∧
     (every = 0 ∨ s.events.reportCount + 1 < every → t.portC = s.portC) ∧
     (0 < every → every ≤ s.events.reportCount + 1 → s.portC.sending ≠ none →
       t.portC = { s.portC with
        localQ := if s.portC.localQ.any same then replaceFirst same f s.portC.localQ
          else if s.portC.localQ.length < 4 then s.portC.localQ ++ [f] else s.portC.localQ }) ∧
     (0 < every → every ≤ s.events.reportCount + 1 → s.portC.sending = none → s.portC.localQ = [] →
       s.portC.forwardedQ = [] →
       t.portC = { s.portC with
        seq := s.portC.seq + 1, mark := .localQ
        sending := some { bytes := frameBytes 0x3F s.portC.seq f.payload, start := s.now } }) ∧
     t = { s with events := t.events, portC := t.portC }))

/-- Part of R39, R53, R56, R60, R61, R63: every step keeps the tracker and the estimator sound and in their ranges;
the estimator is INVALID while the angle is invalid or SENSOR_LOSS holds. -/
def Obligations.EstimateKept : Prop :=
  ∀ s t : State, trackerSound s.tracker = true → estimatorSound s.est = true → estimateInRange s.est = true →
    estimateTrusted s = true → within (-8000) 8000 s.intake.last.ax = true → within (-8000) 8000 s.intake.last.ay = true →
    step s = .next t →
    trackerSound t.tracker = true ∧ estimatorSound t.est = true ∧ estimateInRange t.est = true ∧
      estimateTrusted t = true ∧ within (-8000) 8000 t.intake.last.ax = true ∧
      within (-8000) 8000 t.intake.last.ay = true

/-- Part of R10, R11, R21, R33, R54, R62, R74, R77, R78, R87, R92, R94, R121, R140, R156: every step keeps the
settings, the tables, the limits, the chamber contents, the monitor counter and the demand and drive records in their
ranges. -/
def Obligations.RangesKept : Prop :=
  ∀ s t : State, spinInRange s.spin = true → serviceInRange s = true → tablesInRange s.tables = true →
    contentsInRange s = true → monitorSound s = true → recordsInRange s = true → s.gov.spin ≤ 1500 → s.gov.agitate ≤ 1500 →
    step s = .next t →
    spinInRange t.spin = true ∧ serviceInRange t = true ∧ tablesInRange t.tables = true ∧ contentsInRange t = true ∧
      monitorSound t = true ∧ recordsInRange t = true ∧ t.gov.spin ≤ 1500 ∧ t.gov.agitate ≤ 1500

/-- Part of R8, R33, R87, R94, R140, R155, R164: the tables and the spin settings change only by a WRITE executed in
session IDLE, the class table and the service settings only by a WRITE, and a write-once limit, once set, keeps its
value, through every command but power-on reset. -/
def Obligations.SettingsStand : Prop :=
  ∀ (c : Instr) (s t : State), exec c s = .next t → c ≠ .powerOnReset → c ≠ .resetNLow →
    ((∀ m, c ≠ .write m) ∨ s.session.state ≠ .idle → t.tables = s.tables ∧ t.spin = s.spin) ∧
    ((∀ m, c ≠ .write m) → t.classTable = s.classTable ∧ t.service = s.service ∧ t.limits = s.limits) ∧
    (∀ a, s.limits.abs = some a → t.limits.abs = some a) ∧ (∀ a, s.limits.mass = some a → t.limits.mass = some a)
end

