-- ==== Sys2Proof/Laws/State.lean ====
section
/-! SUPPORT. What each shared operation leaves as it was: one lemma per operation, one equation per field of the state that it cannot change. Together with the definitions of the named updates they spare later proofs the unfolding of an operation that cannot touch the field in question. -/

namespace Sys2Proof.Machine

set_option Elab.async false

/-! ### Effects of one moment -/

/-- What holds at first and through every effect holds after them all. -/
theorem inTurn_keeps (P : State → Prop) {fs : List (State → State)} {s : State} (h0 : P s)
    (h : ∀ f ∈ fs, ∀ t, P t → P (f t)) : P (inTurn fs s) := by
  unfold inTurn
  induction fs generalizing s with
  | nil => exact h0
  | cons f fs ih => exact ih (h f (by simp) s h0) fun g hg => h g (by simp [hg])

/-- Log 5: an order spelt out is an order of the same things. -/
theorem arrangeFrom_perm {α : Type} (n : Nat) (code : List Nat) (l : List α) (h : l.length = n) :
    (arrangeFrom n code l).Perm l := by
  induction n generalizing code l with
  | zero => simp [arrangeFrom, List.length_eq_zero_iff.mp h]
  | succ n ih =>
    have hi : code.headD 0 % l.length < l.length := Nat.mod_lt _ (by omega)
    rw [arrangeFrom, List.getElem?_eq_getElem hi]
    refine ((ih code.tail _ ?_).cons _).trans (List.getElem_cons_eraseIdx_perm hi)
    rw [List.length_eraseIdx_of_lt hi]; omega

/-- Log 5: an order spelt out is an order of the same things. -/
theorem arrange_perm {α : Type} (code : List Nat) (l : List α) : (arrange code l).Perm l :=
  arrangeFrom_perm _ _ _ rfl

/-- What holds at first and through every effect of one moment holds after them, whatever their order (log 5). -/
theorem inOrder_keeps (P : State → Prop) {code : List Nat} {fs : List (State → State)} {s : State} (h0 : P s)
    (h : ∀ f ∈ fs, ∀ t, P t → P (f t)) : P (inOrder code fs s) :=
  inTurn_keeps P h0 fun f hf => h f ((arrange_perm code fs).mem_iff.mp hf)

/-- What one of the effects brings about and none undoes holds after them all, whatever their order (log 5). -/
theorem inTurn_brings (P : State → Prop) {fs : List (State → State)} {s : State} (h : ∀ f ∈ fs, ∀ t, P t → P (f t))
    (hg : ∃ g ∈ fs, ∀ t, P (g t)) : P (inTurn fs s) := by
  induction fs generalizing s with
  | nil => simp at hg
  | cons f fs ih =>
    obtain ⟨g, hg, hp⟩ := hg
    rcases List.mem_cons.mp hg with rfl | hg
    · exact inTurn_keeps (s := g s) P (hp s) fun f hf => h f (by simp [hf])
    · exact ih (fun f hf => h f (by simp [hf])) ⟨g, hg, hp⟩

/-- What one of the effects brings about and none undoes holds after them all, whatever their order (log 5). -/
theorem inOrder_brings (P : State → Prop) {code : List Nat} {fs : List (State → State)} {s : State}
    (h : ∀ f ∈ fs, ∀ t, P t → P (f t)) (hg : ∃ g ∈ fs, ∀ t, P (g t)) : P (inOrder code fs s) :=
  inTurn_brings P (fun f hf => h f ((arrange_perm code fs).mem_iff.mp hf))
    (hg.imp fun _ hg => ⟨(arrange_perm code fs).mem_iff.mpr hg.1, hg.2⟩)

/-- Log 5: the effects of a counted VALID revolution, in whatever order. -/
theorem mem_closeEffects {ch : Choice} {entered : Bool} {f : State → State} (h : f ∈ closeEffects ch entered) :
    f = judgeLive .estimateValid ∨ f = recompose ∨ f = governorClose false ∨ f = sessionClose ch ∨
      f = judgeCauses ch [.mass] ∨ f = reportClose := by
  unfold closeEffects at h; split at h
  · have h := List.eq_or_mem_of_mem_insertIdx h
    simp only [List.mem_cons, (arrange_perm _ _).mem_iff, closeReaders, List.not_mem_nil, or_false] at h
    tauto
  · simp only [(arrange_perm _ _).mem_iff, List.mem_cons, closeReaders, List.not_mem_nil, or_false] at h
    tauto

/-! ### Time and the line VALVE -/

/-- What `judgeValve` leaves as it was. -/
@[simp] theorem judgeValve_kept (s : State) :
    (judgeValve s).now = s.now ∧ (judgeValve s).held = s.held ∧ (judgeValve s).framerC = s.framerC ∧
    (judgeValve s).framerD = s.framerD ∧ (judgeValve s).framerS = s.framerS ∧ (judgeValve s).rxC = s.rxC ∧
    (judgeValve s).rxD = s.rxD ∧ (judgeValve s).classTable = s.classTable ∧ (judgeValve s).requested = s.requested ∧
    (judgeValve s).drive = s.drive ∧ (judgeValve s).silence = s.silence ∧ (judgeValve s).portC = s.portC ∧
    (judgeValve s).portD = s.portD ∧ (judgeValve s).standing = s.standing ∧ (judgeValve s).intake = s.intake ∧
    (judgeValve s).lid = s.lid ∧ (judgeValve s).strike = s.strike ∧ (judgeValve s).tracker = s.tracker ∧
    (judgeValve s).est = s.est ∧ (judgeValve s).weigh = s.weigh ∧ (judgeValve s).loadClass = s.loadClass ∧
    (judgeValve s).gov = s.gov ∧ (judgeValve s).tables = s.tables ∧ (judgeValve s).spin = s.spin ∧
    (judgeValve s).service = s.service ∧ (judgeValve s).limits = s.limits ∧ (judgeValve s).session = s.session ∧
    (judgeValve s).trip = s.trip ∧ (judgeValve s).events = s.events ∧ (judgeValve s).monitor = s.monitor ∧
    (judgeValve s).requests = s.requests ∧ (judgeValve s).pending = s.pending := by
  simp [judgeValve]

/-- What `tick` leaves as it was. -/
@[simp] theorem tick_kept (m : Moment) (s : State) :
    (tick m s).held = s.held ∧ (tick m s).framerC = s.framerC ∧ (tick m s).framerD = s.framerD ∧
    (tick m s).framerS = s.framerS ∧ (tick m s).rxC = s.rxC ∧ (tick m s).rxD = s.rxD ∧
    (tick m s).classTable = s.classTable ∧ (tick m s).requested = s.requested ∧ (tick m s).drive = s.drive ∧
    (tick m s).silence = s.silence ∧ (tick m s).portC = s.portC ∧ (tick m s).portD = s.portD ∧
    (tick m s).standing = s.standing ∧ (tick m s).intake = s.intake ∧ (tick m s).lid = s.lid ∧
    (tick m s).strike = s.strike ∧ (tick m s).tracker = s.tracker ∧ (tick m s).est = s.est ∧
    (tick m s).weigh = s.weigh ∧ (tick m s).loadClass = s.loadClass ∧ (tick m s).gov = s.gov ∧
    (tick m s).tables = s.tables ∧ (tick m s).spin = s.spin ∧ (tick m s).service = s.service ∧
    (tick m s).limits = s.limits ∧ (tick m s).session = s.session ∧ (tick m s).trip = s.trip ∧
    (tick m s).events = s.events ∧ (tick m s).monitor = s.monitor ∧ (tick m s).requests = s.requests ∧
    (tick m s).pending = s.pending := by
  simp [tick]

/-! ### The event unit and the monitor counter -/

/-- What `latchKind` leaves as it was. -/
@[simp] theorem latchKind_kept (k : Kind) (s : State) :
    (latchKind k s).now = s.now ∧ (latchKind k s).held = s.held ∧ (latchKind k s).framerC = s.framerC ∧
    (latchKind k s).framerD = s.framerD ∧ (latchKind k s).framerS = s.framerS ∧ (latchKind k s).rxC = s.rxC ∧
    (latchKind k s).rxD = s.rxD ∧ (latchKind k s).classTable = s.classTable ∧
    (latchKind k s).requested = s.requested ∧ (latchKind k s).drive = s.drive ∧
    (latchKind k s).silence = s.silence ∧ (latchKind k s).portD = s.portD ∧ (latchKind k s).standing = s.standing ∧
    (latchKind k s).intake = s.intake ∧ (latchKind k s).lid = s.lid ∧ (latchKind k s).strike = s.strike ∧
    (latchKind k s).tracker = s.tracker ∧ (latchKind k s).est = s.est ∧ (latchKind k s).weigh = s.weigh ∧
    (latchKind k s).loadClass = s.loadClass ∧ (latchKind k s).gov = s.gov ∧ (latchKind k s).tables = s.tables ∧
    (latchKind k s).spin = s.spin ∧ (latchKind k s).service = s.service ∧ (latchKind k s).limits = s.limits ∧
    (latchKind k s).session = s.session ∧ (latchKind k s).ring = s.ring ∧ (latchKind k s).trip = s.trip ∧
    (latchKind k s).monitor = s.monitor ∧ (latchKind k s).requests = s.requests ∧
    (latchKind k s).pending = s.pending := by
  simp [latchKind]

/-- What `offerLive` leaves as it was. -/
@[simp] theorem offerLive_kept (k : Kind) (v : Bool) (s : State) :
    (offerLive k v s).now = s.now ∧ (offerLive k v s).held = s.held ∧ (offerLive k v s).framerC = s.framerC ∧
    (offerLive k v s).framerD = s.framerD ∧ (offerLive k v s).framerS = s.framerS ∧ (offerLive k v s).rxC = s.rxC ∧
    (offerLive k v s).rxD = s.rxD ∧ (offerLive k v s).classTable = s.classTable ∧
    (offerLive k v s).requested = s.requested ∧ (offerLive k v s).drive = s.drive ∧
    (offerLive k v s).silence = s.silence ∧ (offerLive k v s).portD = s.portD ∧
    (offerLive k v s).standing = s.standing ∧ (offerLive k v s).intake = s.intake ∧ (offerLive k v s).lid = s.lid ∧
    (offerLive k v s).strike = s.strike ∧ (offerLive k v s).tracker = s.tracker ∧ (offerLive k v s).est = s.est ∧
    (offerLive k v s).weigh = s.weigh ∧ (offerLive k v s).loadClass = s.loadClass ∧ (offerLive k v s).gov = s.gov ∧
    (offerLive k v s).tables = s.tables ∧ (offerLive k v s).spin = s.spin ∧ (offerLive k v s).service = s.service ∧
    (offerLive k v s).limits = s.limits ∧ (offerLive k v s).session = s.session ∧ (offerLive k v s).ring = s.ring ∧
    (offerLive k v s).trip = s.trip ∧ (offerLive k v s).monitor = s.monitor ∧
    (offerLive k v s).requests = s.requests ∧ (offerLive k v s).pending = s.pending := by
  unfold offerLive; (repeat' split) <;> simp

/-- What `judgeLive` leaves as it was. -/
@[simp] theorem judgeLive_kept (k : Kind) (s : State) :
    (judgeLive k s).now = s.now ∧ (judgeLive k s).held = s.held ∧ (judgeLive k s).framerC = s.framerC ∧
    (judgeLive k s).framerD = s.framerD ∧ (judgeLive k s).framerS = s.framerS ∧ (judgeLive k s).rxC = s.rxC ∧
    (judgeLive k s).rxD = s.rxD ∧ (judgeLive k s).classTable = s.classTable ∧
    (judgeLive k s).requested = s.requested ∧ (judgeLive k s).drive = s.drive ∧
    (judgeLive k s).silence = s.silence ∧ (judgeLive k s).portD = s.portD ∧ (judgeLive k s).standing = s.standing ∧
    (judgeLive k s).intake = s.intake ∧ (judgeLive k s).lid = s.lid ∧ (judgeLive k s).strike = s.strike ∧
    (judgeLive k s).tracker = s.tracker ∧ (judgeLive k s).est = s.est ∧ (judgeLive k s).weigh = s.weigh ∧
    (judgeLive k s).loadClass = s.loadClass ∧ (judgeLive k s).gov = s.gov ∧ (judgeLive k s).tables = s.tables ∧
    (judgeLive k s).spin = s.spin ∧ (judgeLive k s).service = s.service ∧ (judgeLive k s).limits = s.limits ∧
    (judgeLive k s).session = s.session ∧ (judgeLive k s).ring = s.ring ∧ (judgeLive k s).trip = s.trip ∧
    (judgeLive k s).monitor = s.monitor ∧ (judgeLive k s).requests = s.requests ∧
    (judgeLive k s).pending = s.pending := by
  simp [judgeLive]

/-- What `countSource` leaves as it was. -/
@[simp] theorem countSource_kept (src : Source) (s : State) :
    (countSource src s).now = s.now ∧ (countSource src s).held = s.held ∧ (countSource src s).framerC = s.framerC ∧
    (countSource src s).framerD = s.framerD ∧ (countSource src s).framerS = s.framerS ∧
    (countSource src s).rxC = s.rxC ∧ (countSource src s).rxD = s.rxD ∧
    (countSource src s).classTable = s.classTable ∧ (countSource src s).requested = s.requested ∧
    (countSource src s).drive = s.drive ∧ (countSource src s).silence = s.silence ∧
    (countSource src s).portD = s.portD ∧ (countSource src s).standing = s.standing ∧
    (countSource src s).intake = s.intake ∧ (countSource src s).lid = s.lid ∧
    (countSource src s).strike = s.strike ∧ (countSource src s).tracker = s.tracker ∧
    (countSource src s).est = s.est ∧ (countSource src s).weigh = s.weigh ∧
    (countSource src s).loadClass = s.loadClass ∧ (countSource src s).gov = s.gov ∧
    (countSource src s).tables = s.tables ∧ (countSource src s).spin = s.spin ∧
    (countSource src s).service = s.service ∧ (countSource src s).limits = s.limits ∧
    (countSource src s).session = s.session ∧ (countSource src s).ring = s.ring ∧
    (countSource src s).trip = s.trip ∧ (countSource src s).requests = s.requests ∧
    (countSource src s).pending = s.pending := by
  unfold countSource; (repeat' split) <;> simp

/-- What `monitorTransfer` leaves as it was. -/
@[simp] theorem monitorTransfer_kept (s : State) :
    (monitorTransfer s).now = s.now ∧ (monitorTransfer s).held = s.held ∧ (monitorTransfer s).framerC = s.framerC ∧
    (monitorTransfer s).framerD = s.framerD ∧ (monitorTransfer s).framerS = s.framerS ∧
    (monitorTransfer s).rxC = s.rxC ∧ (monitorTransfer s).rxD = s.rxD ∧
    (monitorTransfer s).classTable = s.classTable ∧ (monitorTransfer s).requested = s.requested ∧
    (monitorTransfer s).drive = s.drive ∧ (monitorTransfer s).silence = s.silence ∧
    (monitorTransfer s).portD = s.portD ∧ (monitorTransfer s).standing = s.standing ∧
    (monitorTransfer s).intake = s.intake ∧ (monitorTransfer s).lid = s.lid ∧
    (monitorTransfer s).strike = s.strike ∧ (monitorTransfer s).tracker = s.tracker ∧
    (monitorTransfer s).est = s.est ∧ (monitorTransfer s).weigh = s.weigh ∧
    (monitorTransfer s).loadClass = s.loadClass ∧ (monitorTransfer s).gov = s.gov ∧
    (monitorTransfer s).tables = s.tables ∧ (monitorTransfer s).spin = s.spin ∧
    (monitorTransfer s).service = s.service ∧ (monitorTransfer s).limits = s.limits ∧
    (monitorTransfer s).session = s.session ∧ (monitorTransfer s).ring = s.ring ∧
    (monitorTransfer s).trip = s.trip ∧ (monitorTransfer s).requests = s.requests ∧
    (monitorTransfer s).pending = s.pending := by
  simp [monitorTransfer]

/-- What `dropFromQueue` leaves as it was. -/
@[simp] theorem dropFromQueue_kept (ch : Choice) (s : State) :
    (dropFromQueue ch s).now = s.now ∧ (dropFromQueue ch s).held = s.held ∧
    (dropFromQueue ch s).framerC = s.framerC ∧ (dropFromQueue ch s).framerD = s.framerD ∧
    (dropFromQueue ch s).framerS = s.framerS ∧ (dropFromQueue ch s).rxC = s.rxC ∧ (dropFromQueue ch s).rxD = s.rxD ∧
    (dropFromQueue ch s).classTable = s.classTable ∧ (dropFromQueue ch s).requested = s.requested ∧
    (dropFromQueue ch s).drive = s.drive ∧ (dropFromQueue ch s).silence = s.silence ∧
    (dropFromQueue ch s).portD = s.portD ∧ (dropFromQueue ch s).standing = s.standing ∧
    (dropFromQueue ch s).intake = s.intake ∧ (dropFromQueue ch s).lid = s.lid ∧
    (dropFromQueue ch s).strike = s.strike ∧ (dropFromQueue ch s).tracker = s.tracker ∧
    (dropFromQueue ch s).est = s.est ∧ (dropFromQueue ch s).weigh = s.weigh ∧
    (dropFromQueue ch s).loadClass = s.loadClass ∧ (dropFromQueue ch s).gov = s.gov ∧
    (dropFromQueue ch s).tables = s.tables ∧ (dropFromQueue ch s).spin = s.spin ∧
    (dropFromQueue ch s).service = s.service ∧ (dropFromQueue ch s).limits = s.limits ∧
    (dropFromQueue ch s).session = s.session ∧ (dropFromQueue ch s).ring = s.ring ∧
    (dropFromQueue ch s).trip = s.trip ∧ (dropFromQueue ch s).requests = s.requests ∧
    (dropFromQueue ch s).pending = s.pending := by
  unfold dropFromQueue
  refine inOrder_keeps (fun t =>
    t.now = s.now ∧ t.held = s.held ∧ t.framerC = s.framerC ∧ t.framerD = s.framerD ∧ t.framerS = s.framerS ∧
    t.rxC = s.rxC ∧ t.rxD = s.rxD ∧ t.classTable = s.classTable ∧ t.requested = s.requested ∧ t.drive = s.drive
    ∧ t.silence = s.silence ∧ t.portD = s.portD ∧ t.standing = s.standing ∧ t.intake = s.intake ∧ t.lid = s.lid
    ∧ t.strike = s.strike ∧ t.tracker = s.tracker ∧ t.est = s.est ∧ t.weigh = s.weigh ∧ t.loadClass =
    s.loadClass ∧ t.gov = s.gov ∧ t.tables = s.tables ∧ t.spin = s.spin ∧ t.service = s.service ∧ t.limits =
    s.limits ∧ t.session = s.session ∧ t.ring = s.ring ∧ t.trip = s.trip ∧ t.requests = s.requests ∧ t.pending =
    s.pending) ?_ ?_
  · simp
  · intro f hf t h
    simp only [List.mem_cons, List.not_mem_nil, or_false] at hf
    rcases hf with rfl | rfl <;> simpa using h

/-! ### The queues -/

/-- What `offerForwardedC` leaves as it was. -/
@[simp] theorem offerForwardedC_kept (ch : Choice) (f : QFrame) (s : State) :
    (offerForwardedC ch f s).now = s.now ∧ (offerForwardedC ch f s).held = s.held ∧
    (offerForwardedC ch f s).framerC = s.framerC ∧ (offerForwardedC ch f s).framerD = s.framerD ∧
    (offerForwardedC ch f s).framerS = s.framerS ∧ (offerForwardedC ch f s).rxC = s.rxC ∧
    (offerForwardedC ch f s).rxD = s.rxD ∧ (offerForwardedC ch f s).classTable = s.classTable ∧
    (offerForwardedC ch f s).requested = s.requested ∧ (offerForwardedC ch f s).drive = s.drive ∧
    (offerForwardedC ch f s).silence = s.silence ∧ (offerForwardedC ch f s).portD = s.portD ∧
    (offerForwardedC ch f s).standing = s.standing ∧ (offerForwardedC ch f s).intake = s.intake ∧
    (offerForwardedC ch f s).lid = s.lid ∧ (offerForwardedC ch f s).strike = s.strike ∧
    (offerForwardedC ch f s).tracker = s.tracker ∧ (offerForwardedC ch f s).est = s.est ∧
    (offerForwardedC ch f s).weigh = s.weigh ∧ (offerForwardedC ch f s).loadClass = s.loadClass ∧
    (offerForwardedC ch f s).gov = s.gov ∧ (offerForwardedC ch f s).tables = s.tables ∧
    (offerForwardedC ch f s).spin = s.spin ∧ (offerForwardedC ch f s).service = s.service ∧
    (offerForwardedC ch f s).limits = s.limits ∧ (offerForwardedC ch f s).session = s.session ∧
    (offerForwardedC ch f s).ring = s.ring ∧ (offerForwardedC ch f s).trip = s.trip ∧
    (offerForwardedC ch f s).requests = s.requests ∧ (offerForwardedC ch f s).pending = s.pending := by
  unfold offerForwardedC; (repeat' split) <;> simp

/-- What `startD` leaves as it was. -/
@[simp] theorem startD_kept (s : State) :
    (startD s).now = s.now ∧ (startD s).held = s.held ∧ (startD s).framerC = s.framerC ∧
    (startD s).framerD = s.framerD ∧ (startD s).framerS = s.framerS ∧ (startD s).rxC = s.rxC ∧
    (startD s).rxD = s.rxD ∧ (startD s).classTable = s.classTable ∧ (startD s).requested = s.requested ∧
    (startD s).drive = s.drive ∧ (startD s).silence = s.silence ∧ (startD s).intake = s.intake ∧
    (startD s).lid = s.lid ∧ (startD s).strike = s.strike ∧ (startD s).tracker = s.tracker ∧
    (startD s).est = s.est ∧ (startD s).weigh = s.weigh ∧ (startD s).loadClass = s.loadClass ∧
    (startD s).gov = s.gov ∧ (startD s).tables = s.tables ∧ (startD s).spin = s.spin ∧
    (startD s).service = s.service ∧ (startD s).limits = s.limits ∧ (startD s).session = s.session ∧
    (startD s).ring = s.ring ∧ (startD s).trip = s.trip ∧ (startD s).monitor = s.monitor ∧
    (startD s).requests = s.requests ∧ (startD s).pending = s.pending := by
  unfold startD; split
  · simp
  · split <;> simp

/-- What `kickD` leaves as it was. -/
@[simp] theorem kickD_kept (s : State) :
    (kickD s).now = s.now ∧ (kickD s).held = s.held ∧ (kickD s).framerC = s.framerC ∧
    (kickD s).framerD = s.framerD ∧ (kickD s).framerS = s.framerS ∧ (kickD s).rxC = s.rxC ∧ (kickD s).rxD = s.rxD ∧
    (kickD s).classTable = s.classTable ∧ (kickD s).requested = s.requested ∧ (kickD s).drive = s.drive ∧
    (kickD s).silence = s.silence ∧ (kickD s).intake = s.intake ∧ (kickD s).lid = s.lid ∧
    (kickD s).strike = s.strike ∧ (kickD s).tracker = s.tracker ∧ (kickD s).est = s.est ∧
    (kickD s).weigh = s.weigh ∧ (kickD s).loadClass = s.loadClass ∧ (kickD s).gov = s.gov ∧
    (kickD s).tables = s.tables ∧ (kickD s).spin = s.spin ∧ (kickD s).service = s.service ∧
    (kickD s).limits = s.limits ∧ (kickD s).session = s.session ∧ (kickD s).ring = s.ring ∧
    (kickD s).trip = s.trip ∧ (kickD s).monitor = s.monitor ∧ (kickD s).requests = s.requests ∧
    (kickD s).pending = s.pending := by
  unfold kickD; (repeat' split) <;> simp

/-- What `queueRestated` leaves as it was. -/
@[simp] theorem queueRestated_kept (s : State) :
    (queueRestated s).now = s.now ∧ (queueRestated s).held = s.held ∧ (queueRestated s).framerC = s.framerC ∧
    (queueRestated s).framerD = s.framerD ∧ (queueRestated s).framerS = s.framerS ∧ (queueRestated s).rxC = s.rxC ∧
    (queueRestated s).rxD = s.rxD ∧ (queueRestated s).classTable = s.classTable ∧
    (queueRestated s).requested = s.requested ∧ (queueRestated s).drive = s.drive ∧
    (queueRestated s).silence = s.silence ∧ (queueRestated s).intake = s.intake ∧ (queueRestated s).lid = s.lid ∧
    (queueRestated s).strike = s.strike ∧ (queueRestated s).tracker = s.tracker ∧ (queueRestated s).est = s.est ∧
    (queueRestated s).weigh = s.weigh ∧ (queueRestated s).loadClass = s.loadClass ∧ (queueRestated s).gov = s.gov ∧
    (queueRestated s).tables = s.tables ∧ (queueRestated s).spin = s.spin ∧ (queueRestated s).service = s.service ∧
    (queueRestated s).limits = s.limits ∧ (queueRestated s).session = s.session ∧ (queueRestated s).ring = s.ring ∧
    (queueRestated s).trip = s.trip ∧ (queueRestated s).monitor = s.monitor ∧
    (queueRestated s).requests = s.requests ∧ (queueRestated s).pending = s.pending := by
  unfold queueRestated; (repeat' split) <;> simp

/-- What `offerDemandD` leaves as it was. -/
@[simp] theorem offerDemandD_kept (ch : Choice) (f : QFrame) (s : State) :
    (offerDemandD ch f s).now = s.now ∧ (offerDemandD ch f s).held = s.held ∧
    (offerDemandD ch f s).framerC = s.framerC ∧ (offerDemandD ch f s).framerD = s.framerD ∧
    (offerDemandD ch f s).framerS = s.framerS ∧ (offerDemandD ch f s).rxC = s.rxC ∧
    (offerDemandD ch f s).rxD = s.rxD ∧ (offerDemandD ch f s).classTable = s.classTable ∧
    (offerDemandD ch f s).requested = s.requested ∧ (offerDemandD ch f s).drive = s.drive ∧
    (offerDemandD ch f s).silence = s.silence ∧ (offerDemandD ch f s).intake = s.intake ∧
    (offerDemandD ch f s).lid = s.lid ∧ (offerDemandD ch f s).strike = s.strike ∧
    (offerDemandD ch f s).tracker = s.tracker ∧ (offerDemandD ch f s).est = s.est ∧
    (offerDemandD ch f s).weigh = s.weigh ∧ (offerDemandD ch f s).loadClass = s.loadClass ∧
    (offerDemandD ch f s).gov = s.gov ∧ (offerDemandD ch f s).tables = s.tables ∧
    (offerDemandD ch f s).spin = s.spin ∧ (offerDemandD ch f s).service = s.service ∧
    (offerDemandD ch f s).limits = s.limits ∧ (offerDemandD ch f s).session = s.session ∧
    (offerDemandD ch f s).ring = s.ring ∧ (offerDemandD ch f s).trip = s.trip ∧
    (offerDemandD ch f s).requests = s.requests ∧ (offerDemandD ch f s).pending = s.pending := by
  unfold offerDemandD; (repeat' split) <;> simp

/-- What `offerForwardedD` leaves as it was. -/
@[simp] theorem offerForwardedD_kept (ch : Choice) (f : QFrame) (s : State) :
    (offerForwardedD ch f s).now = s.now ∧ (offerForwardedD ch f s).held = s.held ∧
    (offerForwardedD ch f s).framerC = s.framerC ∧ (offerForwardedD ch f s).framerD = s.framerD ∧
    (offerForwardedD ch f s).framerS = s.framerS ∧ (offerForwardedD ch f s).rxC = s.rxC ∧
    (offerForwardedD ch f s).rxD = s.rxD ∧ (offerForwardedD ch f s).classTable = s.classTable ∧
    (offerForwardedD ch f s).requested = s.requested ∧ (offerForwardedD ch f s).drive = s.drive ∧
    (offerForwardedD ch f s).silence = s.silence ∧ (offerForwardedD ch f s).intake = s.intake ∧
    (offerForwardedD ch f s).lid = s.lid ∧ (offerForwardedD ch f s).strike = s.strike ∧
    (offerForwardedD ch f s).tracker = s.tracker ∧ (offerForwardedD ch f s).est = s.est ∧
    (offerForwardedD ch f s).weigh = s.weigh ∧ (offerForwardedD ch f s).loadClass = s.loadClass ∧
    (offerForwardedD ch f s).gov = s.gov ∧ (offerForwardedD ch f s).tables = s.tables ∧
    (offerForwardedD ch f s).spin = s.spin ∧ (offerForwardedD ch f s).service = s.service ∧
    (offerForwardedD ch f s).limits = s.limits ∧ (offerForwardedD ch f s).session = s.session ∧
    (offerForwardedD ch f s).ring = s.ring ∧ (offerForwardedD ch f s).trip = s.trip ∧
    (offerForwardedD ch f s).requests = s.requests ∧ (offerForwardedD ch f s).pending = s.pending := by
  unfold offerForwardedD; (repeat' split) <;> simp

/-! ### The governor and the weighing -/

/-- What `recompose` leaves as it was. -/
@[simp] theorem recompose_kept (s : State) :
    (recompose s).now = s.now ∧ (recompose s).held = s.held ∧ (recompose s).framerC = s.framerC ∧
    (recompose s).framerD = s.framerD ∧ (recompose s).framerS = s.framerS ∧ (recompose s).rxC = s.rxC ∧
    (recompose s).rxD = s.rxD ∧ (recompose s).classTable = s.classTable ∧ (recompose s).requested = s.requested ∧
    (recompose s).drive = s.drive ∧ (recompose s).silence = s.silence ∧ (recompose s).intake = s.intake ∧
    (recompose s).lid = s.lid ∧ (recompose s).strike = s.strike ∧ (recompose s).tracker = s.tracker ∧
    (recompose s).est = s.est ∧ (recompose s).weigh = s.weigh ∧ (recompose s).loadClass = s.loadClass ∧
    (recompose s).tables = s.tables ∧ (recompose s).spin = s.spin ∧ (recompose s).service = s.service ∧
    (recompose s).limits = s.limits ∧ (recompose s).session = s.session ∧ (recompose s).ring = s.ring ∧
    (recompose s).trip = s.trip ∧ (recompose s).monitor = s.monitor ∧ (recompose s).requests = s.requests ∧
    (recompose s).pending = s.pending := by
  unfold recompose; dsimp only; split <;> simp

/-- What `envelopeRevised` leaves as it was. -/
@[simp] theorem envelopeRevised_kept (s : State) :
    (envelopeRevised s).now = s.now ∧ (envelopeRevised s).held = s.held ∧ (envelopeRevised s).framerC = s.framerC ∧
    (envelopeRevised s).framerD = s.framerD ∧ (envelopeRevised s).framerS = s.framerS ∧
    (envelopeRevised s).rxC = s.rxC ∧ (envelopeRevised s).rxD = s.rxD ∧
    (envelopeRevised s).classTable = s.classTable ∧ (envelopeRevised s).requested = s.requested ∧
    (envelopeRevised s).drive = s.drive ∧ (envelopeRevised s).silence = s.silence ∧
    (envelopeRevised s).intake = s.intake ∧ (envelopeRevised s).lid = s.lid ∧
    (envelopeRevised s).strike = s.strike ∧ (envelopeRevised s).tracker = s.tracker ∧
    (envelopeRevised s).est = s.est ∧ (envelopeRevised s).weigh = s.weigh ∧
    (envelopeRevised s).loadClass = s.loadClass ∧ (envelopeRevised s).tables = s.tables ∧
    (envelopeRevised s).spin = s.spin ∧ (envelopeRevised s).service = s.service ∧
    (envelopeRevised s).limits = s.limits ∧ (envelopeRevised s).session = s.session ∧
    (envelopeRevised s).ring = s.ring ∧ (envelopeRevised s).trip = s.trip ∧
    (envelopeRevised s).monitor = s.monitor ∧ (envelopeRevised s).requests = s.requests ∧
    (envelopeRevised s).pending = s.pending := by
  unfold envelopeRevised; dsimp only; split <;> simp

/-- What `takeEnvelope` leaves as it was. -/
@[simp] theorem takeEnvelope_kept (entered : Bool) (s : State) :
    (takeEnvelope entered s).now = s.now ∧ (takeEnvelope entered s).held = s.held ∧
    (takeEnvelope entered s).framerC = s.framerC ∧ (takeEnvelope entered s).framerD = s.framerD ∧
    (takeEnvelope entered s).framerS = s.framerS ∧ (takeEnvelope entered s).rxC = s.rxC ∧
    (takeEnvelope entered s).rxD = s.rxD ∧ (takeEnvelope entered s).classTable = s.classTable ∧
    (takeEnvelope entered s).requested = s.requested ∧ (takeEnvelope entered s).drive = s.drive ∧
    (takeEnvelope entered s).silence = s.silence ∧ (takeEnvelope entered s).portC = s.portC ∧
    (takeEnvelope entered s).portD = s.portD ∧ (takeEnvelope entered s).standing = s.standing ∧
    (takeEnvelope entered s).intake = s.intake ∧ (takeEnvelope entered s).lid = s.lid ∧
    (takeEnvelope entered s).strike = s.strike ∧ (takeEnvelope entered s).tracker = s.tracker ∧
    (takeEnvelope entered s).est = s.est ∧ (takeEnvelope entered s).weigh = s.weigh ∧
    (takeEnvelope entered s).loadClass = s.loadClass ∧ (takeEnvelope entered s).tables = s.tables ∧
    (takeEnvelope entered s).spin = s.spin ∧ (takeEnvelope entered s).service = s.service ∧
    (takeEnvelope entered s).limits = s.limits ∧ (takeEnvelope entered s).session = s.session ∧
    (takeEnvelope entered s).ring = s.ring ∧ (takeEnvelope entered s).trip = s.trip ∧
    (takeEnvelope entered s).events = s.events ∧ (takeEnvelope entered s).monitor = s.monitor ∧
    (takeEnvelope entered s).requests = s.requests ∧ (takeEnvelope entered s).pending = s.pending := by
  simp [takeEnvelope]

/-- What `governorClose` leaves as it was. -/
@[simp] theorem governorClose_kept (entered : Bool) (s : State) :
    (governorClose entered s).now = s.now ∧ (governorClose entered s).held = s.held ∧
    (governorClose entered s).framerC = s.framerC ∧ (governorClose entered s).framerD = s.framerD ∧
    (governorClose entered s).framerS = s.framerS ∧ (governorClose entered s).rxC = s.rxC ∧
    (governorClose entered s).rxD = s.rxD ∧ (governorClose entered s).classTable = s.classTable ∧
    (governorClose entered s).requested = s.requested ∧ (governorClose entered s).drive = s.drive ∧
    (governorClose entered s).silence = s.silence ∧ (governorClose entered s).intake = s.intake ∧
    (governorClose entered s).lid = s.lid ∧ (governorClose entered s).strike = s.strike ∧
    (governorClose entered s).tracker = s.tracker ∧ (governorClose entered s).est = s.est ∧
    (governorClose entered s).weigh = s.weigh ∧ (governorClose entered s).loadClass = s.loadClass ∧
    (governorClose entered s).tables = s.tables ∧ (governorClose entered s).spin = s.spin ∧
    (governorClose entered s).service = s.service ∧ (governorClose entered s).limits = s.limits ∧
    (governorClose entered s).session = s.session ∧ (governorClose entered s).ring = s.ring ∧
    (governorClose entered s).trip = s.trip ∧ (governorClose entered s).monitor = s.monitor ∧
    (governorClose entered s).requests = s.requests ∧ (governorClose entered s).pending = s.pending := by
  simp [governorClose]

/-- What `setLoadClass` leaves as it was. -/
@[simp] theorem setLoadClass_kept (c : Nat) (s : State) :
    (setLoadClass c s).now = s.now ∧ (setLoadClass c s).held = s.held ∧ (setLoadClass c s).framerC = s.framerC ∧
    (setLoadClass c s).framerD = s.framerD ∧ (setLoadClass c s).framerS = s.framerS ∧
    (setLoadClass c s).rxC = s.rxC ∧ (setLoadClass c s).rxD = s.rxD ∧ (setLoadClass c s).classTable = s.classTable ∧
    (setLoadClass c s).requested = s.requested ∧ (setLoadClass c s).drive = s.drive ∧
    (setLoadClass c s).silence = s.silence ∧ (setLoadClass c s).intake = s.intake ∧ (setLoadClass c s).lid = s.lid ∧
    (setLoadClass c s).strike = s.strike ∧ (setLoadClass c s).tracker = s.tracker ∧ (setLoadClass c s).est = s.est ∧
    (setLoadClass c s).weigh = s.weigh ∧ (setLoadClass c s).tables = s.tables ∧ (setLoadClass c s).spin = s.spin ∧
    (setLoadClass c s).service = s.service ∧ (setLoadClass c s).limits = s.limits ∧
    (setLoadClass c s).session = s.session ∧ (setLoadClass c s).ring = s.ring ∧ (setLoadClass c s).trip = s.trip ∧
    (setLoadClass c s).monitor = s.monitor ∧ (setLoadClass c s).requests = s.requests ∧
    (setLoadClass c s).pending = s.pending := by
  unfold setLoadClass; (repeat' split) <;> simp

/-- What `armWeighing` leaves as it was. -/
@[simp] theorem armWeighing_kept (s : State) :
    (armWeighing s).now = s.now ∧ (armWeighing s).held = s.held ∧ (armWeighing s).framerC = s.framerC ∧
    (armWeighing s).framerD = s.framerD ∧ (armWeighing s).framerS = s.framerS ∧ (armWeighing s).rxC = s.rxC ∧
    (armWeighing s).rxD = s.rxD ∧ (armWeighing s).classTable = s.classTable ∧
    (armWeighing s).requested = s.requested ∧ (armWeighing s).drive = s.drive ∧
    (armWeighing s).silence = s.silence ∧ (armWeighing s).intake = s.intake ∧ (armWeighing s).lid = s.lid ∧
    (armWeighing s).strike = s.strike ∧ (armWeighing s).tracker = s.tracker ∧ (armWeighing s).est = s.est ∧
    (armWeighing s).tables = s.tables ∧ (armWeighing s).spin = s.spin ∧ (armWeighing s).service = s.service ∧
    (armWeighing s).limits = s.limits ∧ (armWeighing s).session = s.session ∧ (armWeighing s).ring = s.ring ∧
    (armWeighing s).trip = s.trip ∧ (armWeighing s).monitor = s.monitor ∧ (armWeighing s).requests = s.requests ∧
    (armWeighing s).pending = s.pending := by
  simp [armWeighing]

/-- What `failWeighing` leaves as it was. -/
@[simp] theorem failWeighing_kept (s : State) :
    (failWeighing s).now = s.now ∧ (failWeighing s).held = s.held ∧ (failWeighing s).framerC = s.framerC ∧
    (failWeighing s).framerD = s.framerD ∧ (failWeighing s).framerS = s.framerS ∧ (failWeighing s).rxC = s.rxC ∧
    (failWeighing s).rxD = s.rxD ∧ (failWeighing s).classTable = s.classTable ∧
    (failWeighing s).requested = s.requested ∧ (failWeighing s).drive = s.drive ∧
    (failWeighing s).silence = s.silence ∧ (failWeighing s).intake = s.intake ∧ (failWeighing s).lid = s.lid ∧
    (failWeighing s).strike = s.strike ∧ (failWeighing s).tracker = s.tracker ∧ (failWeighing s).est = s.est ∧
    (failWeighing s).tables = s.tables ∧ (failWeighing s).spin = s.spin ∧ (failWeighing s).service = s.service ∧
    (failWeighing s).limits = s.limits ∧ (failWeighing s).session = s.session ∧ (failWeighing s).ring = s.ring ∧
    (failWeighing s).trip = s.trip ∧ (failWeighing s).monitor = s.monitor ∧ (failWeighing s).requests = s.requests ∧
    (failWeighing s).pending = s.pending := by
  simp [failWeighing]

/-- What `endWeighing` leaves as it was. -/
@[simp] theorem endWeighing_kept (s : State) :
    (endWeighing s).now = s.now ∧ (endWeighing s).held = s.held ∧ (endWeighing s).framerC = s.framerC ∧
    (endWeighing s).framerD = s.framerD ∧ (endWeighing s).framerS = s.framerS ∧ (endWeighing s).rxC = s.rxC ∧
    (endWeighing s).rxD = s.rxD ∧ (endWeighing s).classTable = s.classTable ∧
    (endWeighing s).requested = s.requested ∧ (endWeighing s).drive = s.drive ∧
    (endWeighing s).silence = s.silence ∧ (endWeighing s).intake = s.intake ∧ (endWeighing s).lid = s.lid ∧
    (endWeighing s).strike = s.strike ∧ (endWeighing s).tracker = s.tracker ∧ (endWeighing s).est = s.est ∧
    (endWeighing s).tables = s.tables ∧ (endWeighing s).spin = s.spin ∧ (endWeighing s).service = s.service ∧
    (endWeighing s).limits = s.limits ∧ (endWeighing s).session = s.session ∧ (endWeighing s).ring = s.ring ∧
    (endWeighing s).trip = s.trip ∧ (endWeighing s).monitor = s.monitor ∧ (endWeighing s).requests = s.requests ∧
    (endWeighing s).pending = s.pending := by
  unfold endWeighing; dsimp only; (repeat' split) <;> simp

/-- What `abandonWeighing` leaves as it was. -/
@[simp] theorem abandonWeighing_kept (s : State) :
    (abandonWeighing s).now = s.now ∧ (abandonWeighing s).held = s.held ∧ (abandonWeighing s).framerC = s.framerC ∧
    (abandonWeighing s).framerD = s.framerD ∧ (abandonWeighing s).framerS = s.framerS ∧
    (abandonWeighing s).rxC = s.rxC ∧ (abandonWeighing s).rxD = s.rxD ∧
    (abandonWeighing s).classTable = s.classTable ∧ (abandonWeighing s).requested = s.requested ∧
    (abandonWeighing s).drive = s.drive ∧ (abandonWeighing s).silence = s.silence ∧
    (abandonWeighing s).intake = s.intake ∧ (abandonWeighing s).lid = s.lid ∧
    (abandonWeighing s).strike = s.strike ∧ (abandonWeighing s).tracker = s.tracker ∧
    (abandonWeighing s).est = s.est ∧ (abandonWeighing s).tables = s.tables ∧ (abandonWeighing s).spin = s.spin ∧
    (abandonWeighing s).service = s.service ∧ (abandonWeighing s).limits = s.limits ∧
    (abandonWeighing s).session = s.session ∧ (abandonWeighing s).ring = s.ring ∧
    (abandonWeighing s).trip = s.trip ∧ (abandonWeighing s).monitor = s.monitor ∧
    (abandonWeighing s).requests = s.requests ∧ (abandonWeighing s).pending = s.pending := by
  unfold abandonWeighing; (repeat' split) <;> simp

/-- What `examineStatus` leaves as it was. -/
@[simp] theorem examineStatus_kept (s : State) :
    (examineStatus s).now = s.now ∧ (examineStatus s).held = s.held ∧ (examineStatus s).framerC = s.framerC ∧
    (examineStatus s).framerD = s.framerD ∧ (examineStatus s).framerS = s.framerS ∧ (examineStatus s).rxC = s.rxC ∧
    (examineStatus s).rxD = s.rxD ∧ (examineStatus s).classTable = s.classTable ∧
    (examineStatus s).requested = s.requested ∧ (examineStatus s).drive = s.drive ∧
    (examineStatus s).silence = s.silence ∧ (examineStatus s).intake = s.intake ∧ (examineStatus s).lid = s.lid ∧
    (examineStatus s).strike = s.strike ∧ (examineStatus s).tracker = s.tracker ∧ (examineStatus s).est = s.est ∧
    (examineStatus s).tables = s.tables ∧ (examineStatus s).spin = s.spin ∧ (examineStatus s).service = s.service ∧
    (examineStatus s).limits = s.limits ∧ (examineStatus s).session = s.session ∧ (examineStatus s).ring = s.ring ∧
    (examineStatus s).trip = s.trip ∧ (examineStatus s).monitor = s.monitor ∧
    (examineStatus s).requests = s.requests ∧ (examineStatus s).pending = s.pending := by
  unfold examineStatus; (repeat' split) <;> simp

/-! ### The ring -/

/-- What `ringEnd` leaves as it was. -/
@[simp] theorem ringEnd_kept (o : InjOutcome) (s : State) :
    (ringEnd o s).now = s.now ∧ (ringEnd o s).held = s.held ∧ (ringEnd o s).framerC = s.framerC ∧
    (ringEnd o s).framerD = s.framerD ∧ (ringEnd o s).framerS = s.framerS ∧ (ringEnd o s).rxC = s.rxC ∧
    (ringEnd o s).rxD = s.rxD ∧ (ringEnd o s).classTable = s.classTable ∧ (ringEnd o s).requested = s.requested ∧
    (ringEnd o s).drive = s.drive ∧ (ringEnd o s).silence = s.silence ∧ (ringEnd o s).portC = s.portC ∧
    (ringEnd o s).portD = s.portD ∧ (ringEnd o s).standing = s.standing ∧ (ringEnd o s).intake = s.intake ∧
    (ringEnd o s).lid = s.lid ∧ (ringEnd o s).strike = s.strike ∧ (ringEnd o s).tracker = s.tracker ∧
    (ringEnd o s).est = s.est ∧ (ringEnd o s).weigh = s.weigh ∧ (ringEnd o s).loadClass = s.loadClass ∧
    (ringEnd o s).gov = s.gov ∧ (ringEnd o s).tables = s.tables ∧ (ringEnd o s).spin = s.spin ∧
    (ringEnd o s).service = s.service ∧ (ringEnd o s).limits = s.limits ∧ (ringEnd o s).session = s.session ∧
    (ringEnd o s).trip = s.trip ∧ (ringEnd o s).events = s.events ∧ (ringEnd o s).monitor = s.monitor ∧
    (ringEnd o s).requests = s.requests ∧ (ringEnd o s).pending = s.pending := by
  simp [ringEnd]

/-- What `ringAbort` leaves as it was. -/
@[simp] theorem ringAbort_kept (s : State) :
    (ringAbort s).now = s.now ∧ (ringAbort s).held = s.held ∧ (ringAbort s).framerC = s.framerC ∧
    (ringAbort s).framerD = s.framerD ∧ (ringAbort s).framerS = s.framerS ∧ (ringAbort s).rxC = s.rxC ∧
    (ringAbort s).rxD = s.rxD ∧ (ringAbort s).classTable = s.classTable ∧ (ringAbort s).requested = s.requested ∧
    (ringAbort s).drive = s.drive ∧ (ringAbort s).silence = s.silence ∧ (ringAbort s).portC = s.portC ∧
    (ringAbort s).portD = s.portD ∧ (ringAbort s).standing = s.standing ∧ (ringAbort s).intake = s.intake ∧
    (ringAbort s).lid = s.lid ∧ (ringAbort s).strike = s.strike ∧ (ringAbort s).tracker = s.tracker ∧
    (ringAbort s).est = s.est ∧ (ringAbort s).weigh = s.weigh ∧ (ringAbort s).loadClass = s.loadClass ∧
    (ringAbort s).gov = s.gov ∧ (ringAbort s).tables = s.tables ∧ (ringAbort s).spin = s.spin ∧
    (ringAbort s).service = s.service ∧ (ringAbort s).limits = s.limits ∧ (ringAbort s).session = s.session ∧
    (ringAbort s).trip = s.trip ∧ (ringAbort s).events = s.events ∧ (ringAbort s).monitor = s.monitor ∧
    (ringAbort s).requests = s.requests ∧ (ringAbort s).pending = s.pending := by
  unfold ringAbort; (repeat' split) <;> simp

/-- What `startInjection` leaves as it was. -/
@[simp] theorem startInjection_kept (c : Fin 4) (w : Nat) (s : State) :
    (startInjection c w s).now = s.now ∧ (startInjection c w s).held = s.held ∧
    (startInjection c w s).framerC = s.framerC ∧ (startInjection c w s).framerD = s.framerD ∧
    (startInjection c w s).framerS = s.framerS ∧ (startInjection c w s).rxC = s.rxC ∧
    (startInjection c w s).rxD = s.rxD ∧ (startInjection c w s).classTable = s.classTable ∧
    (startInjection c w s).requested = s.requested ∧ (startInjection c w s).drive = s.drive ∧
    (startInjection c w s).silence = s.silence ∧ (startInjection c w s).portC = s.portC ∧
    (startInjection c w s).portD = s.portD ∧ (startInjection c w s).standing = s.standing ∧
    (startInjection c w s).intake = s.intake ∧ (startInjection c w s).lid = s.lid ∧
    (startInjection c w s).strike = s.strike ∧ (startInjection c w s).tracker = s.tracker ∧
    (startInjection c w s).est = s.est ∧ (startInjection c w s).weigh = s.weigh ∧
    (startInjection c w s).loadClass = s.loadClass ∧ (startInjection c w s).gov = s.gov ∧
    (startInjection c w s).tables = s.tables ∧ (startInjection c w s).spin = s.spin ∧
    (startInjection c w s).service = s.service ∧ (startInjection c w s).limits = s.limits ∧
    (startInjection c w s).session = s.session ∧ (startInjection c w s).trip = s.trip ∧
    (startInjection c w s).events = s.events ∧ (startInjection c w s).monitor = s.monitor ∧
    (startInjection c w s).requests = s.requests ∧ (startInjection c w s).pending = s.pending := by
  simp [startInjection]

/-- What `updateLead` leaves as it was. -/
@[simp] theorem updateLead_kept (s : State) :
    (updateLead s).now = s.now ∧ (updateLead s).held = s.held ∧ (updateLead s).framerC = s.framerC ∧
    (updateLead s).framerD = s.framerD ∧ (updateLead s).framerS = s.framerS ∧ (updateLead s).rxC = s.rxC ∧
    (updateLead s).rxD = s.rxD ∧ (updateLead s).classTable = s.classTable ∧ (updateLead s).requested = s.requested ∧
    (updateLead s).drive = s.drive ∧ (updateLead s).silence = s.silence ∧ (updateLead s).portC = s.portC ∧
    (updateLead s).portD = s.portD ∧ (updateLead s).standing = s.standing ∧ (updateLead s).intake = s.intake ∧
    (updateLead s).lid = s.lid ∧ (updateLead s).strike = s.strike ∧ (updateLead s).tracker = s.tracker ∧
    (updateLead s).est = s.est ∧ (updateLead s).weigh = s.weigh ∧ (updateLead s).loadClass = s.loadClass ∧
    (updateLead s).gov = s.gov ∧ (updateLead s).tables = s.tables ∧ (updateLead s).spin = s.spin ∧
    (updateLead s).service = s.service ∧ (updateLead s).limits = s.limits ∧ (updateLead s).session = s.session ∧
    (updateLead s).trip = s.trip ∧ (updateLead s).events = s.events ∧ (updateLead s).monitor = s.monitor ∧
    (updateLead s).requests = s.requests ∧ (updateLead s).pending = s.pending := by
  unfold updateLead; (repeat' split) <;> simp

/-- What `creditActive` leaves as it was. -/
@[simp] theorem creditActive_kept (s : State) :
    (creditActive s).now = s.now ∧ (creditActive s).held = s.held ∧ (creditActive s).framerC = s.framerC ∧
    (creditActive s).framerD = s.framerD ∧ (creditActive s).framerS = s.framerS ∧ (creditActive s).rxC = s.rxC ∧
    (creditActive s).rxD = s.rxD ∧ (creditActive s).classTable = s.classTable ∧
    (creditActive s).requested = s.requested ∧ (creditActive s).drive = s.drive ∧
    (creditActive s).silence = s.silence ∧ (creditActive s).portD = s.portD ∧
    (creditActive s).standing = s.standing ∧ (creditActive s).intake = s.intake ∧ (creditActive s).lid = s.lid ∧
    (creditActive s).strike = s.strike ∧ (creditActive s).tracker = s.tracker ∧ (creditActive s).est = s.est ∧
    (creditActive s).weigh = s.weigh ∧ (creditActive s).loadClass = s.loadClass ∧ (creditActive s).gov = s.gov ∧
    (creditActive s).tables = s.tables ∧ (creditActive s).spin = s.spin ∧ (creditActive s).service = s.service ∧
    (creditActive s).limits = s.limits ∧ (creditActive s).session = s.session ∧ (creditActive s).trip = s.trip ∧
    (creditActive s).monitor = s.monitor ∧ (creditActive s).requests = s.requests ∧
    (creditActive s).pending = s.pending := by
  simp [creditActive]

/-- What `creditTail` leaves as it was. -/
@[simp] theorem creditTail_kept (s : State) :
    (creditTail s).now = s.now ∧ (creditTail s).held = s.held ∧ (creditTail s).framerC = s.framerC ∧
    (creditTail s).framerD = s.framerD ∧ (creditTail s).framerS = s.framerS ∧ (creditTail s).rxC = s.rxC ∧
    (creditTail s).rxD = s.rxD ∧ (creditTail s).classTable = s.classTable ∧ (creditTail s).requested = s.requested ∧
    (creditTail s).drive = s.drive ∧ (creditTail s).silence = s.silence ∧ (creditTail s).portD = s.portD ∧
    (creditTail s).standing = s.standing ∧ (creditTail s).intake = s.intake ∧ (creditTail s).lid = s.lid ∧
    (creditTail s).strike = s.strike ∧ (creditTail s).tracker = s.tracker ∧ (creditTail s).est = s.est ∧
    (creditTail s).weigh = s.weigh ∧ (creditTail s).loadClass = s.loadClass ∧ (creditTail s).gov = s.gov ∧
    (creditTail s).tables = s.tables ∧ (creditTail s).spin = s.spin ∧ (creditTail s).service = s.service ∧
    (creditTail s).limits = s.limits ∧ (creditTail s).session = s.session ∧ (creditTail s).trip = s.trip ∧
    (creditTail s).monitor = s.monitor ∧ (creditTail s).requests = s.requests ∧ (creditTail s).pending = s.pending := by
  simp [creditTail]

/-- What `strayPulse` leaves as it was. -/
@[simp] theorem strayPulse_kept (s : State) :
    (strayPulse s).now = s.now ∧ (strayPulse s).held = s.held ∧ (strayPulse s).framerC = s.framerC ∧
    (strayPulse s).framerD = s.framerD ∧ (strayPulse s).framerS = s.framerS ∧ (strayPulse s).rxC = s.rxC ∧
    (strayPulse s).rxD = s.rxD ∧ (strayPulse s).classTable = s.classTable ∧ (strayPulse s).requested = s.requested ∧
    (strayPulse s).drive = s.drive ∧ (strayPulse s).silence = s.silence ∧ (strayPulse s).portD = s.portD ∧
    (strayPulse s).standing = s.standing ∧ (strayPulse s).intake = s.intake ∧ (strayPulse s).lid = s.lid ∧
    (strayPulse s).strike = s.strike ∧ (strayPulse s).tracker = s.tracker ∧ (strayPulse s).est = s.est ∧
    (strayPulse s).weigh = s.weigh ∧ (strayPulse s).loadClass = s.loadClass ∧ (strayPulse s).gov = s.gov ∧
    (strayPulse s).tables = s.tables ∧ (strayPulse s).spin = s.spin ∧ (strayPulse s).service = s.service ∧
    (strayPulse s).limits = s.limits ∧ (strayPulse s).session = s.session ∧ (strayPulse s).trip = s.trip ∧
    (strayPulse s).monitor = s.monitor ∧ (strayPulse s).requests = s.requests ∧ (strayPulse s).pending = s.pending := by
  unfold strayPulse; (repeat' split) <;> simp

/-- What `judgeBleed` leaves as it was. -/
@[simp] theorem judgeBleed_kept (s : State) :
    (judgeBleed s).now = s.now ∧ (judgeBleed s).held = s.held ∧ (judgeBleed s).framerC = s.framerC ∧
    (judgeBleed s).framerD = s.framerD ∧ (judgeBleed s).framerS = s.framerS ∧ (judgeBleed s).rxC = s.rxC ∧
    (judgeBleed s).rxD = s.rxD ∧ (judgeBleed s).classTable = s.classTable ∧ (judgeBleed s).requested = s.requested ∧
    (judgeBleed s).drive = s.drive ∧ (judgeBleed s).silence = s.silence ∧ (judgeBleed s).portC = s.portC ∧
    (judgeBleed s).portD = s.portD ∧ (judgeBleed s).standing = s.standing ∧ (judgeBleed s).intake = s.intake ∧
    (judgeBleed s).lid = s.lid ∧ (judgeBleed s).strike = s.strike ∧ (judgeBleed s).tracker = s.tracker ∧
    (judgeBleed s).est = s.est ∧ (judgeBleed s).weigh = s.weigh ∧ (judgeBleed s).loadClass = s.loadClass ∧
    (judgeBleed s).gov = s.gov ∧ (judgeBleed s).tables = s.tables ∧ (judgeBleed s).spin = s.spin ∧
    (judgeBleed s).service = s.service ∧ (judgeBleed s).limits = s.limits ∧ (judgeBleed s).session = s.session ∧
    (judgeBleed s).trip = s.trip ∧ (judgeBleed s).events = s.events ∧ (judgeBleed s).monitor = s.monitor ∧
    (judgeBleed s).requests = s.requests ∧ (judgeBleed s).pending = s.pending := by
  simp [judgeBleed]

/-- What `bleedOnce` leaves as it was. -/
@[simp] theorem bleedOnce_kept (s : State) :
    (bleedOnce s).now = s.now ∧ (bleedOnce s).held = s.held ∧ (bleedOnce s).framerC = s.framerC ∧
    (bleedOnce s).framerD = s.framerD ∧ (bleedOnce s).framerS = s.framerS ∧ (bleedOnce s).rxC = s.rxC ∧
    (bleedOnce s).rxD = s.rxD ∧ (bleedOnce s).classTable = s.classTable ∧ (bleedOnce s).requested = s.requested ∧
    (bleedOnce s).drive = s.drive ∧ (bleedOnce s).silence = s.silence ∧ (bleedOnce s).portD = s.portD ∧
    (bleedOnce s).standing = s.standing ∧ (bleedOnce s).intake = s.intake ∧ (bleedOnce s).lid = s.lid ∧
    (bleedOnce s).strike = s.strike ∧ (bleedOnce s).tracker = s.tracker ∧ (bleedOnce s).est = s.est ∧
    (bleedOnce s).weigh = s.weigh ∧ (bleedOnce s).loadClass = s.loadClass ∧ (bleedOnce s).gov = s.gov ∧
    (bleedOnce s).tables = s.tables ∧ (bleedOnce s).spin = s.spin ∧ (bleedOnce s).service = s.service ∧
    (bleedOnce s).limits = s.limits ∧ (bleedOnce s).session = s.session ∧ (bleedOnce s).trip = s.trip ∧
    (bleedOnce s).monitor = s.monitor ∧ (bleedOnce s).requests = s.requests ∧ (bleedOnce s).pending = s.pending := by
  simp [bleedOnce]

/-! ### The session -/

/-- What `withSession` leaves as it was. -/
@[simp] theorem withSession_kept (st : SessionState) (s : State) :
    (withSession st s).now = s.now ∧ (withSession st s).held = s.held ∧ (withSession st s).framerC = s.framerC ∧
    (withSession st s).framerD = s.framerD ∧ (withSession st s).framerS = s.framerS ∧
    (withSession st s).rxC = s.rxC ∧ (withSession st s).rxD = s.rxD ∧ (withSession st s).classTable = s.classTable ∧
    (withSession st s).requested = s.requested ∧ (withSession st s).drive = s.drive ∧
    (withSession st s).silence = s.silence ∧ (withSession st s).portC = s.portC ∧
    (withSession st s).portD = s.portD ∧ (withSession st s).standing = s.standing ∧
    (withSession st s).intake = s.intake ∧ (withSession st s).lid = s.lid ∧ (withSession st s).strike = s.strike ∧
    (withSession st s).tracker = s.tracker ∧ (withSession st s).est = s.est ∧ (withSession st s).weigh = s.weigh ∧
    (withSession st s).loadClass = s.loadClass ∧ (withSession st s).gov = s.gov ∧
    (withSession st s).tables = s.tables ∧ (withSession st s).spin = s.spin ∧
    (withSession st s).service = s.service ∧ (withSession st s).limits = s.limits ∧
    (withSession st s).ring = s.ring ∧ (withSession st s).trip = s.trip ∧ (withSession st s).events = s.events ∧
    (withSession st s).monitor = s.monitor ∧ (withSession st s).requests = s.requests ∧
    (withSession st s).pending = s.pending := by
  simp [withSession]

/-- What `setSession` leaves as it was. -/
@[simp] theorem setSession_kept (ch : Choice) (st : SessionState) (s : State) :
    (setSession ch st s).now = s.now ∧ (setSession ch st s).held = s.held ∧
    (setSession ch st s).framerC = s.framerC ∧ (setSession ch st s).framerD = s.framerD ∧
    (setSession ch st s).framerS = s.framerS ∧ (setSession ch st s).rxC = s.rxC ∧ (setSession ch st s).rxD = s.rxD ∧
    (setSession ch st s).classTable = s.classTable ∧ (setSession ch st s).requested = s.requested ∧
    (setSession ch st s).drive = s.drive ∧ (setSession ch st s).silence = s.silence ∧
    (setSession ch st s).intake = s.intake ∧ (setSession ch st s).lid = s.lid ∧
    (setSession ch st s).strike = s.strike ∧ (setSession ch st s).tracker = s.tracker ∧
    (setSession ch st s).est = s.est ∧ (setSession ch st s).weigh = s.weigh ∧
    (setSession ch st s).loadClass = s.loadClass ∧ (setSession ch st s).tables = s.tables ∧
    (setSession ch st s).spin = s.spin ∧ (setSession ch st s).service = s.service ∧
    (setSession ch st s).limits = s.limits ∧ (setSession ch st s).ring = s.ring ∧
    (setSession ch st s).trip = s.trip ∧ (setSession ch st s).monitor = s.monitor ∧
    (setSession ch st s).requests = s.requests ∧ (setSession ch st s).pending = s.pending := by
  unfold setSession
  refine inOrder_keeps (fun t =>
    t.now = s.now ∧ t.held = s.held ∧ t.framerC = s.framerC ∧ t.framerD = s.framerD ∧ t.framerS = s.framerS ∧
    t.rxC = s.rxC ∧ t.rxD = s.rxD ∧ t.classTable = s.classTable ∧ t.requested = s.requested ∧ t.drive = s.drive
    ∧ t.silence = s.silence ∧ t.intake = s.intake ∧ t.lid = s.lid ∧ t.strike = s.strike ∧ t.tracker = s.tracker
    ∧ t.est = s.est ∧ t.weigh = s.weigh ∧ t.loadClass = s.loadClass ∧ t.tables = s.tables ∧ t.spin = s.spin ∧
    t.service = s.service ∧ t.limits = s.limits ∧ t.ring = s.ring ∧ t.trip = s.trip ∧ t.monitor = s.monitor ∧
    t.requests = s.requests ∧ t.pending = s.pending) ?_ ?_
  · simp
  · intro f hf t h
    simp only [sessionEvents, List.cons_append, List.nil_append, List.mem_cons, List.not_mem_nil, or_false] at hf
    rcases hf with rfl | rfl | rfl <;> simpa using h

/-- What `enterIdle` leaves as it was. -/
@[simp] theorem enterIdle_kept (ch : Choice) (s : State) :
    (enterIdle ch s).now = s.now ∧ (enterIdle ch s).held = s.held ∧ (enterIdle ch s).framerC = s.framerC ∧
    (enterIdle ch s).framerD = s.framerD ∧ (enterIdle ch s).framerS = s.framerS ∧ (enterIdle ch s).rxC = s.rxC ∧
    (enterIdle ch s).rxD = s.rxD ∧ (enterIdle ch s).classTable = s.classTable ∧
    (enterIdle ch s).requested = s.requested ∧ (enterIdle ch s).drive = s.drive ∧
    (enterIdle ch s).silence = s.silence ∧ (enterIdle ch s).intake = s.intake ∧ (enterIdle ch s).lid = s.lid ∧
    (enterIdle ch s).strike = s.strike ∧ (enterIdle ch s).tracker = s.tracker ∧ (enterIdle ch s).est = s.est ∧
    (enterIdle ch s).weigh = s.weigh ∧ (enterIdle ch s).loadClass = s.loadClass ∧
    (enterIdle ch s).tables = s.tables ∧ (enterIdle ch s).spin = s.spin ∧ (enterIdle ch s).service = s.service ∧
    (enterIdle ch s).limits = s.limits ∧ (enterIdle ch s).ring = s.ring ∧ (enterIdle ch s).trip = s.trip ∧
    (enterIdle ch s).monitor = s.monitor ∧ (enterIdle ch s).requests = s.requests ∧
    (enterIdle ch s).pending = s.pending := by
  simp [enterIdle]

/-- What `retainCheck` leaves as it was. -/
@[simp] theorem retainCheck_kept (ch : Choice) (s : State) :
    (retainCheck ch s).now = s.now ∧ (retainCheck ch s).held = s.held ∧ (retainCheck ch s).framerC = s.framerC ∧
    (retainCheck ch s).framerD = s.framerD ∧ (retainCheck ch s).framerS = s.framerS ∧
    (retainCheck ch s).rxC = s.rxC ∧ (retainCheck ch s).rxD = s.rxD ∧ (retainCheck ch s).classTable = s.classTable ∧
    (retainCheck ch s).requested = s.requested ∧ (retainCheck ch s).drive = s.drive ∧
    (retainCheck ch s).silence = s.silence ∧ (retainCheck ch s).intake = s.intake ∧ (retainCheck ch s).lid = s.lid ∧
    (retainCheck ch s).strike = s.strike ∧ (retainCheck ch s).tracker = s.tracker ∧ (retainCheck ch s).est = s.est ∧
    (retainCheck ch s).weigh = s.weigh ∧ (retainCheck ch s).loadClass = s.loadClass ∧
    (retainCheck ch s).tables = s.tables ∧ (retainCheck ch s).spin = s.spin ∧
    (retainCheck ch s).service = s.service ∧ (retainCheck ch s).limits = s.limits ∧
    (retainCheck ch s).ring = s.ring ∧ (retainCheck ch s).trip = s.trip ∧ (retainCheck ch s).monitor = s.monitor ∧
    (retainCheck ch s).requests = s.requests ∧ (retainCheck ch s).pending = s.pending := by
  unfold retainCheck; (repeat' split) <;> simp

/-- What `enterDwell` leaves as it was. -/
@[simp] theorem enterDwell_kept (ch : Choice) (s : State) :
    (enterDwell ch s).now = s.now ∧ (enterDwell ch s).held = s.held ∧ (enterDwell ch s).framerC = s.framerC ∧
    (enterDwell ch s).framerD = s.framerD ∧ (enterDwell ch s).framerS = s.framerS ∧ (enterDwell ch s).rxC = s.rxC ∧
    (enterDwell ch s).rxD = s.rxD ∧ (enterDwell ch s).classTable = s.classTable ∧
    (enterDwell ch s).requested = s.requested ∧ (enterDwell ch s).drive = s.drive ∧
    (enterDwell ch s).silence = s.silence ∧ (enterDwell ch s).intake = s.intake ∧ (enterDwell ch s).lid = s.lid ∧
    (enterDwell ch s).strike = s.strike ∧ (enterDwell ch s).tracker = s.tracker ∧ (enterDwell ch s).est = s.est ∧
    (enterDwell ch s).tables = s.tables ∧ (enterDwell ch s).spin = s.spin ∧ (enterDwell ch s).service = s.service ∧
    (enterDwell ch s).limits = s.limits ∧ (enterDwell ch s).ring = s.ring ∧ (enterDwell ch s).trip = s.trip ∧
    (enterDwell ch s).monitor = s.monitor ∧ (enterDwell ch s).requests = s.requests ∧
    (enterDwell ch s).pending = s.pending := by
  simp [enterDwell]

/-- What `climbCheck` leaves as it was. -/
@[simp] theorem climbCheck_kept (ch : Choice) (s : State) :
    (climbCheck ch s).now = s.now ∧ (climbCheck ch s).held = s.held ∧ (climbCheck ch s).framerC = s.framerC ∧
    (climbCheck ch s).framerD = s.framerD ∧ (climbCheck ch s).framerS = s.framerS ∧ (climbCheck ch s).rxC = s.rxC ∧
    (climbCheck ch s).rxD = s.rxD ∧ (climbCheck ch s).classTable = s.classTable ∧
    (climbCheck ch s).requested = s.requested ∧ (climbCheck ch s).drive = s.drive ∧
    (climbCheck ch s).silence = s.silence ∧ (climbCheck ch s).intake = s.intake ∧ (climbCheck ch s).lid = s.lid ∧
    (climbCheck ch s).strike = s.strike ∧ (climbCheck ch s).tracker = s.tracker ∧ (climbCheck ch s).est = s.est ∧
    (climbCheck ch s).tables = s.tables ∧ (climbCheck ch s).spin = s.spin ∧ (climbCheck ch s).service = s.service ∧
    (climbCheck ch s).limits = s.limits ∧ (climbCheck ch s).ring = s.ring ∧ (climbCheck ch s).trip = s.trip ∧
    (climbCheck ch s).monitor = s.monitor ∧ (climbCheck ch s).requests = s.requests ∧
    (climbCheck ch s).pending = s.pending := by
  unfold climbCheck; (repeat' split) <;> simp

/-- What `enterClimb` leaves as it was. -/
@[simp] theorem enterClimb_kept (ch : Choice) (s : State) :
    (enterClimb ch s).now = s.now ∧ (enterClimb ch s).held = s.held ∧ (enterClimb ch s).framerC = s.framerC ∧
    (enterClimb ch s).framerD = s.framerD ∧ (enterClimb ch s).framerS = s.framerS ∧ (enterClimb ch s).rxC = s.rxC ∧
    (enterClimb ch s).rxD = s.rxD ∧ (enterClimb ch s).classTable = s.classTable ∧
    (enterClimb ch s).requested = s.requested ∧ (enterClimb ch s).drive = s.drive ∧
    (enterClimb ch s).silence = s.silence ∧ (enterClimb ch s).intake = s.intake ∧ (enterClimb ch s).lid = s.lid ∧
    (enterClimb ch s).strike = s.strike ∧ (enterClimb ch s).tracker = s.tracker ∧ (enterClimb ch s).est = s.est ∧
    (enterClimb ch s).tables = s.tables ∧ (enterClimb ch s).spin = s.spin ∧ (enterClimb ch s).service = s.service ∧
    (enterClimb ch s).limits = s.limits ∧ (enterClimb ch s).ring = s.ring ∧ (enterClimb ch s).trip = s.trip ∧
    (enterClimb ch s).monitor = s.monitor ∧ (enterClimb ch s).requests = s.requests ∧
    (enterClimb ch s).pending = s.pending := by
  unfold enterClimb
  refine inOrder_keeps (fun t =>
    t.now = s.now ∧ t.held = s.held ∧ t.framerC = s.framerC ∧ t.framerD = s.framerD ∧ t.framerS = s.framerS ∧
    t.rxC = s.rxC ∧ t.rxD = s.rxD ∧ t.classTable = s.classTable ∧ t.requested = s.requested ∧ t.drive = s.drive
    ∧ t.silence = s.silence ∧ t.intake = s.intake ∧ t.lid = s.lid ∧ t.strike = s.strike ∧ t.tracker = s.tracker
    ∧ t.est = s.est ∧ t.tables = s.tables ∧ t.spin = s.spin ∧ t.service = s.service ∧ t.limits = s.limits ∧
    t.ring = s.ring ∧ t.trip = s.trip ∧ t.monitor = s.monitor ∧ t.requests = s.requests ∧ t.pending = s.pending) ?_ ?_
  · simp
  · intro f hf t h
    simp only [sessionEvents, List.cons_append, List.nil_append, List.mem_cons, List.not_mem_nil, or_false] at hf
    rcases hf with rfl | rfl | rfl | rfl <;> simpa using h

/-- What `enterOpen` leaves as it was. -/
@[simp] theorem enterOpen_kept (ch : Choice) (s : State) :
    (enterOpen ch s).now = s.now ∧ (enterOpen ch s).held = s.held ∧ (enterOpen ch s).framerC = s.framerC ∧
    (enterOpen ch s).framerD = s.framerD ∧ (enterOpen ch s).framerS = s.framerS ∧ (enterOpen ch s).rxC = s.rxC ∧
    (enterOpen ch s).rxD = s.rxD ∧ (enterOpen ch s).classTable = s.classTable ∧
    (enterOpen ch s).requested = s.requested ∧ (enterOpen ch s).drive = s.drive ∧
    (enterOpen ch s).silence = s.silence ∧ (enterOpen ch s).intake = s.intake ∧ (enterOpen ch s).lid = s.lid ∧
    (enterOpen ch s).strike = s.strike ∧ (enterOpen ch s).tracker = s.tracker ∧ (enterOpen ch s).est = s.est ∧
    (enterOpen ch s).weigh = s.weigh ∧ (enterOpen ch s).loadClass = s.loadClass ∧
    (enterOpen ch s).tables = s.tables ∧ (enterOpen ch s).spin = s.spin ∧ (enterOpen ch s).service = s.service ∧
    (enterOpen ch s).limits = s.limits ∧ (enterOpen ch s).ring = s.ring ∧ (enterOpen ch s).trip = s.trip ∧
    (enterOpen ch s).monitor = s.monitor ∧ (enterOpen ch s).requests = s.requests ∧
    (enterOpen ch s).pending = s.pending := by
  simp [enterOpen]

/-- What `enterClimbOrOpen` leaves as it was. -/
@[simp] theorem enterClimbOrOpen_kept (ch : Choice) (s : State) :
    (enterClimbOrOpen ch s).now = s.now ∧ (enterClimbOrOpen ch s).held = s.held ∧
    (enterClimbOrOpen ch s).framerC = s.framerC ∧ (enterClimbOrOpen ch s).framerD = s.framerD ∧
    (enterClimbOrOpen ch s).framerS = s.framerS ∧ (enterClimbOrOpen ch s).rxC = s.rxC ∧
    (enterClimbOrOpen ch s).rxD = s.rxD ∧ (enterClimbOrOpen ch s).classTable = s.classTable ∧
    (enterClimbOrOpen ch s).requested = s.requested ∧ (enterClimbOrOpen ch s).drive = s.drive ∧
    (enterClimbOrOpen ch s).silence = s.silence ∧ (enterClimbOrOpen ch s).intake = s.intake ∧
    (enterClimbOrOpen ch s).lid = s.lid ∧ (enterClimbOrOpen ch s).strike = s.strike ∧
    (enterClimbOrOpen ch s).tracker = s.tracker ∧ (enterClimbOrOpen ch s).est = s.est ∧
    (enterClimbOrOpen ch s).tables = s.tables ∧ (enterClimbOrOpen ch s).spin = s.spin ∧
    (enterClimbOrOpen ch s).service = s.service ∧ (enterClimbOrOpen ch s).limits = s.limits ∧
    (enterClimbOrOpen ch s).ring = s.ring ∧ (enterClimbOrOpen ch s).trip = s.trip ∧
    (enterClimbOrOpen ch s).monitor = s.monitor ∧ (enterClimbOrOpen ch s).requests = s.requests ∧
    (enterClimbOrOpen ch s).pending = s.pending := by
  unfold enterClimbOrOpen; (repeat' split) <;> simp

/-- What `settleCheck` leaves as it was. -/
@[simp] theorem settleCheck_kept (ch : Choice) (s : State) :
    (settleCheck ch s).now = s.now ∧ (settleCheck ch s).held = s.held ∧ (settleCheck ch s).framerC = s.framerC ∧
    (settleCheck ch s).framerD = s.framerD ∧ (settleCheck ch s).framerS = s.framerS ∧
    (settleCheck ch s).rxC = s.rxC ∧ (settleCheck ch s).rxD = s.rxD ∧ (settleCheck ch s).classTable = s.classTable ∧
    (settleCheck ch s).requested = s.requested ∧ (settleCheck ch s).drive = s.drive ∧
    (settleCheck ch s).silence = s.silence ∧ (settleCheck ch s).intake = s.intake ∧ (settleCheck ch s).lid = s.lid ∧
    (settleCheck ch s).strike = s.strike ∧ (settleCheck ch s).tracker = s.tracker ∧ (settleCheck ch s).est = s.est ∧
    (settleCheck ch s).tables = s.tables ∧ (settleCheck ch s).spin = s.spin ∧
    (settleCheck ch s).service = s.service ∧ (settleCheck ch s).limits = s.limits ∧
    (settleCheck ch s).ring = s.ring ∧ (settleCheck ch s).trip = s.trip ∧ (settleCheck ch s).monitor = s.monitor ∧
    (settleCheck ch s).requests = s.requests ∧ (settleCheck ch s).pending = s.pending := by
  unfold settleCheck; (repeat' split) <;> simp

/-- What `enterSettle` leaves as it was. -/
@[simp] theorem enterSettle_kept (ch : Choice) (fault : Bool) (s : State) :
    (enterSettle ch fault s).now = s.now ∧ (enterSettle ch fault s).held = s.held ∧
    (enterSettle ch fault s).framerC = s.framerC ∧ (enterSettle ch fault s).framerD = s.framerD ∧
    (enterSettle ch fault s).framerS = s.framerS ∧ (enterSettle ch fault s).rxC = s.rxC ∧
    (enterSettle ch fault s).rxD = s.rxD ∧ (enterSettle ch fault s).classTable = s.classTable ∧
    (enterSettle ch fault s).requested = s.requested ∧ (enterSettle ch fault s).drive = s.drive ∧
    (enterSettle ch fault s).silence = s.silence ∧ (enterSettle ch fault s).intake = s.intake ∧
    (enterSettle ch fault s).lid = s.lid ∧ (enterSettle ch fault s).strike = s.strike ∧
    (enterSettle ch fault s).tracker = s.tracker ∧ (enterSettle ch fault s).est = s.est ∧
    (enterSettle ch fault s).tables = s.tables ∧ (enterSettle ch fault s).spin = s.spin ∧
    (enterSettle ch fault s).service = s.service ∧ (enterSettle ch fault s).limits = s.limits ∧
    (enterSettle ch fault s).ring = s.ring ∧ (enterSettle ch fault s).trip = s.trip ∧
    (enterSettle ch fault s).monitor = s.monitor ∧ (enterSettle ch fault s).requests = s.requests ∧
    (enterSettle ch fault s).pending = s.pending := by
  unfold enterSettle onlyIf; split <;> simp

/-- What `recordOutcome` leaves as it was. -/
@[simp] theorem recordOutcome_kept (o : InjOutcome) (grams : Nat) (s : State) :
    (recordOutcome o grams s).now = s.now ∧ (recordOutcome o grams s).held = s.held ∧
    (recordOutcome o grams s).framerC = s.framerC ∧ (recordOutcome o grams s).framerD = s.framerD ∧
    (recordOutcome o grams s).framerS = s.framerS ∧ (recordOutcome o grams s).rxC = s.rxC ∧
    (recordOutcome o grams s).rxD = s.rxD ∧ (recordOutcome o grams s).classTable = s.classTable ∧
    (recordOutcome o grams s).requested = s.requested ∧ (recordOutcome o grams s).drive = s.drive ∧
    (recordOutcome o grams s).silence = s.silence ∧ (recordOutcome o grams s).portC = s.portC ∧
    (recordOutcome o grams s).portD = s.portD ∧ (recordOutcome o grams s).standing = s.standing ∧
    (recordOutcome o grams s).intake = s.intake ∧ (recordOutcome o grams s).lid = s.lid ∧
    (recordOutcome o grams s).strike = s.strike ∧ (recordOutcome o grams s).tracker = s.tracker ∧
    (recordOutcome o grams s).est = s.est ∧ (recordOutcome o grams s).weigh = s.weigh ∧
    (recordOutcome o grams s).loadClass = s.loadClass ∧ (recordOutcome o grams s).gov = s.gov ∧
    (recordOutcome o grams s).tables = s.tables ∧ (recordOutcome o grams s).spin = s.spin ∧
    (recordOutcome o grams s).service = s.service ∧ (recordOutcome o grams s).limits = s.limits ∧
    (recordOutcome o grams s).ring = s.ring ∧ (recordOutcome o grams s).trip = s.trip ∧
    (recordOutcome o grams s).events = s.events ∧ (recordOutcome o grams s).monitor = s.monitor ∧
    (recordOutcome o grams s).requests = s.requests ∧ (recordOutcome o grams s).pending = s.pending := by
  simp [recordOutcome]

/-- What `injectionEnded` leaves as it was. -/
@[simp] theorem injectionEnded_kept (ch : Choice) (fault : Bool) (o : InjOutcome) (grams : Nat) (s : State) :
    (injectionEnded ch fault o grams s).now = s.now ∧ (injectionEnded ch fault o grams s).held = s.held ∧
    (injectionEnded ch fault o grams s).framerC = s.framerC ∧
    (injectionEnded ch fault o grams s).framerD = s.framerD ∧
    (injectionEnded ch fault o grams s).framerS = s.framerS ∧ (injectionEnded ch fault o grams s).rxC = s.rxC ∧
    (injectionEnded ch fault o grams s).rxD = s.rxD ∧
    (injectionEnded ch fault o grams s).classTable = s.classTable ∧
    (injectionEnded ch fault o grams s).requested = s.requested ∧
    (injectionEnded ch fault o grams s).drive = s.drive ∧ (injectionEnded ch fault o grams s).silence = s.silence ∧
    (injectionEnded ch fault o grams s).intake = s.intake ∧ (injectionEnded ch fault o grams s).lid = s.lid ∧
    (injectionEnded ch fault o grams s).strike = s.strike ∧
    (injectionEnded ch fault o grams s).tracker = s.tracker ∧ (injectionEnded ch fault o grams s).est = s.est ∧
    (injectionEnded ch fault o grams s).tables = s.tables ∧ (injectionEnded ch fault o grams s).spin = s.spin ∧
    (injectionEnded ch fault o grams s).service = s.service ∧
    (injectionEnded ch fault o grams s).limits = s.limits ∧ (injectionEnded ch fault o grams s).ring = s.ring ∧
    (injectionEnded ch fault o grams s).trip = s.trip ∧ (injectionEnded ch fault o grams s).monitor = s.monitor ∧
    (injectionEnded ch fault o grams s).requests = s.requests ∧
    (injectionEnded ch fault o grams s).pending = s.pending := by
  unfold injectionEnded onlyIf; (repeat' split) <;> simp

/-- What `endInjection` leaves as it was. -/
@[simp] theorem endInjection_kept (ch : Choice) (fault : Bool) (o : InjOutcome) (s : State) :
    (endInjection ch fault o s).now = s.now ∧ (endInjection ch fault o s).held = s.held ∧
    (endInjection ch fault o s).framerC = s.framerC ∧ (endInjection ch fault o s).framerD = s.framerD ∧
    (endInjection ch fault o s).framerS = s.framerS ∧ (endInjection ch fault o s).rxC = s.rxC ∧
    (endInjection ch fault o s).rxD = s.rxD ∧ (endInjection ch fault o s).classTable = s.classTable ∧
    (endInjection ch fault o s).requested = s.requested ∧ (endInjection ch fault o s).drive = s.drive ∧
    (endInjection ch fault o s).silence = s.silence ∧ (endInjection ch fault o s).intake = s.intake ∧
    (endInjection ch fault o s).lid = s.lid ∧ (endInjection ch fault o s).strike = s.strike ∧
    (endInjection ch fault o s).tracker = s.tracker ∧ (endInjection ch fault o s).est = s.est ∧
    (endInjection ch fault o s).tables = s.tables ∧ (endInjection ch fault o s).spin = s.spin ∧
    (endInjection ch fault o s).service = s.service ∧ (endInjection ch fault o s).limits = s.limits ∧
    (endInjection ch fault o s).trip = s.trip ∧ (endInjection ch fault o s).monitor = s.monitor ∧
    (endInjection ch fault o s).requests = s.requests ∧ (endInjection ch fault o s).pending = s.pending := by
  simp [endInjection]

/-- What `abortCorrection` leaves as it was. -/
@[simp] theorem abortCorrection_kept (s : State) :
    (abortCorrection s).now = s.now ∧ (abortCorrection s).held = s.held ∧ (abortCorrection s).framerC = s.framerC ∧
    (abortCorrection s).framerD = s.framerD ∧ (abortCorrection s).framerS = s.framerS ∧
    (abortCorrection s).rxC = s.rxC ∧ (abortCorrection s).rxD = s.rxD ∧
    (abortCorrection s).classTable = s.classTable ∧ (abortCorrection s).requested = s.requested ∧
    (abortCorrection s).drive = s.drive ∧ (abortCorrection s).silence = s.silence ∧
    (abortCorrection s).portC = s.portC ∧ (abortCorrection s).portD = s.portD ∧
    (abortCorrection s).standing = s.standing ∧ (abortCorrection s).intake = s.intake ∧
    (abortCorrection s).lid = s.lid ∧ (abortCorrection s).strike = s.strike ∧
    (abortCorrection s).tracker = s.tracker ∧ (abortCorrection s).est = s.est ∧
    (abortCorrection s).weigh = s.weigh ∧ (abortCorrection s).loadClass = s.loadClass ∧
    (abortCorrection s).gov = s.gov ∧ (abortCorrection s).tables = s.tables ∧ (abortCorrection s).spin = s.spin ∧
    (abortCorrection s).service = s.service ∧ (abortCorrection s).limits = s.limits ∧
    (abortCorrection s).trip = s.trip ∧ (abortCorrection s).events = s.events ∧
    (abortCorrection s).monitor = s.monitor ∧ (abortCorrection s).requests = s.requests ∧
    (abortCorrection s).pending = s.pending := by
  unfold abortCorrection; (repeat' split) <;> simp

/-- What `requestInjection` leaves as it was. -/
@[simp] theorem requestInjection_kept (ch : Choice) (c : Fin 4) (w : Nat) (s : State) :
    (requestInjection ch c w s).now = s.now ∧ (requestInjection ch c w s).held = s.held ∧
    (requestInjection ch c w s).framerC = s.framerC ∧ (requestInjection ch c w s).framerD = s.framerD ∧
    (requestInjection ch c w s).framerS = s.framerS ∧ (requestInjection ch c w s).rxC = s.rxC ∧
    (requestInjection ch c w s).rxD = s.rxD ∧ (requestInjection ch c w s).classTable = s.classTable ∧
    (requestInjection ch c w s).requested = s.requested ∧ (requestInjection ch c w s).drive = s.drive ∧
    (requestInjection ch c w s).silence = s.silence ∧ (requestInjection ch c w s).intake = s.intake ∧
    (requestInjection ch c w s).lid = s.lid ∧ (requestInjection ch c w s).strike = s.strike ∧
    (requestInjection ch c w s).tracker = s.tracker ∧ (requestInjection ch c w s).est = s.est ∧
    (requestInjection ch c w s).tables = s.tables ∧ (requestInjection ch c w s).spin = s.spin ∧
    (requestInjection ch c w s).service = s.service ∧ (requestInjection ch c w s).limits = s.limits ∧
    (requestInjection ch c w s).trip = s.trip ∧ (requestInjection ch c w s).monitor = s.monitor ∧
    (requestInjection ch c w s).requests = s.requests ∧ (requestInjection ch c w s).pending = s.pending := by
  unfold requestInjection; (repeat' split) <;> simp

/-- What `enterCorrect` leaves as it was. -/
@[simp] theorem enterCorrect_kept (ch : Choice) (e : Fin 6) (c : Fin 4) (w : Nat) (s : State) :
    (enterCorrect ch e c w s).now = s.now ∧ (enterCorrect ch e c w s).held = s.held ∧
    (enterCorrect ch e c w s).framerC = s.framerC ∧ (enterCorrect ch e c w s).framerD = s.framerD ∧
    (enterCorrect ch e c w s).framerS = s.framerS ∧ (enterCorrect ch e c w s).rxC = s.rxC ∧
    (enterCorrect ch e c w s).rxD = s.rxD ∧ (enterCorrect ch e c w s).classTable = s.classTable ∧
    (enterCorrect ch e c w s).requested = s.requested ∧ (enterCorrect ch e c w s).drive = s.drive ∧
    (enterCorrect ch e c w s).silence = s.silence ∧ (enterCorrect ch e c w s).intake = s.intake ∧
    (enterCorrect ch e c w s).lid = s.lid ∧ (enterCorrect ch e c w s).strike = s.strike ∧
    (enterCorrect ch e c w s).tracker = s.tracker ∧ (enterCorrect ch e c w s).est = s.est ∧
    (enterCorrect ch e c w s).tables = s.tables ∧ (enterCorrect ch e c w s).spin = s.spin ∧
    (enterCorrect ch e c w s).service = s.service ∧ (enterCorrect ch e c w s).limits = s.limits ∧
    (enterCorrect ch e c w s).trip = s.trip ∧ (enterCorrect ch e c w s).monitor = s.monitor ∧
    (enterCorrect ch e c w s).requests = s.requests ∧ (enterCorrect ch e c w s).pending = s.pending := by
  simp [enterCorrect]

/-- What `plateauFails` leaves as it was. -/
@[simp] theorem plateauFails_kept (ch : Choice) (e : Fin 6) (s : State) :
    (plateauFails ch e s).now = s.now ∧ (plateauFails ch e s).held = s.held ∧
    (plateauFails ch e s).framerC = s.framerC ∧ (plateauFails ch e s).framerD = s.framerD ∧
    (plateauFails ch e s).framerS = s.framerS ∧ (plateauFails ch e s).rxC = s.rxC ∧
    (plateauFails ch e s).rxD = s.rxD ∧ (plateauFails ch e s).classTable = s.classTable ∧
    (plateauFails ch e s).requested = s.requested ∧ (plateauFails ch e s).drive = s.drive ∧
    (plateauFails ch e s).silence = s.silence ∧ (plateauFails ch e s).intake = s.intake ∧
    (plateauFails ch e s).lid = s.lid ∧ (plateauFails ch e s).strike = s.strike ∧
    (plateauFails ch e s).tracker = s.tracker ∧ (plateauFails ch e s).est = s.est ∧
    (plateauFails ch e s).weigh = s.weigh ∧ (plateauFails ch e s).loadClass = s.loadClass ∧
    (plateauFails ch e s).tables = s.tables ∧ (plateauFails ch e s).spin = s.spin ∧
    (plateauFails ch e s).service = s.service ∧ (plateauFails ch e s).limits = s.limits ∧
    (plateauFails ch e s).ring = s.ring ∧ (plateauFails ch e s).trip = s.trip ∧
    (plateauFails ch e s).monitor = s.monitor ∧ (plateauFails ch e s).requests = s.requests ∧
    (plateauFails ch e s).pending = s.pending := by
  unfold plateauFails; dsimp only; split <;> simp

/-- What `plateauPasses` leaves as it was. -/
@[simp] theorem plateauPasses_kept (ch : Choice) (e : Fin 6) (s : State) :
    (plateauPasses ch e s).now = s.now ∧ (plateauPasses ch e s).held = s.held ∧
    (plateauPasses ch e s).framerC = s.framerC ∧ (plateauPasses ch e s).framerD = s.framerD ∧
    (plateauPasses ch e s).framerS = s.framerS ∧ (plateauPasses ch e s).rxC = s.rxC ∧
    (plateauPasses ch e s).rxD = s.rxD ∧ (plateauPasses ch e s).classTable = s.classTable ∧
    (plateauPasses ch e s).requested = s.requested ∧ (plateauPasses ch e s).drive = s.drive ∧
    (plateauPasses ch e s).silence = s.silence ∧ (plateauPasses ch e s).intake = s.intake ∧
    (plateauPasses ch e s).lid = s.lid ∧ (plateauPasses ch e s).strike = s.strike ∧
    (plateauPasses ch e s).tracker = s.tracker ∧ (plateauPasses ch e s).est = s.est ∧
    (plateauPasses ch e s).tables = s.tables ∧ (plateauPasses ch e s).spin = s.spin ∧
    (plateauPasses ch e s).service = s.service ∧ (plateauPasses ch e s).limits = s.limits ∧
    (plateauPasses ch e s).ring = s.ring ∧ (plateauPasses ch e s).trip = s.trip ∧
    (plateauPasses ch e s).monitor = s.monitor ∧ (plateauPasses ch e s).requests = s.requests ∧
    (plateauPasses ch e s).pending = s.pending := by
  simp [plateauPasses]

/-- What `recordDwellU` leaves as it was. -/
@[simp] theorem recordDwellU_kept (e : Fin 6) (s : State) :
    (recordDwellU e s).now = s.now ∧ (recordDwellU e s).held = s.held ∧ (recordDwellU e s).framerC = s.framerC ∧
    (recordDwellU e s).framerD = s.framerD ∧ (recordDwellU e s).framerS = s.framerS ∧
    (recordDwellU e s).rxC = s.rxC ∧ (recordDwellU e s).rxD = s.rxD ∧ (recordDwellU e s).classTable = s.classTable ∧
    (recordDwellU e s).requested = s.requested ∧ (recordDwellU e s).drive = s.drive ∧
    (recordDwellU e s).silence = s.silence ∧ (recordDwellU e s).portC = s.portC ∧
    (recordDwellU e s).portD = s.portD ∧ (recordDwellU e s).standing = s.standing ∧
    (recordDwellU e s).intake = s.intake ∧ (recordDwellU e s).lid = s.lid ∧ (recordDwellU e s).strike = s.strike ∧
    (recordDwellU e s).tracker = s.tracker ∧ (recordDwellU e s).est = s.est ∧ (recordDwellU e s).weigh = s.weigh ∧
    (recordDwellU e s).loadClass = s.loadClass ∧ (recordDwellU e s).gov = s.gov ∧
    (recordDwellU e s).tables = s.tables ∧ (recordDwellU e s).spin = s.spin ∧
    (recordDwellU e s).service = s.service ∧ (recordDwellU e s).limits = s.limits ∧
    (recordDwellU e s).ring = s.ring ∧ (recordDwellU e s).trip = s.trip ∧ (recordDwellU e s).events = s.events ∧
    (recordDwellU e s).monitor = s.monitor ∧ (recordDwellU e s).requests = s.requests ∧
    (recordDwellU e s).pending = s.pending := by
  simp [recordDwellU]

/-- What `dwellEnd` leaves as it was. -/
@[simp] theorem dwellEnd_kept (ch : Choice) (e : Fin 6) (s : State) :
    (dwellEnd ch e s).now = s.now ∧ (dwellEnd ch e s).held = s.held ∧ (dwellEnd ch e s).framerC = s.framerC ∧
    (dwellEnd ch e s).framerD = s.framerD ∧ (dwellEnd ch e s).framerS = s.framerS ∧ (dwellEnd ch e s).rxC = s.rxC ∧
    (dwellEnd ch e s).rxD = s.rxD ∧ (dwellEnd ch e s).classTable = s.classTable ∧
    (dwellEnd ch e s).requested = s.requested ∧ (dwellEnd ch e s).drive = s.drive ∧
    (dwellEnd ch e s).silence = s.silence ∧ (dwellEnd ch e s).intake = s.intake ∧ (dwellEnd ch e s).lid = s.lid ∧
    (dwellEnd ch e s).strike = s.strike ∧ (dwellEnd ch e s).tracker = s.tracker ∧ (dwellEnd ch e s).est = s.est ∧
    (dwellEnd ch e s).tables = s.tables ∧ (dwellEnd ch e s).spin = s.spin ∧ (dwellEnd ch e s).service = s.service ∧
    (dwellEnd ch e s).limits = s.limits ∧ (dwellEnd ch e s).trip = s.trip ∧ (dwellEnd ch e s).monitor = s.monitor ∧
    (dwellEnd ch e s).requests = s.requests ∧ (dwellEnd ch e s).pending = s.pending := by
  unfold dwellEnd; dsimp only; (repeat' split) <;> simp

/-- What `sessionClose` leaves as it was. -/
@[simp] theorem sessionClose_kept (ch : Choice) (s : State) :
    (sessionClose ch s).now = s.now ∧ (sessionClose ch s).held = s.held ∧ (sessionClose ch s).framerC = s.framerC ∧
    (sessionClose ch s).framerD = s.framerD ∧ (sessionClose ch s).framerS = s.framerS ∧
    (sessionClose ch s).rxC = s.rxC ∧ (sessionClose ch s).rxD = s.rxD ∧
    (sessionClose ch s).classTable = s.classTable ∧ (sessionClose ch s).requested = s.requested ∧
    (sessionClose ch s).drive = s.drive ∧ (sessionClose ch s).silence = s.silence ∧
    (sessionClose ch s).intake = s.intake ∧ (sessionClose ch s).lid = s.lid ∧
    (sessionClose ch s).strike = s.strike ∧ (sessionClose ch s).tracker = s.tracker ∧
    (sessionClose ch s).est = s.est ∧ (sessionClose ch s).tables = s.tables ∧ (sessionClose ch s).spin = s.spin ∧
    (sessionClose ch s).service = s.service ∧ (sessionClose ch s).limits = s.limits ∧
    (sessionClose ch s).trip = s.trip ∧ (sessionClose ch s).monitor = s.monitor ∧
    (sessionClose ch s).requests = s.requests ∧ (sessionClose ch s).pending = s.pending := by
  unfold sessionClose; dsimp only; (repeat' split) <;> simp

/-- What `clearCounts` leaves as it was. -/
@[simp] theorem clearCounts_kept (s : State) :
    (clearCounts s).now = s.now ∧ (clearCounts s).held = s.held ∧ (clearCounts s).framerC = s.framerC ∧
    (clearCounts s).framerD = s.framerD ∧ (clearCounts s).framerS = s.framerS ∧ (clearCounts s).rxC = s.rxC ∧
    (clearCounts s).rxD = s.rxD ∧ (clearCounts s).classTable = s.classTable ∧
    (clearCounts s).requested = s.requested ∧ (clearCounts s).drive = s.drive ∧
    (clearCounts s).silence = s.silence ∧ (clearCounts s).portC = s.portC ∧ (clearCounts s).portD = s.portD ∧
    (clearCounts s).standing = s.standing ∧ (clearCounts s).intake = s.intake ∧ (clearCounts s).lid = s.lid ∧
    (clearCounts s).strike = s.strike ∧ (clearCounts s).tracker = s.tracker ∧ (clearCounts s).est = s.est ∧
    (clearCounts s).weigh = s.weigh ∧ (clearCounts s).loadClass = s.loadClass ∧ (clearCounts s).gov = s.gov ∧
    (clearCounts s).tables = s.tables ∧ (clearCounts s).spin = s.spin ∧ (clearCounts s).service = s.service ∧
    (clearCounts s).limits = s.limits ∧ (clearCounts s).ring = s.ring ∧ (clearCounts s).trip = s.trip ∧
    (clearCounts s).events = s.events ∧ (clearCounts s).monitor = s.monitor ∧
    (clearCounts s).requests = s.requests ∧ (clearCounts s).pending = s.pending := by
  simp [clearCounts]

/-- What `beginCounting` leaves as it was. -/
@[simp] theorem beginCounting_kept (s : State) :
    (beginCounting s).now = s.now ∧ (beginCounting s).held = s.held ∧ (beginCounting s).framerC = s.framerC ∧
    (beginCounting s).framerD = s.framerD ∧ (beginCounting s).framerS = s.framerS ∧ (beginCounting s).rxC = s.rxC ∧
    (beginCounting s).rxD = s.rxD ∧ (beginCounting s).classTable = s.classTable ∧
    (beginCounting s).requested = s.requested ∧ (beginCounting s).drive = s.drive ∧
    (beginCounting s).silence = s.silence ∧ (beginCounting s).portC = s.portC ∧ (beginCounting s).portD = s.portD ∧
    (beginCounting s).standing = s.standing ∧ (beginCounting s).intake = s.intake ∧ (beginCounting s).lid = s.lid ∧
    (beginCounting s).strike = s.strike ∧ (beginCounting s).tracker = s.tracker ∧ (beginCounting s).est = s.est ∧
    (beginCounting s).weigh = s.weigh ∧ (beginCounting s).loadClass = s.loadClass ∧ (beginCounting s).gov = s.gov ∧
    (beginCounting s).tables = s.tables ∧ (beginCounting s).spin = s.spin ∧ (beginCounting s).service = s.service ∧
    (beginCounting s).limits = s.limits ∧ (beginCounting s).ring = s.ring ∧ (beginCounting s).trip = s.trip ∧
    (beginCounting s).events = s.events ∧ (beginCounting s).monitor = s.monitor ∧
    (beginCounting s).requests = s.requests ∧ (beginCounting s).pending = s.pending := by
  simp [beginCounting]

/-! ### The trip unit and what follows the speed -/

/-- What `addCause` leaves as it was. -/
@[simp] theorem addCause_kept (c : Cause) (s : State) :
    (addCause c s).now = s.now ∧ (addCause c s).held = s.held ∧ (addCause c s).framerC = s.framerC ∧
    (addCause c s).framerD = s.framerD ∧ (addCause c s).framerS = s.framerS ∧ (addCause c s).rxC = s.rxC ∧
    (addCause c s).rxD = s.rxD ∧ (addCause c s).classTable = s.classTable ∧ (addCause c s).requested = s.requested ∧
    (addCause c s).drive = s.drive ∧ (addCause c s).silence = s.silence ∧ (addCause c s).portC = s.portC ∧
    (addCause c s).portD = s.portD ∧ (addCause c s).standing = s.standing ∧ (addCause c s).intake = s.intake ∧
    (addCause c s).lid = s.lid ∧ (addCause c s).strike = s.strike ∧ (addCause c s).tracker = s.tracker ∧
    (addCause c s).est = s.est ∧ (addCause c s).weigh = s.weigh ∧ (addCause c s).loadClass = s.loadClass ∧
    (addCause c s).gov = s.gov ∧ (addCause c s).tables = s.tables ∧ (addCause c s).spin = s.spin ∧
    (addCause c s).service = s.service ∧ (addCause c s).limits = s.limits ∧ (addCause c s).session = s.session ∧
    (addCause c s).ring = s.ring ∧ (addCause c s).events = s.events ∧ (addCause c s).monitor = s.monitor ∧
    (addCause c s).requests = s.requests ∧ (addCause c s).pending = s.pending := by
  simp [addCause]

/-- What `enterTripped` leaves as it was. -/
@[simp] theorem enterTripped_kept (ch : Choice) (s : State) :
    (enterTripped ch s).now = s.now ∧ (enterTripped ch s).held = s.held ∧ (enterTripped ch s).framerC = s.framerC ∧
    (enterTripped ch s).framerD = s.framerD ∧ (enterTripped ch s).framerS = s.framerS ∧
    (enterTripped ch s).rxC = s.rxC ∧ (enterTripped ch s).rxD = s.rxD ∧
    (enterTripped ch s).classTable = s.classTable ∧ (enterTripped ch s).requested = s.requested ∧
    (enterTripped ch s).drive = s.drive ∧ (enterTripped ch s).silence = s.silence ∧
    (enterTripped ch s).intake = s.intake ∧ (enterTripped ch s).lid = s.lid ∧
    (enterTripped ch s).strike = s.strike ∧ (enterTripped ch s).tracker = s.tracker ∧
    (enterTripped ch s).est = s.est ∧ (enterTripped ch s).tables = s.tables ∧ (enterTripped ch s).spin = s.spin ∧
    (enterTripped ch s).service = s.service ∧ (enterTripped ch s).limits = s.limits ∧
    (enterTripped ch s).trip = s.trip ∧ (enterTripped ch s).monitor = s.monitor ∧
    (enterTripped ch s).requests = s.requests ∧ (enterTripped ch s).pending = s.pending := by
  unfold enterTripped; simp only [abandonWeighing_kept]
  refine inOrder_keeps (fun t =>
    t.now = s.now ∧ t.held = s.held ∧ t.framerC = s.framerC ∧ t.framerD = s.framerD ∧ t.framerS = s.framerS ∧
    t.rxC = s.rxC ∧ t.rxD = s.rxD ∧ t.classTable = s.classTable ∧ t.requested = s.requested ∧ t.drive = s.drive
    ∧ t.silence = s.silence ∧ t.intake = s.intake ∧ t.lid = s.lid ∧ t.strike = s.strike ∧ t.tracker = s.tracker
    ∧ t.est = s.est ∧ t.tables = s.tables ∧ t.spin = s.spin ∧ t.service = s.service ∧ t.limits = s.limits ∧
    t.trip = s.trip ∧ t.monitor = s.monitor ∧ t.requests = s.requests ∧ t.pending = s.pending) ?_ ?_
  · simp
  · intro f hf t h
    simp only [sessionEvents, List.mem_cons, List.not_mem_nil, or_false] at hf
    rcases hf with rfl | rfl <;> simpa using h

/-- The trip's hand-over leaves what none of its four blocks can change. -/
theorem tripBlocks_kept (ch : Choice) (s : State) :
    (inOrder ch.trip (tripBlocks ch) s).trip = s.trip ∧
      (inOrder ch.trip (tripBlocks ch) s).spin = s.spin := by
  refine inOrder_keeps (fun t => t.trip = s.trip ∧ t.spin = s.spin) ⟨rfl, rfl⟩ ?_
  intro f hf t h
  simp only [tripBlocks, List.mem_cons, List.not_mem_nil, or_false] at hf
  rcases hf with rfl | rfl | rfl | rfl <;> simpa using h

/-- What `setTrip` leaves as it was. -/
@[simp] theorem setTrip_kept (ch : Choice) (c : Cause) (s : State) :
    (setTrip ch c s).now = s.now ∧ (setTrip ch c s).held = s.held ∧ (setTrip ch c s).framerC = s.framerC ∧
    (setTrip ch c s).framerD = s.framerD ∧ (setTrip ch c s).framerS = s.framerS ∧ (setTrip ch c s).rxC = s.rxC ∧
    (setTrip ch c s).rxD = s.rxD ∧ (setTrip ch c s).classTable = s.classTable ∧
    (setTrip ch c s).requested = s.requested ∧ (setTrip ch c s).drive = s.drive ∧
    (setTrip ch c s).silence = s.silence ∧ (setTrip ch c s).intake = s.intake ∧ (setTrip ch c s).lid = s.lid ∧
    (setTrip ch c s).strike = s.strike ∧ (setTrip ch c s).tracker = s.tracker ∧ (setTrip ch c s).est = s.est ∧
    (setTrip ch c s).tables = s.tables ∧ (setTrip ch c s).spin = s.spin ∧ (setTrip ch c s).service = s.service ∧
    (setTrip ch c s).limits = s.limits ∧ (setTrip ch c s).monitor = s.monitor ∧
    (setTrip ch c s).requests = s.requests ∧ (setTrip ch c s).pending = s.pending := by
  have h := inOrder_keeps (code := ch.trip) (fs := tripBlocks ch)
    (s := { s with trip := s.trip.setBy c (speedAndSource s).1 (speedAndSource s).2 s.est.u })
    (fun t =>
      t.now = s.now ∧ t.held = s.held ∧ t.framerC = s.framerC ∧ t.framerD = s.framerD ∧ t.framerS = s.framerS ∧
      t.rxC = s.rxC ∧ t.rxD = s.rxD ∧ t.classTable = s.classTable ∧ t.requested = s.requested ∧ t.drive =
      s.drive ∧ t.silence = s.silence ∧ t.intake = s.intake ∧ t.lid = s.lid ∧ t.strike = s.strike ∧ t.tracker =
      s.tracker ∧ t.est = s.est ∧ t.tables = s.tables ∧ t.spin = s.spin ∧ t.service = s.service ∧ t.limits =
      s.limits ∧ t.monitor = s.monitor ∧ t.requests = s.requests ∧ t.pending = s.pending)
    (by simp)
    (by
      intro f hf t h
      simp only [tripBlocks, List.mem_cons, List.not_mem_nil, or_false] at hf
      rcases hf with rfl | rfl | rfl | rfl <;> simpa using h)
  unfold setTrip; dsimp only; split <;> simpa using h

/-- What `judgeCause` leaves as it was. -/
@[simp] theorem judgeCause_kept (ch : Choice) (c : Cause) (s : State) :
    (judgeCause ch c s).now = s.now ∧ (judgeCause ch c s).held = s.held ∧ (judgeCause ch c s).framerC = s.framerC ∧
    (judgeCause ch c s).framerD = s.framerD ∧ (judgeCause ch c s).framerS = s.framerS ∧
    (judgeCause ch c s).rxC = s.rxC ∧ (judgeCause ch c s).rxD = s.rxD ∧
    (judgeCause ch c s).classTable = s.classTable ∧ (judgeCause ch c s).requested = s.requested ∧
    (judgeCause ch c s).drive = s.drive ∧ (judgeCause ch c s).silence = s.silence ∧
    (judgeCause ch c s).intake = s.intake ∧ (judgeCause ch c s).lid = s.lid ∧
    (judgeCause ch c s).strike = s.strike ∧ (judgeCause ch c s).tracker = s.tracker ∧
    (judgeCause ch c s).est = s.est ∧ (judgeCause ch c s).tables = s.tables ∧ (judgeCause ch c s).spin = s.spin ∧
    (judgeCause ch c s).service = s.service ∧ (judgeCause ch c s).limits = s.limits ∧
    (judgeCause ch c s).monitor = s.monitor ∧ (judgeCause ch c s).requests = s.requests ∧
    (judgeCause ch c s).pending = s.pending := by
  unfold judgeCause; (repeat' split) <;> simp

/-- What `judgeCauses` leaves as it was. -/
@[simp] theorem judgeCauses_kept (ch : Choice) (cs : List Cause) (s : State) :
    (judgeCauses ch cs s).now = s.now ∧ (judgeCauses ch cs s).held = s.held ∧
    (judgeCauses ch cs s).framerC = s.framerC ∧ (judgeCauses ch cs s).framerD = s.framerD ∧
    (judgeCauses ch cs s).framerS = s.framerS ∧ (judgeCauses ch cs s).rxC = s.rxC ∧
    (judgeCauses ch cs s).rxD = s.rxD ∧ (judgeCauses ch cs s).classTable = s.classTable ∧
    (judgeCauses ch cs s).requested = s.requested ∧ (judgeCauses ch cs s).drive = s.drive ∧
    (judgeCauses ch cs s).silence = s.silence ∧ (judgeCauses ch cs s).intake = s.intake ∧
    (judgeCauses ch cs s).lid = s.lid ∧ (judgeCauses ch cs s).strike = s.strike ∧
    (judgeCauses ch cs s).tracker = s.tracker ∧ (judgeCauses ch cs s).est = s.est ∧
    (judgeCauses ch cs s).tables = s.tables ∧ (judgeCauses ch cs s).spin = s.spin ∧
    (judgeCauses ch cs s).service = s.service ∧ (judgeCauses ch cs s).limits = s.limits ∧
    (judgeCauses ch cs s).monitor = s.monitor ∧ (judgeCauses ch cs s).requests = s.requests ∧
    (judgeCauses ch cs s).pending = s.pending := by
  unfold judgeCauses
  generalize preferred ch.cause cs = l
  induction l generalizing s with
  | nil => simp
  | cons a l ih => simpa using ih (judgeCause ch a s)

/-! ### Requests -/

/-- What `enterRundown` leaves as it was. -/
@[simp] theorem enterRundown_kept (ch : Choice) (s : State) :
    (enterRundown ch s).now = s.now ∧ (enterRundown ch s).held = s.held ∧ (enterRundown ch s).framerC = s.framerC ∧
    (enterRundown ch s).framerD = s.framerD ∧ (enterRundown ch s).framerS = s.framerS ∧
    (enterRundown ch s).rxC = s.rxC ∧ (enterRundown ch s).rxD = s.rxD ∧
    (enterRundown ch s).classTable = s.classTable ∧ (enterRundown ch s).requested = s.requested ∧
    (enterRundown ch s).drive = s.drive ∧ (enterRundown ch s).silence = s.silence ∧
    (enterRundown ch s).intake = s.intake ∧ (enterRundown ch s).lid = s.lid ∧
    (enterRundown ch s).strike = s.strike ∧ (enterRundown ch s).tracker = s.tracker ∧
    (enterRundown ch s).est = s.est ∧ (enterRundown ch s).tables = s.tables ∧ (enterRundown ch s).spin = s.spin ∧
    (enterRundown ch s).service = s.service ∧ (enterRundown ch s).limits = s.limits ∧
    (enterRundown ch s).trip = s.trip ∧ (enterRundown ch s).monitor = s.monitor ∧
    (enterRundown ch s).requests = s.requests ∧ (enterRundown ch s).pending = s.pending := by
  simp [enterRundown]

/-- What `leaveIdle` leaves as it was. -/
@[simp] theorem leaveIdle_kept (ch : Choice) (st : SessionState) (s : State) :
    (leaveIdle ch st s).now = s.now ∧ (leaveIdle ch st s).held = s.held ∧ (leaveIdle ch st s).framerC = s.framerC ∧
    (leaveIdle ch st s).framerD = s.framerD ∧ (leaveIdle ch st s).framerS = s.framerS ∧
    (leaveIdle ch st s).rxC = s.rxC ∧ (leaveIdle ch st s).rxD = s.rxD ∧
    (leaveIdle ch st s).classTable = s.classTable ∧ (leaveIdle ch st s).requested = s.requested ∧
    (leaveIdle ch st s).drive = s.drive ∧ (leaveIdle ch st s).silence = s.silence ∧
    (leaveIdle ch st s).intake = s.intake ∧ (leaveIdle ch st s).lid = s.lid ∧
    (leaveIdle ch st s).strike = s.strike ∧ (leaveIdle ch st s).tracker = s.tracker ∧
    (leaveIdle ch st s).est = s.est ∧ (leaveIdle ch st s).tables = s.tables ∧ (leaveIdle ch st s).spin = s.spin ∧
    (leaveIdle ch st s).service = s.service ∧ (leaveIdle ch st s).limits = s.limits ∧
    (leaveIdle ch st s).monitor = s.monitor ∧ (leaveIdle ch st s).requests = s.requests ∧
    (leaveIdle ch st s).pending = s.pending := by
  unfold leaveIdle
  refine inOrder_keeps (fun t =>
    t.now = s.now ∧ t.held = s.held ∧ t.framerC = s.framerC ∧ t.framerD = s.framerD ∧ t.framerS = s.framerS ∧
    t.rxC = s.rxC ∧ t.rxD = s.rxD ∧ t.classTable = s.classTable ∧ t.requested = s.requested ∧ t.drive = s.drive
    ∧ t.silence = s.silence ∧ t.intake = s.intake ∧ t.lid = s.lid ∧ t.strike = s.strike ∧ t.tracker = s.tracker
    ∧ t.est = s.est ∧ t.tables = s.tables ∧ t.spin = s.spin ∧ t.service = s.service ∧ t.limits = s.limits ∧
    t.monitor = s.monitor ∧ t.requests = s.requests ∧ t.pending = s.pending) ?_ ?_
  · simp
  · intro f hf t h
    simp only [sessionEvents, List.cons_append, List.nil_append, List.mem_cons, List.not_mem_nil, or_false] at hf
    rcases hf with rfl | rfl | rfl | rfl | rfl <;> simpa using h

/-- What `startEntry` leaves as it was. -/
@[simp] theorem startEntry_kept (ch : Choice) (s : State) :
    (startEntry ch s).now = s.now ∧ (startEntry ch s).held = s.held ∧ (startEntry ch s).framerC = s.framerC ∧
    (startEntry ch s).framerD = s.framerD ∧ (startEntry ch s).framerS = s.framerS ∧ (startEntry ch s).rxC = s.rxC ∧
    (startEntry ch s).rxD = s.rxD ∧ (startEntry ch s).classTable = s.classTable ∧
    (startEntry ch s).requested = s.requested ∧ (startEntry ch s).drive = s.drive ∧
    (startEntry ch s).silence = s.silence ∧ (startEntry ch s).intake = s.intake ∧ (startEntry ch s).lid = s.lid ∧
    (startEntry ch s).strike = s.strike ∧ (startEntry ch s).tracker = s.tracker ∧ (startEntry ch s).est = s.est ∧
    (startEntry ch s).tables = s.tables ∧ (startEntry ch s).spin = s.spin ∧ (startEntry ch s).service = s.service ∧
    (startEntry ch s).limits = s.limits ∧ (startEntry ch s).monitor = s.monitor ∧
    (startEntry ch s).requests = s.requests ∧ (startEntry ch s).pending = s.pending := by
  unfold startEntry; (repeat' split) <;> simp

/-- What `startSession` leaves as it was. -/
@[simp] theorem startSession_kept (ch : Choice) (s : State) :
    (startSession ch s).now = s.now ∧ (startSession ch s).held = s.held ∧ (startSession ch s).framerC = s.framerC ∧
    (startSession ch s).framerD = s.framerD ∧ (startSession ch s).framerS = s.framerS ∧
    (startSession ch s).rxC = s.rxC ∧ (startSession ch s).rxD = s.rxD ∧
    (startSession ch s).classTable = s.classTable ∧ (startSession ch s).requested = s.requested ∧
    (startSession ch s).drive = s.drive ∧ (startSession ch s).silence = s.silence ∧
    (startSession ch s).intake = s.intake ∧ (startSession ch s).lid = s.lid ∧
    (startSession ch s).strike = s.strike ∧ (startSession ch s).tracker = s.tracker ∧
    (startSession ch s).est = s.est ∧ (startSession ch s).tables = s.tables ∧ (startSession ch s).spin = s.spin ∧
    (startSession ch s).service = s.service ∧ (startSession ch s).limits = s.limits ∧
    (startSession ch s).monitor = s.monitor ∧ (startSession ch s).requests = s.requests ∧
    (startSession ch s).pending = s.pending := by
  simp [startSession]

/-- What `spinRequest` leaves as it was. -/
@[simp] theorem spinRequest_kept (ch : Choice) (s : State) :
    (spinRequest ch s).now = s.now ∧ (spinRequest ch s).held = s.held ∧ (spinRequest ch s).framerC = s.framerC ∧
    (spinRequest ch s).framerD = s.framerD ∧ (spinRequest ch s).framerS = s.framerS ∧
    (spinRequest ch s).rxC = s.rxC ∧ (spinRequest ch s).rxD = s.rxD ∧ (spinRequest ch s).classTable = s.classTable ∧
    (spinRequest ch s).requested = s.requested ∧ (spinRequest ch s).drive = s.drive ∧
    (spinRequest ch s).silence = s.silence ∧ (spinRequest ch s).intake = s.intake ∧ (spinRequest ch s).lid = s.lid ∧
    (spinRequest ch s).strike = s.strike ∧ (spinRequest ch s).tracker = s.tracker ∧ (spinRequest ch s).est = s.est ∧
    (spinRequest ch s).tables = s.tables ∧ (spinRequest ch s).spin = s.spin ∧
    (spinRequest ch s).service = s.service ∧ (spinRequest ch s).limits = s.limits ∧
    (spinRequest ch s).monitor = s.monitor ∧ (spinRequest ch s).requests = s.requests ∧
    (spinRequest ch s).pending = s.pending := by
  unfold spinRequest; (repeat' split) <;> simp

/-- What `endingRequest` leaves as it was. -/
@[simp] theorem endingRequest_kept (ch : Choice) (s : State) :
    (endingRequest ch s).now = s.now ∧ (endingRequest ch s).held = s.held ∧
    (endingRequest ch s).framerC = s.framerC ∧ (endingRequest ch s).framerD = s.framerD ∧
    (endingRequest ch s).framerS = s.framerS ∧ (endingRequest ch s).rxC = s.rxC ∧ (endingRequest ch s).rxD = s.rxD ∧
    (endingRequest ch s).classTable = s.classTable ∧ (endingRequest ch s).requested = s.requested ∧
    (endingRequest ch s).drive = s.drive ∧ (endingRequest ch s).silence = s.silence ∧
    (endingRequest ch s).intake = s.intake ∧ (endingRequest ch s).lid = s.lid ∧
    (endingRequest ch s).strike = s.strike ∧ (endingRequest ch s).tracker = s.tracker ∧
    (endingRequest ch s).est = s.est ∧ (endingRequest ch s).tables = s.tables ∧ (endingRequest ch s).spin = s.spin ∧
    (endingRequest ch s).service = s.service ∧ (endingRequest ch s).limits = s.limits ∧
    (endingRequest ch s).trip = s.trip ∧ (endingRequest ch s).monitor = s.monitor ∧
    (endingRequest ch s).requests = s.requests ∧ (endingRequest ch s).pending = s.pending := by
  unfold endingRequest; (repeat' split) <;> simp

/-- What `takeRequest` leaves as it was. -/
@[simp] theorem takeRequest_kept (ch : Choice) (mode : Byte) (target : Int) (s : State) :
    (takeRequest ch mode target s).now = s.now ∧ (takeRequest ch mode target s).held = s.held ∧
    (takeRequest ch mode target s).framerC = s.framerC ∧ (takeRequest ch mode target s).framerD = s.framerD ∧
    (takeRequest ch mode target s).framerS = s.framerS ∧ (takeRequest ch mode target s).rxC = s.rxC ∧
    (takeRequest ch mode target s).rxD = s.rxD ∧ (takeRequest ch mode target s).classTable = s.classTable ∧
    (takeRequest ch mode target s).drive = s.drive ∧ (takeRequest ch mode target s).silence = s.silence ∧
    (takeRequest ch mode target s).intake = s.intake ∧ (takeRequest ch mode target s).lid = s.lid ∧
    (takeRequest ch mode target s).strike = s.strike ∧ (takeRequest ch mode target s).tracker = s.tracker ∧
    (takeRequest ch mode target s).est = s.est ∧ (takeRequest ch mode target s).tables = s.tables ∧
    (takeRequest ch mode target s).spin = s.spin ∧ (takeRequest ch mode target s).service = s.service ∧
    (takeRequest ch mode target s).limits = s.limits ∧ (takeRequest ch mode target s).monitor = s.monitor ∧
    (takeRequest ch mode target s).requests = s.requests ∧ (takeRequest ch mode target s).pending = s.pending := by
  unfold takeRequest; dsimp only; split <;> simp

/-- What `governFrame` leaves as it was. -/
@[simp] theorem governFrame_kept (ch : Choice) (payload : List Byte) (s : State) :
    (governFrame ch payload s).now = s.now ∧ (governFrame ch payload s).held = s.held ∧
    (governFrame ch payload s).framerC = s.framerC ∧ (governFrame ch payload s).framerD = s.framerD ∧
    (governFrame ch payload s).framerS = s.framerS ∧ (governFrame ch payload s).rxC = s.rxC ∧
    (governFrame ch payload s).rxD = s.rxD ∧ (governFrame ch payload s).classTable = s.classTable ∧
    (governFrame ch payload s).drive = s.drive ∧ (governFrame ch payload s).silence = s.silence ∧
    (governFrame ch payload s).intake = s.intake ∧ (governFrame ch payload s).lid = s.lid ∧
    (governFrame ch payload s).strike = s.strike ∧ (governFrame ch payload s).tracker = s.tracker ∧
    (governFrame ch payload s).est = s.est ∧ (governFrame ch payload s).tables = s.tables ∧
    (governFrame ch payload s).spin = s.spin ∧ (governFrame ch payload s).service = s.service ∧
    (governFrame ch payload s).limits = s.limits ∧ (governFrame ch payload s).requests = s.requests ∧
    (governFrame ch payload s).pending = s.pending := by
  unfold governFrame startAfter; dsimp only; split <;> simp

/-! ### What follows the speed -/

/-- What `speedChanged` leaves as it was. -/
@[simp] theorem speedChanged_kept (ch : Choice) (s : State) :
    (speedChanged ch s).now = s.now ∧ (speedChanged ch s).held = s.held ∧ (speedChanged ch s).framerC = s.framerC ∧
    (speedChanged ch s).framerD = s.framerD ∧ (speedChanged ch s).framerS = s.framerS ∧
    (speedChanged ch s).rxC = s.rxC ∧ (speedChanged ch s).rxD = s.rxD ∧
    (speedChanged ch s).classTable = s.classTable ∧ (speedChanged ch s).requested = s.requested ∧
    (speedChanged ch s).drive = s.drive ∧ (speedChanged ch s).silence = s.silence ∧
    (speedChanged ch s).intake = s.intake ∧ (speedChanged ch s).lid = s.lid ∧
    (speedChanged ch s).strike = s.strike ∧ (speedChanged ch s).tracker = s.tracker ∧
    (speedChanged ch s).est = s.est ∧ (speedChanged ch s).tables = s.tables ∧ (speedChanged ch s).spin = s.spin ∧
    (speedChanged ch s).service = s.service ∧ (speedChanged ch s).limits = s.limits ∧
    (speedChanged ch s).monitor = s.monitor ∧ (speedChanged ch s).requests = s.requests ∧
    (speedChanged ch s).pending = s.pending := by
  unfold speedChanged
  refine inOrder_keeps (fun t =>
    t.now = s.now ∧ t.held = s.held ∧ t.framerC = s.framerC ∧ t.framerD = s.framerD ∧ t.framerS = s.framerS ∧
    t.rxC = s.rxC ∧ t.rxD = s.rxD ∧ t.classTable = s.classTable ∧ t.requested = s.requested ∧ t.drive = s.drive
    ∧ t.silence = s.silence ∧ t.intake = s.intake ∧ t.lid = s.lid ∧ t.strike = s.strike ∧ t.tracker = s.tracker
    ∧ t.est = s.est ∧ t.tables = s.tables ∧ t.spin = s.spin ∧ t.service = s.service ∧ t.limits = s.limits ∧
    t.monitor = s.monitor ∧ t.requests = s.requests ∧ t.pending = s.pending) ?_ ?_
  · simp
  · intro f hf t h
    simp only [List.mem_cons, List.not_mem_nil, or_false] at hf
    rcases hf with rfl | rfl | rfl <;> simpa using h

/-- What `recordReaders` leaves as it was. -/
@[simp] theorem recordReaders_kept (ch : Choice) (code : List Nat) (s : State) :
    (inOrder code (recordReaders ch) s).now = s.now ∧ (inOrder code (recordReaders ch) s).held = s.held ∧
    (inOrder code (recordReaders ch) s).framerC = s.framerC ∧
    (inOrder code (recordReaders ch) s).framerD = s.framerD ∧
    (inOrder code (recordReaders ch) s).framerS = s.framerS ∧ (inOrder code (recordReaders ch) s).rxC = s.rxC ∧
    (inOrder code (recordReaders ch) s).rxD = s.rxD ∧
    (inOrder code (recordReaders ch) s).classTable = s.classTable ∧
    (inOrder code (recordReaders ch) s).requested = s.requested ∧
    (inOrder code (recordReaders ch) s).drive = s.drive ∧ (inOrder code (recordReaders ch) s).silence = s.silence ∧
    (inOrder code (recordReaders ch) s).intake = s.intake ∧ (inOrder code (recordReaders ch) s).lid = s.lid ∧
    (inOrder code (recordReaders ch) s).strike = s.strike ∧
    (inOrder code (recordReaders ch) s).tracker = s.tracker ∧ (inOrder code (recordReaders ch) s).est = s.est ∧
    (inOrder code (recordReaders ch) s).tables = s.tables ∧ (inOrder code (recordReaders ch) s).spin = s.spin ∧
    (inOrder code (recordReaders ch) s).service = s.service ∧
    (inOrder code (recordReaders ch) s).limits = s.limits ∧
    (inOrder code (recordReaders ch) s).monitor = s.monitor ∧
    (inOrder code (recordReaders ch) s).requests = s.requests ∧
    (inOrder code (recordReaders ch) s).pending = s.pending := by
  unfold recordReaders
  refine inOrder_keeps (fun t =>
    t.now = s.now ∧ t.held = s.held ∧ t.framerC = s.framerC ∧ t.framerD = s.framerD ∧ t.framerS = s.framerS ∧
    t.rxC = s.rxC ∧ t.rxD = s.rxD ∧ t.classTable = s.classTable ∧ t.requested = s.requested ∧ t.drive = s.drive
    ∧ t.silence = s.silence ∧ t.intake = s.intake ∧ t.lid = s.lid ∧ t.strike = s.strike ∧ t.tracker = s.tracker
    ∧ t.est = s.est ∧ t.tables = s.tables ∧ t.spin = s.spin ∧ t.service = s.service ∧ t.limits = s.limits ∧
    t.monitor = s.monitor ∧ t.requests = s.requests ∧ t.pending = s.pending) ?_ ?_
  · simp
  · intro f hf t h
    simp only [List.mem_cons, List.not_mem_nil, or_false] at hf
    rcases hf with rfl | rfl | rfl | rfl | rfl <;> simpa using h

/-! ### The estimator and the angle -/

/-- What `estimatorInvalid` leaves as it was. -/
@[simp] theorem estimatorInvalid_kept (ch : Choice) (s : State) :
    (estimatorInvalid ch s).now = s.now ∧ (estimatorInvalid ch s).held = s.held ∧
    (estimatorInvalid ch s).framerC = s.framerC ∧ (estimatorInvalid ch s).framerD = s.framerD ∧
    (estimatorInvalid ch s).framerS = s.framerS ∧ (estimatorInvalid ch s).rxC = s.rxC ∧
    (estimatorInvalid ch s).rxD = s.rxD ∧ (estimatorInvalid ch s).classTable = s.classTable ∧
    (estimatorInvalid ch s).requested = s.requested ∧ (estimatorInvalid ch s).drive = s.drive ∧
    (estimatorInvalid ch s).silence = s.silence ∧ (estimatorInvalid ch s).intake = s.intake ∧
    (estimatorInvalid ch s).lid = s.lid ∧ (estimatorInvalid ch s).strike = s.strike ∧
    (estimatorInvalid ch s).tracker = s.tracker ∧ (estimatorInvalid ch s).weigh = s.weigh ∧
    (estimatorInvalid ch s).loadClass = s.loadClass ∧ (estimatorInvalid ch s).tables = s.tables ∧
    (estimatorInvalid ch s).spin = s.spin ∧ (estimatorInvalid ch s).service = s.service ∧
    (estimatorInvalid ch s).limits = s.limits ∧ (estimatorInvalid ch s).ring = s.ring ∧
    (estimatorInvalid ch s).trip = s.trip ∧ (estimatorInvalid ch s).monitor = s.monitor ∧
    (estimatorInvalid ch s).requests = s.requests ∧ (estimatorInvalid ch s).pending = s.pending := by
  unfold estimatorInvalid; split
  · simp
  · simp
  · refine inOrder_keeps (fun t =>
      t.now = s.now ∧ t.held = s.held ∧ t.framerC = s.framerC ∧ t.framerD = s.framerD ∧ t.framerS = s.framerS ∧
      t.rxC = s.rxC ∧ t.rxD = s.rxD ∧ t.classTable = s.classTable ∧ t.requested = s.requested ∧ t.drive =
      s.drive ∧ t.silence = s.silence ∧ t.intake = s.intake ∧ t.lid = s.lid ∧ t.strike = s.strike ∧ t.tracker =
      s.tracker ∧ t.weigh = s.weigh ∧ t.loadClass = s.loadClass ∧ t.tables = s.tables ∧ t.spin = s.spin ∧
      t.service = s.service ∧ t.limits = s.limits ∧ t.ring = s.ring ∧ t.trip = s.trip ∧ t.monitor = s.monitor ∧
      t.requests = s.requests ∧ t.pending = s.pending) ?_ ?_
    · simp
    · intro f hf t h
      simp only [List.mem_cons, List.not_mem_nil, or_false] at hf
      rcases hf with rfl | rfl | rfl <;> simpa using h

/-- What `estimatorBegin` leaves as it was. -/
@[simp] theorem estimatorBegin_kept (s : State) :
    (estimatorBegin s).now = s.now ∧ (estimatorBegin s).held = s.held ∧ (estimatorBegin s).framerC = s.framerC ∧
    (estimatorBegin s).framerD = s.framerD ∧ (estimatorBegin s).framerS = s.framerS ∧
    (estimatorBegin s).rxC = s.rxC ∧ (estimatorBegin s).rxD = s.rxD ∧ (estimatorBegin s).classTable = s.classTable ∧
    (estimatorBegin s).requested = s.requested ∧ (estimatorBegin s).drive = s.drive ∧
    (estimatorBegin s).silence = s.silence ∧ (estimatorBegin s).portC = s.portC ∧
    (estimatorBegin s).portD = s.portD ∧ (estimatorBegin s).standing = s.standing ∧
    (estimatorBegin s).intake = s.intake ∧ (estimatorBegin s).lid = s.lid ∧ (estimatorBegin s).strike = s.strike ∧
    (estimatorBegin s).tracker = s.tracker ∧ (estimatorBegin s).weigh = s.weigh ∧
    (estimatorBegin s).loadClass = s.loadClass ∧ (estimatorBegin s).gov = s.gov ∧
    (estimatorBegin s).tables = s.tables ∧ (estimatorBegin s).spin = s.spin ∧
    (estimatorBegin s).service = s.service ∧ (estimatorBegin s).limits = s.limits ∧
    (estimatorBegin s).session = s.session ∧ (estimatorBegin s).ring = s.ring ∧ (estimatorBegin s).trip = s.trip ∧
    (estimatorBegin s).events = s.events ∧ (estimatorBegin s).monitor = s.monitor ∧
    (estimatorBegin s).requests = s.requests ∧ (estimatorBegin s).pending = s.pending := by
  unfold estimatorBegin; (repeat' split) <;> simp

/-- What `makeReport` leaves as it was. -/
@[simp] theorem makeReport_kept (s : State) :
    (makeReport s).now = s.now ∧ (makeReport s).held = s.held ∧ (makeReport s).framerC = s.framerC ∧
    (makeReport s).framerD = s.framerD ∧ (makeReport s).framerS = s.framerS ∧ (makeReport s).rxC = s.rxC ∧
    (makeReport s).rxD = s.rxD ∧ (makeReport s).classTable = s.classTable ∧ (makeReport s).requested = s.requested ∧
    (makeReport s).drive = s.drive ∧ (makeReport s).silence = s.silence ∧ (makeReport s).portD = s.portD ∧
    (makeReport s).standing = s.standing ∧ (makeReport s).intake = s.intake ∧ (makeReport s).lid = s.lid ∧
    (makeReport s).strike = s.strike ∧ (makeReport s).tracker = s.tracker ∧ (makeReport s).est = s.est ∧
    (makeReport s).weigh = s.weigh ∧ (makeReport s).loadClass = s.loadClass ∧ (makeReport s).gov = s.gov ∧
    (makeReport s).tables = s.tables ∧ (makeReport s).spin = s.spin ∧ (makeReport s).service = s.service ∧
    (makeReport s).limits = s.limits ∧ (makeReport s).session = s.session ∧ (makeReport s).ring = s.ring ∧
    (makeReport s).trip = s.trip ∧ (makeReport s).monitor = s.monitor ∧ (makeReport s).requests = s.requests ∧
    (makeReport s).pending = s.pending := by
  simp [makeReport]

/-- What `reportClose` leaves as it was. -/
@[simp] theorem reportClose_kept (s : State) :
    (reportClose s).now = s.now ∧ (reportClose s).held = s.held ∧ (reportClose s).framerC = s.framerC ∧
    (reportClose s).framerD = s.framerD ∧ (reportClose s).framerS = s.framerS ∧ (reportClose s).rxC = s.rxC ∧
    (reportClose s).rxD = s.rxD ∧ (reportClose s).classTable = s.classTable ∧
    (reportClose s).requested = s.requested ∧ (reportClose s).drive = s.drive ∧
    (reportClose s).silence = s.silence ∧ (reportClose s).portD = s.portD ∧ (reportClose s).standing = s.standing ∧
    (reportClose s).intake = s.intake ∧ (reportClose s).lid = s.lid ∧ (reportClose s).strike = s.strike ∧
    (reportClose s).tracker = s.tracker ∧ (reportClose s).est = s.est ∧ (reportClose s).weigh = s.weigh ∧
    (reportClose s).loadClass = s.loadClass ∧ (reportClose s).gov = s.gov ∧ (reportClose s).tables = s.tables ∧
    (reportClose s).spin = s.spin ∧ (reportClose s).service = s.service ∧ (reportClose s).limits = s.limits ∧
    (reportClose s).session = s.session ∧ (reportClose s).ring = s.ring ∧ (reportClose s).trip = s.trip ∧
    (reportClose s).monitor = s.monitor ∧ (reportClose s).requests = s.requests ∧
    (reportClose s).pending = s.pending := by
  unfold reportClose; dsimp only; (repeat' split) <;> simp

/-- What `closeEffects` leaves as it was. -/
@[simp] theorem closeEffects_kept (ch : Choice) (entered : Bool) (s : State) :
    (inTurn (closeEffects ch entered) s).now = s.now ∧ (inTurn (closeEffects ch entered) s).held = s.held ∧
    (inTurn (closeEffects ch entered) s).framerC = s.framerC ∧
    (inTurn (closeEffects ch entered) s).framerD = s.framerD ∧
    (inTurn (closeEffects ch entered) s).framerS = s.framerS ∧ (inTurn (closeEffects ch entered) s).rxC = s.rxC ∧
    (inTurn (closeEffects ch entered) s).rxD = s.rxD ∧
    (inTurn (closeEffects ch entered) s).classTable = s.classTable ∧
    (inTurn (closeEffects ch entered) s).requested = s.requested ∧
    (inTurn (closeEffects ch entered) s).drive = s.drive ∧
    (inTurn (closeEffects ch entered) s).silence = s.silence ∧
    (inTurn (closeEffects ch entered) s).intake = s.intake ∧ (inTurn (closeEffects ch entered) s).lid = s.lid ∧
    (inTurn (closeEffects ch entered) s).strike = s.strike ∧
    (inTurn (closeEffects ch entered) s).tracker = s.tracker ∧ (inTurn (closeEffects ch entered) s).est = s.est ∧
    (inTurn (closeEffects ch entered) s).tables = s.tables ∧ (inTurn (closeEffects ch entered) s).spin = s.spin ∧
    (inTurn (closeEffects ch entered) s).service = s.service ∧
    (inTurn (closeEffects ch entered) s).limits = s.limits ∧
    (inTurn (closeEffects ch entered) s).monitor = s.monitor ∧
    (inTurn (closeEffects ch entered) s).requests = s.requests ∧
    (inTurn (closeEffects ch entered) s).pending = s.pending := by
  refine inTurn_keeps (fun t =>
    t.now = s.now ∧ t.held = s.held ∧ t.framerC = s.framerC ∧ t.framerD = s.framerD ∧ t.framerS = s.framerS ∧
    t.rxC = s.rxC ∧ t.rxD = s.rxD ∧ t.classTable = s.classTable ∧ t.requested = s.requested ∧ t.drive = s.drive
    ∧ t.silence = s.silence ∧ t.intake = s.intake ∧ t.lid = s.lid ∧ t.strike = s.strike ∧ t.tracker = s.tracker
    ∧ t.est = s.est ∧ t.tables = s.tables ∧ t.spin = s.spin ∧ t.service = s.service ∧ t.limits = s.limits ∧
    t.monitor = s.monitor ∧ t.requests = s.requests ∧ t.pending = s.pending) ?_ ?_
  · simp
  · intro f hf t h
    rcases mem_closeEffects hf with rfl | rfl | rfl | rfl | rfl | rfl <;> simpa using h

/-- What `neighboursAct` leaves as it was. -/
@[simp] theorem neighboursAct_kept (ch : Choice) (entered : Bool) (s : State) :
    (neighboursAct ch entered s).now = s.now ∧ (neighboursAct ch entered s).held = s.held ∧
    (neighboursAct ch entered s).framerC = s.framerC ∧ (neighboursAct ch entered s).framerD = s.framerD ∧
    (neighboursAct ch entered s).framerS = s.framerS ∧ (neighboursAct ch entered s).rxC = s.rxC ∧
    (neighboursAct ch entered s).rxD = s.rxD ∧ (neighboursAct ch entered s).classTable = s.classTable ∧
    (neighboursAct ch entered s).requested = s.requested ∧ (neighboursAct ch entered s).drive = s.drive ∧
    (neighboursAct ch entered s).silence = s.silence ∧ (neighboursAct ch entered s).intake = s.intake ∧
    (neighboursAct ch entered s).lid = s.lid ∧ (neighboursAct ch entered s).strike = s.strike ∧
    (neighboursAct ch entered s).tracker = s.tracker ∧ (neighboursAct ch entered s).est = s.est ∧
    (neighboursAct ch entered s).tables = s.tables ∧ (neighboursAct ch entered s).spin = s.spin ∧
    (neighboursAct ch entered s).service = s.service ∧ (neighboursAct ch entered s).limits = s.limits ∧
    (neighboursAct ch entered s).monitor = s.monitor ∧ (neighboursAct ch entered s).requests = s.requests ∧
    (neighboursAct ch entered s).pending = s.pending := by
  unfold neighboursAct onlyIf; split <;> simp

/-- What `revolutionClose` leaves as it was. -/
@[simp] theorem revolutionClose_kept (ch : Choice) (s : State) :
    (revolutionClose ch s).now = s.now ∧ (revolutionClose ch s).held = s.held ∧
    (revolutionClose ch s).framerC = s.framerC ∧ (revolutionClose ch s).framerD = s.framerD ∧
    (revolutionClose ch s).framerS = s.framerS ∧ (revolutionClose ch s).rxC = s.rxC ∧
    (revolutionClose ch s).rxD = s.rxD ∧ (revolutionClose ch s).classTable = s.classTable ∧
    (revolutionClose ch s).requested = s.requested ∧ (revolutionClose ch s).drive = s.drive ∧
    (revolutionClose ch s).silence = s.silence ∧ (revolutionClose ch s).intake = s.intake ∧
    (revolutionClose ch s).lid = s.lid ∧ (revolutionClose ch s).strike = s.strike ∧
    (revolutionClose ch s).tracker = s.tracker ∧ (revolutionClose ch s).tables = s.tables ∧
    (revolutionClose ch s).spin = s.spin ∧ (revolutionClose ch s).service = s.service ∧
    (revolutionClose ch s).limits = s.limits ∧ (revolutionClose ch s).monitor = s.monitor ∧
    (revolutionClose ch s).requests = s.requests ∧ (revolutionClose ch s).pending = s.pending := by
  unfold revolutionClose; dsimp only; (repeat' split) <;> simp

/-- What `abortForAngle` leaves as it was. -/
@[simp] theorem abortForAngle_kept (ch : Choice) (s : State) :
    (abortForAngle ch s).now = s.now ∧ (abortForAngle ch s).held = s.held ∧
    (abortForAngle ch s).framerC = s.framerC ∧ (abortForAngle ch s).framerD = s.framerD ∧
    (abortForAngle ch s).framerS = s.framerS ∧ (abortForAngle ch s).rxC = s.rxC ∧ (abortForAngle ch s).rxD = s.rxD ∧
    (abortForAngle ch s).classTable = s.classTable ∧ (abortForAngle ch s).requested = s.requested ∧
    (abortForAngle ch s).drive = s.drive ∧ (abortForAngle ch s).silence = s.silence ∧
    (abortForAngle ch s).intake = s.intake ∧ (abortForAngle ch s).lid = s.lid ∧
    (abortForAngle ch s).strike = s.strike ∧ (abortForAngle ch s).tracker = s.tracker ∧
    (abortForAngle ch s).est = s.est ∧ (abortForAngle ch s).tables = s.tables ∧ (abortForAngle ch s).spin = s.spin ∧
    (abortForAngle ch s).service = s.service ∧ (abortForAngle ch s).limits = s.limits ∧
    (abortForAngle ch s).trip = s.trip ∧ (abortForAngle ch s).monitor = s.monitor ∧
    (abortForAngle ch s).requests = s.requests ∧ (abortForAngle ch s).pending = s.pending := by
  unfold abortForAngle; (repeat' split) <;> simp

/-- What `angleLost` leaves as it was. -/
@[simp] theorem angleLost_kept (ch : Choice) (s : State) :
    (angleLost ch s).now = s.now ∧ (angleLost ch s).held = s.held ∧ (angleLost ch s).framerC = s.framerC ∧
    (angleLost ch s).framerD = s.framerD ∧ (angleLost ch s).framerS = s.framerS ∧ (angleLost ch s).rxC = s.rxC ∧
    (angleLost ch s).rxD = s.rxD ∧ (angleLost ch s).classTable = s.classTable ∧
    (angleLost ch s).requested = s.requested ∧ (angleLost ch s).drive = s.drive ∧
    (angleLost ch s).silence = s.silence ∧ (angleLost ch s).intake = s.intake ∧ (angleLost ch s).lid = s.lid ∧
    (angleLost ch s).strike = s.strike ∧ (angleLost ch s).tracker = s.tracker ∧ (angleLost ch s).tables = s.tables ∧
    (angleLost ch s).spin = s.spin ∧ (angleLost ch s).service = s.service ∧ (angleLost ch s).limits = s.limits ∧
    (angleLost ch s).monitor = s.monitor ∧ (angleLost ch s).requests = s.requests ∧
    (angleLost ch s).pending = s.pending := by
  unfold angleLost
  refine inOrder_keeps (fun t =>
    t.now = s.now ∧ t.held = s.held ∧ t.framerC = s.framerC ∧ t.framerD = s.framerD ∧ t.framerS = s.framerS ∧
    t.rxC = s.rxC ∧ t.rxD = s.rxD ∧ t.classTable = s.classTable ∧ t.requested = s.requested ∧ t.drive = s.drive
    ∧ t.silence = s.silence ∧ t.intake = s.intake ∧ t.lid = s.lid ∧ t.strike = s.strike ∧ t.tracker = s.tracker
    ∧ t.tables = s.tables ∧ t.spin = s.spin ∧ t.service = s.service ∧ t.limits = s.limits ∧ t.monitor =
    s.monitor ∧ t.requests = s.requests ∧ t.pending = s.pending) ?_ ?_
  · simp
  · intro f hf t h
    simp only [List.mem_cons, List.not_mem_nil, or_false] at hf
    rcases hf with rfl | rfl | rfl | rfl <;> simpa using h

/-- What `angleGained` leaves as it was. -/
@[simp] theorem angleGained_kept (ch : Choice) (s : State) :
    (angleGained ch s).now = s.now ∧ (angleGained ch s).held = s.held ∧ (angleGained ch s).framerC = s.framerC ∧
    (angleGained ch s).framerD = s.framerD ∧ (angleGained ch s).framerS = s.framerS ∧
    (angleGained ch s).rxC = s.rxC ∧ (angleGained ch s).rxD = s.rxD ∧ (angleGained ch s).classTable = s.classTable ∧
    (angleGained ch s).requested = s.requested ∧ (angleGained ch s).drive = s.drive ∧
    (angleGained ch s).silence = s.silence ∧ (angleGained ch s).intake = s.intake ∧ (angleGained ch s).lid = s.lid ∧
    (angleGained ch s).strike = s.strike ∧ (angleGained ch s).tracker = s.tracker ∧
    (angleGained ch s).tables = s.tables ∧ (angleGained ch s).spin = s.spin ∧
    (angleGained ch s).service = s.service ∧ (angleGained ch s).limits = s.limits ∧
    (angleGained ch s).monitor = s.monitor ∧ (angleGained ch s).requests = s.requests ∧
    (angleGained ch s).pending = s.pending := by
  unfold angleGained; simp only [beginCounting_kept]
  refine inOrder_keeps (fun t =>
    t.now = s.now ∧ t.held = s.held ∧ t.framerC = s.framerC ∧ t.framerD = s.framerD ∧ t.framerS = s.framerS ∧
    t.rxC = s.rxC ∧ t.rxD = s.rxD ∧ t.classTable = s.classTable ∧ t.requested = s.requested ∧ t.drive = s.drive
    ∧ t.silence = s.silence ∧ t.intake = s.intake ∧ t.lid = s.lid ∧ t.strike = s.strike ∧ t.tracker = s.tracker
    ∧ t.tables = s.tables ∧ t.spin = s.spin ∧ t.service = s.service ∧ t.limits = s.limits ∧ t.monitor =
    s.monitor ∧ t.requests = s.requests ∧ t.pending = s.pending) ?_ ?_
  · simp
  · intro f hf t h
    simp only [List.mem_cons, List.not_mem_nil, or_false] at hf
    rcases hf with rfl | rfl | rfl <;> simpa using h

/-- What `angleClosed` leaves as it was. -/
@[simp] theorem angleClosed_kept (ch : Choice) (s : State) :
    (angleClosed ch s).now = s.now ∧ (angleClosed ch s).held = s.held ∧ (angleClosed ch s).framerC = s.framerC ∧
    (angleClosed ch s).framerD = s.framerD ∧ (angleClosed ch s).framerS = s.framerS ∧
    (angleClosed ch s).rxC = s.rxC ∧ (angleClosed ch s).rxD = s.rxD ∧ (angleClosed ch s).classTable = s.classTable ∧
    (angleClosed ch s).requested = s.requested ∧ (angleClosed ch s).drive = s.drive ∧
    (angleClosed ch s).silence = s.silence ∧ (angleClosed ch s).intake = s.intake ∧ (angleClosed ch s).lid = s.lid ∧
    (angleClosed ch s).strike = s.strike ∧ (angleClosed ch s).tracker = s.tracker ∧
    (angleClosed ch s).tables = s.tables ∧ (angleClosed ch s).spin = s.spin ∧
    (angleClosed ch s).service = s.service ∧ (angleClosed ch s).limits = s.limits ∧
    (angleClosed ch s).monitor = s.monitor ∧ (angleClosed ch s).requests = s.requests ∧
    (angleClosed ch s).pending = s.pending := by
  simp [angleClosed]

/-- What `handPulse` leaves as it was. -/
@[simp] theorem handPulse_kept (ch : Choice) (o : PulseOutcome) (s : State) :
    (handPulse ch o s).now = s.now ∧ (handPulse ch o s).held = s.held ∧ (handPulse ch o s).framerC = s.framerC ∧
    (handPulse ch o s).framerD = s.framerD ∧ (handPulse ch o s).framerS = s.framerS ∧
    (handPulse ch o s).rxC = s.rxC ∧ (handPulse ch o s).rxD = s.rxD ∧ (handPulse ch o s).classTable = s.classTable ∧
    (handPulse ch o s).requested = s.requested ∧ (handPulse ch o s).drive = s.drive ∧
    (handPulse ch o s).silence = s.silence ∧ (handPulse ch o s).intake = s.intake ∧ (handPulse ch o s).lid = s.lid ∧
    (handPulse ch o s).strike = s.strike ∧ (handPulse ch o s).tracker = s.tracker ∧
    (handPulse ch o s).tables = s.tables ∧ (handPulse ch o s).spin = s.spin ∧
    (handPulse ch o s).service = s.service ∧ (handPulse ch o s).limits = s.limits ∧
    (handPulse ch o s).requests = s.requests ∧ (handPulse ch o s).pending = s.pending := by
  cases o <;> simp [handPulse]

/-- What `indexPulse` leaves as it was. -/
@[simp] theorem indexPulse_kept (ch : Choice) (s : State) :
    (indexPulse ch s).now = s.now ∧ (indexPulse ch s).held = s.held ∧ (indexPulse ch s).framerC = s.framerC ∧
    (indexPulse ch s).framerD = s.framerD ∧ (indexPulse ch s).framerS = s.framerS ∧ (indexPulse ch s).rxC = s.rxC ∧
    (indexPulse ch s).rxD = s.rxD ∧ (indexPulse ch s).classTable = s.classTable ∧
    (indexPulse ch s).requested = s.requested ∧ (indexPulse ch s).drive = s.drive ∧
    (indexPulse ch s).silence = s.silence ∧ (indexPulse ch s).intake = s.intake ∧ (indexPulse ch s).lid = s.lid ∧
    (indexPulse ch s).strike = s.strike ∧ (indexPulse ch s).tables = s.tables ∧ (indexPulse ch s).spin = s.spin ∧
    (indexPulse ch s).service = s.service ∧ (indexPulse ch s).limits = s.limits ∧
    (indexPulse ch s).requests = s.requests ∧ (indexPulse ch s).pending = s.pending := by
  simp [indexPulse]

/-- What `indexLost` leaves as it was. -/
@[simp] theorem indexLost_kept (ch : Choice) (s : State) :
    (indexLost ch s).now = s.now ∧ (indexLost ch s).held = s.held ∧ (indexLost ch s).framerC = s.framerC ∧
    (indexLost ch s).framerD = s.framerD ∧ (indexLost ch s).framerS = s.framerS ∧ (indexLost ch s).rxC = s.rxC ∧
    (indexLost ch s).rxD = s.rxD ∧ (indexLost ch s).classTable = s.classTable ∧
    (indexLost ch s).requested = s.requested ∧ (indexLost ch s).drive = s.drive ∧
    (indexLost ch s).silence = s.silence ∧ (indexLost ch s).intake = s.intake ∧ (indexLost ch s).lid = s.lid ∧
    (indexLost ch s).strike = s.strike ∧ (indexLost ch s).tables = s.tables ∧ (indexLost ch s).spin = s.spin ∧
    (indexLost ch s).service = s.service ∧ (indexLost ch s).limits = s.limits ∧
    (indexLost ch s).monitor = s.monitor ∧ (indexLost ch s).requests = s.requests ∧
    (indexLost ch s).pending = s.pending := by
  unfold indexLost; dsimp only; (repeat' split) <;> simp

end Sys2Proof.Machine
end

