-- ==== Sys2Proof/Laws/Effects.lean ====
section
/-! SUPPORT. What the shared operations do: for each, one lemma that says once how the fields it owns come out, and the small laws of the arithmetic they rest on. -/

namespace Sys2Proof.Machine

set_option Elab.async false

/-! ### Arithmetic -/

/-- R1: a clamp lies in its range. -/
theorem clampNat_mem {lo hi : Nat} (h : lo ≤ hi) (v : Nat) : lo ≤ clampNat lo hi v ∧ clampNat lo hi v ≤ hi := by
  unfold clampNat; split
  · omega
  · split <;> omega

/-- R1: a clamp lies in its range. -/
theorem clampInt_mem {lo hi : Int} (h : lo ≤ hi) (v : Int) : lo ≤ clampInt lo hi v ∧ clampInt lo hi v ≤ hi := by
  unfold clampInt; split
  · omega
  · split <;> omega

/-- R1: a value in the range is not changed by the clamp. -/
theorem clampNat_of_mem {lo hi v : Nat} (h₁ : lo ≤ v) (h₂ : v ≤ hi) : clampNat lo hi v = v := by
  unfold clampNat; rw [if_neg (by omega), if_neg (by omega)]

/-- R1: a value in the range is not changed by the clamp. -/
theorem clampInt_of_mem {lo hi v : Int} (h₁ : lo ≤ v) (h₂ : v ≤ hi) : clampInt lo hi v = v := by
  unfold clampInt; rw [if_neg (by omega), if_neg (by omega)]

/-- A bit just set or cleared reads as it was written. -/
theorem setBit_same (w : Word) (k : Fin 16) (v : Bool) : (setBit w k v).getLsbD k.val = v := by
  have := k.isLt
  unfold setBit; cases v <;> simp

/-- A write of one bit leaves the others. -/
theorem setBit_other (w : Word) {k : Fin 16} {j : Nat} (v : Bool) (h : j ≠ k.val) :
    (setBit w k v).getLsbD j = w.getLsbD j := by
  unfold setBit
  by_cases hj : j < 16
  · cases v <;> simp [hj] <;> omega
  · cases v <;> simp [BitVec.getLsbD_of_ge _ _ (Nat.le_of_not_lt hj)]


/-- Log 5: preferring one of several leaves them the same several. -/
theorem mem_preferred {α : Type} [DecidableEq α] (x a : α) (l : List α) : a ∈ preferred x l ↔ a ∈ l := by
  unfold preferred; split
  · by_cases h : a = x <;> simp_all
  · rfl

/-! ### Time -/

/-- R1: the timebase at a command's moment. -/
@[simp] theorem tick_now (m : Moment) (s : State) : (tick m s).now = s.now + m.elapsed := rfl

/-- R126: VALVE as its conditions give it. -/
@[simp] theorem judgeValve_ring (s : State) : (judgeValve s).ring = { s.ring with valve := s.valveOpen } := rfl

/-- R126: of the ring, the passing of time moves VALVE alone. -/
@[simp] theorem tick_ring (m : Moment) (s : State) :
    (tick m s).ring = { s.ring with valve := State.valveOpen { s with now := s.now + m.elapsed } } := rfl

/-- Log 14: nothing reaches a part held in power-on reset. -/
theorem happen_held {s : State} (h : s.held = true) (m : Moment) (f : State → State) : happen m f s = .next s := by
  simp [happen, h]

/-- A command reaches a part that is not held. -/
theorem happen_live {s : State} (h : s.held = false) (m : Moment) (f : State → State) :
    happen m f s = .next (f (tick m s)) := by
  simp [happen, h]

/-! ### Queues -/

/-- R12: a frame replaced in place leaves the length of its queue. -/
@[simp] theorem replaceFirst_length (same : QFrame → Bool) (f : QFrame) (q : List QFrame) :
    (replaceFirst same f q).length = q.length := by
  induction q with
  | nil => rfl
  | cons g q ih => unfold replaceFirst; split <;> simp [ih]

/-- R12: what stands in a queue after a replacement stood there before, or is the new frame. -/
theorem mem_replaceFirst {same : QFrame → Bool} {f g : QFrame} {q : List QFrame} (h : g ∈ replaceFirst same f q) :
    g = f ∨ g ∈ q := by
  induction q with
  | nil => simp [replaceFirst] at h
  | cons x q ih =>
    unfold replaceFirst at h; split at h
    · rcases List.mem_cons.mp h with h | h <;> simp [h]
    · rcases List.mem_cons.mp h with h | h
      · simp [h]
      · rcases ih h with h | h <;> simp [h]

/-- R18: what the Port C arbiter can do: nothing while no frame waits, or one frame off the front of one queue. -/
theorem PortC.startNext_cases (now : Time) (p : PortC) :
    (p.localQ = [] ∧ p.forwardedQ = [] ∧ p.startNext now = p) ∨
    (∃ f rest, p.localQ = f :: rest ∧ (p.forwardedQ = [] ∨ p.mark = .forwarded) ∧
      p.startNext now = ({ p with localQ := rest, mark := .localQ }).send now f) ∨
    (∃ f rest, p.forwardedQ = f :: rest ∧ (p.localQ = [] ∨ p.mark = .localQ) ∧
      p.startNext now = ({ p with forwardedQ := rest, mark := .forwarded }).send now f) := by
  obtain ⟨fq, lq, seq, snd, mark⟩ := p
  cases lq with
  | nil => cases fq <;> simp [PortC.startNext]
  | cons l ls => cases fq <;> cases mark <;> simp [PortC.startNext]

/-- R154, R155: a notice or report never takes the local queue past its capacity. -/
theorem PortC.offerLocal_length {p : PortC} (h : p.localQ.length ≤ Config.localCapacity) (same : QFrame → Bool)
    (f : QFrame) : (p.offerLocal same f).localQ.length ≤ Config.localCapacity := by
  unfold PortC.offerLocal; split
  · simpa using h
  · split
    · simp; omega
    · exact h

/-- R154, R155: a notice or report touches the local queue alone. -/
@[simp] theorem PortC.offerLocal_kept (same : QFrame → Bool) (f : QFrame) (p : PortC) :
    (p.offerLocal same f).forwardedQ = p.forwardedQ ∧ (p.offerLocal same f).seq = p.seq ∧
      (p.offerLocal same f).sending = p.sending ∧ (p.offerLocal same f).mark = p.mark := by
  unfold PortC.offerLocal; (repeat' split) <;> simp

/-- R16: on a transmitting Port D the stages of a frame are made as they stand. -/
theorem startAfter_busy {s : State} (h : s.portD.sending ≠ none) (stages : State → State) :
    startAfter stages s = stages s := by
  unfold startAfter; rw [if_pos (by simpa [Option.isSome_iff_ne_none] using h)]

/-- R16: an idle Port D looks at its queues once, when the stages are made (log 33). -/
theorem startAfter_idle {s : State} (h : s.portD.sending = none) (stages : State → State) :
    ∃ busy : Sending,
      startAfter stages s =
        (let t := stages { s with portD := { s.portD with sending := some busy } }
         kickD { t with portD := { t.portD with sending := none } }) := by
  refine ⟨{ bytes := [], start := s.now }, ?_⟩
  unfold startAfter; rw [if_neg (by simp [h])]

/-! ### The event unit -/

/-- R149: a latching moves the latch, the count and ATTN. -/
@[simp] theorem latchKind_events (k : Kind) (s : State) : (latchKind k s).events = s.events.latched k.number := rfl

/-- R149: the words a latching leaves. -/
@[simp] theorem Events.latched_kept (k : Fin 16) (e : Events) :
    (e.latched k).live = e.live ∧ (e.latched k).report = e.report ∧ (e.latched k).attention = e.attention ∧
      (e.latched k).edge = e.edge ∧ (e.latched k).revNumber = e.revNumber ∧
      (e.latched k).reportCount = e.reportCount := by
  simp [Events.latched]

/-- R149: what a condition offered can do: nothing when it is no change, and otherwise the live value moves, with a
latching on the edge that is watched. -/
theorem offerLive_cases (k : Kind) (v : Bool) (s : State) :
    (s.events.live.getLsbD k.number.val = v ∧ offerLive k v s = s) ∨
    (s.events.live.getLsbD k.number.val ≠ v ∧
      offerLive k v s =
        (if v || s.events.edge.getLsbD k.number.val then latchKind k else id)
          { s with events := { s.events with live := setBit s.events.live k.number v } }) := by
  unfold offerLive; split
  · exact .inl ⟨‹_›, rfl⟩
  · refine .inr ⟨‹_›, ?_⟩
    dsimp only; split <;> rfl

/-- R149: after an offer the live value is the value offered. -/
theorem offerLive_live (k : Kind) (v : Bool) (s : State) :
    (offerLive k v s).events.live.getLsbD k.number.val = v := by
  rcases offerLive_cases k v s with ⟨h, h'⟩ | ⟨_, h'⟩
  · rw [h', h]
  · rw [h']; split
    · exact setBit_same _ _ _
    · exact setBit_same _ _ _

/-- R149: an offer for one kind leaves the live values of the others. -/
theorem offerLive_other {k : Kind} {j : Nat} (v : Bool) (s : State) (h : j ≠ k.number.val) :
    (offerLive k v s).events.live.getLsbD j = s.events.live.getLsbD j := by
  rcases offerLive_cases k v s with ⟨_, h'⟩ | ⟨_, h'⟩
  · rw [h']
  · rw [h']; split <;> simp [setBit_other _ _ h]

/-- R156: an occurrence counts one for the source selected, up to 65535, and nothing for another. -/
theorem countSource_monitor (src : Source) (s : State) :
    (countSource src s).monitor =
      if s.monitor.source = src then { s.monitor with count := min 65535 (s.monitor.count + 1) } else s.monitor := by
  unfold countSource; split <;> simp [judgeLive, offerLive_kept]

/-! ### The governor -/

/-- R89: the governor's ceilings after a composition. -/
@[simp] theorem recompose_gov (s : State) :
    (recompose s).gov = { s.gov with spin := s.spinCeiling, agitate := s.agitateCeiling } := by
  unfold recompose; dsimp only; split <;> simp

/-- R83, R86, R89: the terms do not move in a composition, so the ceilings are what they compose afterwards. -/
theorem recompose_composed (s : State) :
    (recompose s).gov.spin = (recompose s).spinCeiling ∧ (recompose s).gov.agitate = (recompose s).agitateCeiling := by
  simp [State.spinCeiling, State.spinTerms, State.sessionTerm, State.currentPlateau, State.applies, State.agitateCeiling]

/-- R79: b_lim lies in 0..32. -/
theorem bandLimitFrom_le (env : Vector Nat 128) (c u n b : Nat) (h : b + n = 32) : bandLimitFrom env c u n b ≤ 32 := by
  induction n generalizing b with
  | zero => simp [bandLimitFrom]
  | succ n ih => unfold bandLimitFrom; split <;> first | omega | exact ih _ (by omega)

/-- R79: the envelope ceiling lies in 0..1279. -/
theorem envelopeCeiling_le (env : Vector Nat 128) (c u : Nat) : envelopeCeiling env c u ≤ 1279 := by
  have := bandLimitFrom_le env c u 32 0 rfl
  unfold envelopeCeiling bandLimit; omega

/-- A running minimum is at most what it starts from. -/
theorem foldl_min_le (l : List Nat) (a : Nat) : l.foldl min a ≤ a := by
  induction l generalizing a with
  | nil => simp
  | cons x l ih => exact Nat.le_trans (ih _) (Nat.min_le_left _ _)

/-- R83: the SPIN ceiling is at most 1500. -/
theorem spinCeiling_le (s : State) : s.spinCeiling ≤ 1500 := foldl_min_le _ _

/-- R95: the program length is at most 6. -/
theorem programRun_le (t : Tables) (n e : Nat) : programRun t n e ≤ n := by
  induction n generalizing e with
  | zero => simp [programRun]
  | succ n ih =>
    unfold programRun; split
    · omega
    · have := ih (e + 1); omega

/-- R97: the current plateau applies and has not passed. -/
theorem currentPlateau_spec {s : State} {e : Fin 6} (h : s.currentPlateau = some e) :
    s.applies e = true ∧ (s.session.progress[e]).passed = false := by
  have := List.find?_some h
  simpa using this

/-- R69, R73: the load class takes the value handed over. -/
@[simp] theorem setLoadClass_loadClass (c : Nat) (s : State) : (setLoadClass c s).loadClass = c := by
  unfold setLoadClass; split
  · assumption
  · unfold envelopeRevised; dsimp only; split <;> simp

/-! ### The session and the trip unit -/

/-- R83, R86, R89: the effective ceilings are those that the terms standing compose. -/
def State.composed (s : State) : Prop := s.gov.spin = s.spinCeiling ∧ s.gov.agitate = s.agitateCeiling

/-- R148: an offer to the event unit leaves the ceilings and their terms. -/
theorem judgeLive_composed {s : State} (h : s.composed) (k : Kind) : (judgeLive k s).composed := by
  simpa [State.composed, State.spinCeiling, State.spinTerms, State.sessionTerm, State.currentPlateau, State.applies,
    State.agitateCeiling] using h

/-- R116: of the session's own fields, entering a state moves the state alone. -/
@[simp] theorem setSession_session (ch : Choice) (st : SessionState) (s : State) :
    (setSession ch st s).session = { s.session with state := st } := by
  unfold setSession
  refine inOrder_keeps (fun t => t.session = { s.session with state := st }) rfl ?_
  intro f hf t h
  simp only [sessionEvents, List.cons_append, List.nil_append, List.mem_cons, List.not_mem_nil, or_false] at hf
  rcases hf with rfl | rfl | rfl <;> simpa using h

/-- R89, R117: the ceilings are composed when a state has been entered, whatever the order of the effects (log 5). -/
theorem setSession_composed (ch : Choice) (st : SessionState) (s : State) : (setSession ch st s).composed := by
  refine inOrder_brings State.composed ?_ ⟨recompose, by simp, recompose_composed⟩
  intro f hf t h
  simp only [sessionEvents, List.cons_append, List.nil_append, List.mem_cons, List.not_mem_nil, or_false] at hf
  rcases hf with rfl | rfl | rfl
  · exact judgeLive_composed h _
  · exact judgeLive_composed h _
  · exact recompose_composed t

/-- R143: of the trip unit, a further cause moves the cause set alone. -/
@[simp] theorem addCause_trip (c : Cause) (s : State) :
    (addCause c s).trip = { s.trip with causes := s.trip.causes.add c } := rfl

/-- R142: the latch sets, and the TRIP line with it; the record is the one taken at the setting, but for the DRIVE cause
that a departure from IDLE adds (log 29). -/
theorem setTrip_trip (ch : Choice) (c : Cause) (s : State) :
    ∃ set, (setTrip ch c s).trip =
      { s.trip.setBy c (speedAndSource s).1 (speedAndSource s).2 s.est.u with causes := set } := by
  unfold setTrip; dsimp only; split
  · exact ⟨_, by rw [addCause_trip, (tripBlocks_kept ch _).1]⟩
  · exact ⟨_, (tripBlocks_kept ch _).1⟩

/-- R142: the latch sets, and the TRIP line with it. -/
theorem setTrip_latch (ch : Choice) (c : Cause) (s : State) :
    (setTrip ch c s).trip.latch = true ∧ (setTrip ch c s).trip.line = true ∧
      (setTrip ch c s).trip.first = some c := by
  obtain ⟨set, h⟩ := setTrip_trip ch c s
  rw [h]; exact ⟨rfl, rfl, rfl⟩

/-- R142, R143: a cause judged leaves the latch set, or was false and leaves everything. -/
theorem judgeCause_latch_or_same (ch : Choice) (c : Cause) (s : State) :
    (judgeCause ch c s).trip.latch = true ∨ judgeCause ch c s = s := by
  unfold judgeCause; split
  · split
    · left; simpa [addCause] using ‹s.trip.latch = true›
    · left; obtain ⟨set, h⟩ := setTrip_trip ch c s; rw [h]; rfl
  · exact Or.inr rfl

/-- R144: while the latch is set, judging causes touches the cause set alone. -/
theorem judgeCauses_latched {s : State} (h : s.trip.latch = true) (ch : Choice) (cs : List Cause) :
    ∃ set, judgeCauses ch cs s = { s with trip := { s.trip with causes := set } } := by
  unfold judgeCauses
  generalize preferred ch.cause cs = l
  induction l generalizing s with
  | nil => exact ⟨s.trip.causes, rfl⟩
  | cons c l ih =>
    by_cases hc : s.causeHolds c = true
    · obtain ⟨set, hs⟩ := ih (s := addCause c s) (by simpa using h)
      exact ⟨set, by simpa [judgeCause, hc, h] using hs⟩
    · obtain ⟨set, hs⟩ := ih h
      exact ⟨set, by simpa [judgeCause, hc] using hs⟩

/-- R144: no cause judged clears the latch. -/
theorem judgeCauses_latch {s : State} (h : s.trip.latch = true) (ch : Choice) (cs : List Cause) :
    (judgeCauses ch cs s).trip.latch = true := by
  obtain ⟨set, hs⟩ := judgeCauses_latched h ch cs
  rw [hs]; exact h

/-! ### The management agent -/

/-- R159: a response touches the Port C transmit side alone. -/
theorem respond_portC (r : Request) (status : Byte) (data : List Word) (s : State) :
    respond r status data s = { s with portC := s.portC.joinLocal s.now (responseFrame r status data) } := rfl

/-- R159: what the agent can do: nothing, or take the front request and run it. -/
theorem execute_cases (isOp : Byte → Bool) (run : Request → State → State) (s : State) :
    execute isOp run s = s ∨
      ∃ r rest, s.requests = r :: rest ∧ isOp r.op = true ∧ s.portC.localQ.length < Config.localCapacity ∧
        execute isOp run s = run r { s with requests := rest } := by
  unfold execute; split
  · exact .inl rfl
  · rename_i r rest h
    split
    · rename_i hc
      simp only [Bool.and_eq_true, decide_eq_true_eq] at hc
      exact .inr ⟨r, rest, h, hc.1, hc.2, rfl⟩
    · exact .inl rfl

end Sys2Proof.Machine
end

