-- ==== Sys2Proof/WellFormed.lean ====
section
/-! DEFINITION. Which commands the links and pins can carry: the operands that Tables 1-5, 1-13 and 1-14 allow. -/

namespace Sys2Proof

/-- R5, Table 1-13: the payload is one a good frame of the class may have. -/
def payloadFits (cls : Class) (payload : List Byte) : Bool := Machine.lengthAllowed cls payload.length

/-- R8, R9: the class entry for the port can direct PASS (it is no fixed entry). -/
def canPass (port : Port) (cls : Class) : Bool := (Machine.fixedAction port cls).isNone

/-- R8, R9: the class entry for the port can direct DROP. -/
def canDrop (port : Port) (cls : Class) : Bool :=
  match Machine.fixedAction port cls with
  | none => true
  | some a => a = .drop

/-- A command that the outside of the part can give. -/
def Instr.wellFormed : Instr → Bool
  | .managementRequestTaken _ _ _ _ _ _ data => decide (data.length ≤ 20)
  | .passFrameTaken _ port cls _ payload => canPass port cls && payloadFits cls payload
  | .dropFrameTaken _ port cls _ payload => canDrop port cls && payloadFits cls payload
  | .powerOnReset | .frameError .. | .frameTimeout .. | .speedDemandTaken .. | .driveStatusTaken .. | .sampleTaken ..
  | .transmitEnd .. | .controllerSilent .. | .orphanStopRepeat .. | .driveSilent .. | .sensorLoss ..
  | .switchRawChange .. | .debounceExpiry .. | .indexPulse .. | .indexLost .. | .valveWindowEdge .. | .flowPulse ..
  | .flowTimeout .. | .flowTailExpiry .. | .bleedPeriod .. | .monitorPeriodExpiry .. | .read .. | .write ..
  | .setBits .. | .clearBits .. | .acknowledgeIf .. | .transfer .. | .clearTrip .. | .query .. | .softReset ..
  | .unknownOp .. | .byteReceived .. | .resetNLow => true

end Sys2Proof
end

