-- ==== Sys2Proof/Laws/PerInstr.lean ====
section
/-! SUPPORT. Statements made of every command, one lemma per constructor. -/

namespace Sys2Proof.Laws.FramePayloadFits

open Sys2Proof

/-- The payload that a command's frame carries, with the frame's class; `none` for a command that carries no frame. -/
def carried : Instr → Option (Sys2Proof.Class × List Byte)
  | .speedDemandTaken _ _ target ramp mode flags => some (0x11, Machine.be16 target ++ Machine.be16 ramp ++ [mode, flags])
  | .driveStatusTaken _ _ speed torque bus st fault => some (0x31, Machine.statusPayload speed torque bus st fault)
  | .managementRequestTaken _ _ tag op object index data => some (0x3C, Machine.requestPayload tag op object index data)
  | .passFrameTaken _ _ cls _ payload | .dropFrameTaken _ _ cls _ payload => some (cls, payload)
  | .sampleTaken _ _ count ax ay az => some (0x21, Machine.samplePayload count ax ay az)
  | _ => none

/-- R5, Table 1-13: a well-formed command that carries a frame carries a payload of a length its class may have. -/
def Statement (i : Instr) : Prop :=
  i.wellFormed = true → ∀ cls payload, carried i = some (cls, payload) → Machine.lengthAllowed cls payload.length = true

theorem powerOnReset : Statement .powerOnReset := fun _ _ _ e => nomatch e

theorem frameError (m : Moment) (link : Link) (byte : LineByte) : Statement (.frameError m link byte) := fun _ _ _ e => nomatch e

theorem frameTimeout (m : Moment) (link : Link) : Statement (.frameTimeout m link) := fun _ _ _ e => nomatch e

theorem speedDemandTaken (m : Moment) (seq : Byte) (target ramp : Sys2Proof.Word) (mode flags : Byte) :
    Statement (.speedDemandTaken m seq target ramp mode flags) := by
  intro _ c p e
  simp only [carried, Option.some.injEq, Prod.mk.injEq] at e
  obtain ⟨rfl, rfl⟩ := e
  rfl

theorem driveStatusTaken (m : Moment) (seq : Byte) (speed torque bus : Sys2Proof.Word) (driveState driveFault : Byte) :
    Statement (.driveStatusTaken m seq speed torque bus driveState driveFault) := by
  intro _ c p e
  simp only [carried, Option.some.injEq, Prod.mk.injEq] at e
  obtain ⟨rfl, rfl⟩ := e
  rfl

theorem managementRequestTaken (m : Moment) (seq tag op object index : Byte) (data : List Byte) :
    Statement (.managementRequestTaken m seq tag op object index data) := by
  intro h c p e
  simp only [carried, Option.some.injEq, Prod.mk.injEq] at e
  obtain ⟨rfl, rfl⟩ := e
  simp only [Instr.wellFormed, decide_eq_true_eq] at h
  simp [Machine.lengthAllowed, Machine.speedDemandClass, Machine.sampleClass, Machine.driveStatusClass,
    Machine.requestClass, Machine.requestPayload]
  omega

theorem passFrameTaken (m : Moment) (port : Port) (cls : Sys2Proof.Class) (seq : Byte) (payload : List Byte) :
    Statement (.passFrameTaken m port cls seq payload) := by
  intro h c p e
  simp only [carried, Option.some.injEq, Prod.mk.injEq] at e
  obtain ⟨rfl, rfl⟩ := e
  simp only [Instr.wellFormed, Bool.and_eq_true, payloadFits] at h
  exact h.2

theorem dropFrameTaken (m : Moment) (port : Port) (cls : Sys2Proof.Class) (seq : Byte) (payload : List Byte) :
    Statement (.dropFrameTaken m port cls seq payload) := by
  intro h c p e
  simp only [carried, Option.some.injEq, Prod.mk.injEq] at e
  obtain ⟨rfl, rfl⟩ := e
  simp only [Instr.wellFormed, Bool.and_eq_true, payloadFits] at h
  exact h.2

theorem sampleTaken (m : Moment) (seq count : Byte) (ax ay az : Sys2Proof.Word) :
    Statement (.sampleTaken m seq count ax ay az) := by
  intro _ c p e
  simp only [carried, Option.some.injEq, Prod.mk.injEq] at e
  obtain ⟨rfl, rfl⟩ := e
  rfl

theorem transmitEnd (m : Moment) (port : Port) : Statement (.transmitEnd m port) := fun _ _ _ e => nomatch e

theorem controllerSilent (m : Moment) : Statement (.controllerSilent m) := fun _ _ _ e => nomatch e

theorem orphanStopRepeat (m : Moment) : Statement (.orphanStopRepeat m) := fun _ _ _ e => nomatch e

theorem driveSilent (m : Moment) : Statement (.driveSilent m) := fun _ _ _ e => nomatch e

theorem sensorLoss (m : Moment) : Statement (.sensorLoss m) := fun _ _ _ e => nomatch e

theorem switchRawChange (m : Moment) (switch : Switch) : Statement (.switchRawChange m switch) := fun _ _ _ e => nomatch e

theorem debounceExpiry (m : Moment) (switch : Switch) : Statement (.debounceExpiry m switch) := fun _ _ _ e => nomatch e

theorem indexPulse (m : Moment) : Statement (.indexPulse m) := fun _ _ _ e => nomatch e

theorem indexLost (m : Moment) : Statement (.indexLost m) := fun _ _ _ e => nomatch e

theorem valveWindowEdge (m : Moment) : Statement (.valveWindowEdge m) := fun _ _ _ e => nomatch e

theorem flowPulse (m : Moment) : Statement (.flowPulse m) := fun _ _ _ e => nomatch e

theorem flowTimeout (m : Moment) : Statement (.flowTimeout m) := fun _ _ _ e => nomatch e

theorem flowTailExpiry (m : Moment) : Statement (.flowTailExpiry m) := fun _ _ _ e => nomatch e

theorem bleedPeriod (m : Moment) : Statement (.bleedPeriod m) := fun _ _ _ e => nomatch e

theorem monitorPeriodExpiry (m : Moment) : Statement (.monitorPeriodExpiry m) := fun _ _ _ e => nomatch e

theorem read (m : Moment) : Statement (.read m) := fun _ _ _ e => nomatch e

theorem write (m : Moment) : Statement (.write m) := fun _ _ _ e => nomatch e

theorem setBits (m : Moment) : Statement (.setBits m) := fun _ _ _ e => nomatch e

theorem clearBits (m : Moment) : Statement (.clearBits m) := fun _ _ _ e => nomatch e

theorem acknowledgeIf (m : Moment) : Statement (.acknowledgeIf m) := fun _ _ _ e => nomatch e

theorem transfer (m : Moment) : Statement (.transfer m) := fun _ _ _ e => nomatch e

theorem clearTrip (m : Moment) : Statement (.clearTrip m) := fun _ _ _ e => nomatch e

theorem query (m : Moment) : Statement (.query m) := fun _ _ _ e => nomatch e

theorem softReset (m : Moment) : Statement (.softReset m) := fun _ _ _ e => nomatch e

theorem unknownOp (m : Moment) : Statement (.unknownOp m) := fun _ _ _ e => nomatch e

theorem byteReceived (m : Moment) (link : Link) (byte : LineByte) : Statement (.byteReceived m link byte) := fun _ _ _ e => nomatch e

theorem resetNLow : Statement .resetNLow := fun _ _ _ e => nomatch e

end Sys2Proof.Laws.FramePayloadFits
end

