-- ==== Sys2Proof/Tests/Slice0.lean ====
section
/-! SUPPORT. Tests: one step each, with results taken from the worked examples and tables of spec/; ill-formed commands refused; and for every statement with hypotheses a state and operands that meet them (`witness_…`). -/

set_option Elab.async false

namespace Sys2Proof.Tests

open Sys2Proof.Machine Sys2Proof.Safety

/-! ### Helpers -/

/-- A moment so many µs after the command before. -/
def at_ (us : Nat) : Moment := { elapsed := BitVec.ofNat 32 us, choice := Choice.listed }

/-- The state after a command. -/
def after (c : Instr) (s : State) : State :=
  match exec c s with
  | .next t => t
  | .fault _ | .refused _ => s

/-- A transmission in progress. -/
def onLine : Sending := { bytes := frameBytes 0x05 0 [], start := 0 }

/-- Both ports transmitting. -/
def busy : State :=
  { State.reset with
    portC := { PortC.reset with sending := some onLine }
    portD := { PortD.reset with sending := some onLine } }

/-- One request waits, Port C transmitting. -/
def asking (r : Request) : State := { busy with requests := [r] }

/-- A request of tag 7. -/
def request (op object index : Byte) (words : List Sys2Proof.Word) : Request :=
  { tag := 7, op, object, index, data := wordBytes words }

/-- The payload at the back of the Port C local queue. -/
def answer (s : State) : List Byte := (s.portC.localQ.getLast?.map QFrame.payload).getD []

/-- A waiting frame with no mark. -/
def waits (cls : Sys2Proof.Class) (payload : List Byte) : QFrame :=
  { cls, payload, changed := false, restated := false }

/-- The tracker LOCKED with a period, the index at 0. -/
def lockedAt (p : Nat) : Tracker := { state := .locked, lastIndex := some 0, period := some p, mismatch := 0 }

/-- Figure 4-2: the estimate of the worked example, VALID. -/
def figure42 : Estimator :=
  { state := .valid, acc := some { i := 0, q := 393216000, n := 200 }, seed := false, priming := 3, fx := 0, fy := 1920,
    m16 := 1920, band := 7, u := 180, thin := 0 }

/-- Table 5-3 in the row of class 2. -/
def table53 : Vector Nat 128 :=
  (List.range 32).foldl
    (fun v b => put v (64 + b)
      (if b ≤ 5 then 9999 else if b ≤ 9 then 600 else if b ≤ 14 then 400 else if b ≤ 19 then 250
        else if b ≤ 24 then 160 else 120)) (Vector.replicate 128 0)

/-- The part of the worked examples at 300 rpm in OPEN: both limits set, the estimate of Figure 4-2, class 2. -/
def spinning : State :=
  { State.reset with
    tracker := lockedAt 200000
    est := figure42
    loadClass := 2
    gov := { eHeld := 799, eNew := 799, rise := 0, spin := 799, agitate := 180 }
    tables :=
      { Tables.reset with
        envelope := table53, gain := put (Vector.replicate 32 256) 7 384, rampLimit := put (Vector.replicate 32 0) 7 200 }
    limits := { abs := some 1100, mass := some 600 }
    requested := { mode := 2, target := 1000 }
    standing := { mode := .spin, target := 799, ramp := 200, governed := true }
    drive := { speed := 300, torque := 0, time := 0 }
    session := { Session.reset with state := .opened }
    ring := { State.reset.ring with bleed := none }
    events := { Events.reset with live := 3 }
    intake := { State.reset.intake with last := { SampleRecord.reset with present := true } } }

/-- Table 6-4's plateau 0 and 1. -/
def program : Vector Nat 36 :=
  ⟨#[200, 6, 250, 150, 4, 2, 300, 8, 150, 150, 4, 2] ++ Array.replicate 24 0, by decide⟩

/-- Figure 7-3: in CORRECT at plateau 1, injecting 150 g into chamber 2, so many grams credited. -/
def injecting (credited : Nat) : State :=
  { spinning with
    tables := { spinning.tables with plateau := program }
    gov := { spinning.gov with spin := 300 }
    standing := { mode := .spin, target := 300, ramp := 200, governed := true }
    session :=
      { Session.reset with
        state := .correct
        progress := put (Vector.replicate 6 Progress.reset) 0 { passed := true, attempts := 0, uLast := 228 }
        corrections :=
          [{ plateau := 1, chamber := 2, requested := 150, credited := 0, outcome := .inProgress, uPlan := 180 }] }
    ring :=
      { spinning.ring with
        contents := put (Vector.replicate 4 0) 2 credited
        ctx := { InjContext.reset with state := .active, chamber := 2, requested := 150, credited := credited }
        lead := 2621 } }

/-! ### Well-formed commands -/

theorem test_wf_request_data_of_21_bytes :
    (Instr.managementRequestTaken (at_ 0) 0 0 1 1 0 (List.replicate 21 0)).wellFormed = false := by decide
theorem test_wf_pass_of_a_fixed_class : (Instr.passFrameTaken (at_ 0) .c 0x11 0 [0, 0, 0, 0, 0, 0]).wellFormed = false := by decide
theorem test_wf_pass_of_25_bytes : (Instr.passFrameTaken (at_ 0) .d 0x05 0 (List.replicate 25 0)).wellFormed = false := by
  decide
theorem test_wf_drop_of_the_governed_class :
    (Instr.dropFrameTaken (at_ 0) .c 0x11 0 [0, 0, 0, 0, 0, 0]).wellFormed = false := by decide
theorem test_wf_drop_of_a_short_notice : (Instr.dropFrameTaken (at_ 0) .d 0x3E 0 (List.replicate 9 0)).wellFormed = false := by
  decide
theorem test_wf_drop_of_a_notice : (Instr.dropFrameTaken (at_ 0) .d 0x3E 0 (List.replicate 10 0)).wellFormed = true := by
  decide
theorem test_no_word_spells_a_command : decodeTableWord 32 5 = none := rfl

/-! ### Arithmetic -/

/-- The check of "123456789" under the polynomial 0x1021 with all ones at the start. -/
theorem test_crc : crc [0x31, 0x32, 0x33, 0x34, 0x35, 0x36, 0x37, 0x38, 0x39] = 0x29B1 := by decide +kernel
/-- Section 3.10: the rows of sines and cosines. -/
theorem test_sines : [0, 8192, 16384, 36864, 65535].map (fun a => (sinAu a, cosAu a)) =
    [(0, 16384), (11585, 11585), (16384, 0), (-6270, -15137), (-101, 16384)] := by decide +kernel
/-- Figure 4-3, revolution 4. -/
theorem test_filter_floors : filterStep 2 (-100) (-401) = -176 ∧ filterStep 2 1980 1981 = 1980 := by decide
theorem test_magnitude : magnitude (-176) 1980 = 1987 ∧ magnitude 15 1915 = 1915 ∧ massOf 1987 384 = 186 := by decide +kernel
/-- Figure 4-2. -/
theorem test_estimate_seeds :
    let e := (Estimator.reset).estimate 2 spinning.tables.gain 7 { i := 0, q := 393216000, n := 200 }
    (e.fx, e.fy, e.m16, e.u, e.seed) = (0, 1920, 1920, 180, false) := by decide +kernel
theorem test_sample_terms :
    Accumulation.take (-120) 0 16384 Accumulation.empty = { i := 0, q := 1966080, n := 1 } := by decide +kernel
/-- Figure 4-5, and the slow climb of Figure 4-6. -/
theorem test_weighing_figure :
    ({ Weighing.reset with cSum := 1350, n := 9, tFirst := 20000000, sFirst := 60, tLast := 20400000, sLast := 120 } :
      Weighing).figure = 1000 ∧ classOf ⟨#[400, 800, 1400], rfl⟩ 1000 = 2 := by decide +kernel
theorem test_weighing_saturates :
    ({ Weighing.reset with cSum := 122000, n := 61, tFirst := 0, sFirst := 60, tLast := 3000000, sLast := 80 } :
      Weighing).figure = 65535 := by decide +kernel
/-- Section 5.10: the search of Table 5-3, an entry equal to U admitting the load. -/
theorem test_envelope_search :
    [100, 160, 180, 260].map (envelopeCeiling table53 2) = [1279, 999, 799, 599] := by decide +kernel
/-- Figure 5-1, revolutions 2, 5 and 9. -/
theorem test_hysteresis :
    (Governor.revolve 4 599 { spinning.gov with eHeld := 799 }).eHeld = 599 ∧
      (Governor.revolve 4 599 { spinning.gov with eHeld := 599, rise := 2 }).rise = 0 ∧
      (Governor.revolve 4 999 { spinning.gov with eHeld := 599, rise := 3 }).eHeld = 999 := by decide
/-- Section 5.11: the demands of the other modes, and the ramp where the table sets no limit. -/
theorem test_govern_targets :
    governTarget spinning.gov .agitate (-250) = -180 ∧ governTarget spinning.gov .agitate 120 = 120 ∧
      governTarget spinning.gov .spin (-40) = 0 ∧ governTarget spinning.gov .coast 500 = 0 ∧
      governRamp 200 300 = 200 ∧ governRamp 200 0 = 1 ∧ governRamp 0 2500 = 2000 := by decide
/-- Figure 6-2, and the tie with a full chamber. -/
theorem test_planning :
    ([16384, 4106, 0].map fun p => planCorrection
      { spinning with tables := { spinning.tables with phase := put (Vector.replicate 32 0) 7 p } } 150) =
    [some (2, 150), some (3, 150), some (3, 150)] := by decide +kernel
theorem test_planning_tie :
    planCorrection
      { spinning with
        est := { figure42 with fx := -500, fy := -500 }
        ring := { spinning.ring with contents := put (Vector.replicate 4 0) 0 398 } } 150 = some (1, 46) := by decide +kernel
/-- Section 7.5: the lead, and the edges of the windows of chambers 3 and 0. -/
theorem test_window_edges :
    leadOf 8000 200000 = 2621 ∧
      ([40386, 40387, 52674, 52675].map fun t => inWindow 3 2048 ((t + 2621) % 65536)) = [false, true, true, false] ∧
      ([56770, 56771, 3522, 3523].map fun t => inWindow 0 2048 ((t + 2621) % 65536)) = [false, true, true, false] := by
  decide +kernel

/-! ### Resets -/

theorem test_power_on_with_lid_open :
    (after .powerOnReset { State.reset with lid := { State.reset.lid with raw := false } }).events.live = 0x1000 := by
  decide +kernel
theorem test_reset_n_low_idles_ports : (after .resetNLow busy).portC.sending = none := by decide +kernel

/-! ### Links -/

theorem test_byte_starts_a_frame :
    (after (.byteReceived (at_ 10) .portC { value := 0xA5, stopHigh := true }) State.reset).framerC.phase = .header := by
  decide +kernel
/-- R5: a length that no frame of the class has; the start byte goes and the 0xA5 behind it starts a frame again. -/
theorem test_frame_error_reexamines :
    (after (.frameError (at_ 10) .portC { value := 25, stopHigh := true })
      { State.reset with framerC := { phase := .header, stored := [0xA5, 0x05, 0xA5], lastByte := 0, length := 0 } }).framerC.stored
      = [0xA5, 25] := by decide +kernel
theorem test_frame_timeout_counts :
    (after (.frameTimeout (at_ 101) .portC)
      { State.reset with framerC := { phase := .header, stored := [0xA5], lastByte := 0, length := 0 } }).monitor.count = 1 := by
  decide +kernel
/-- Section 1.10: SPIN 900 replaces the waiting SPIN 1000 in place. -/
theorem test_speed_demand_replaces :
    (after (.speedDemandTaken (at_ 70) 9 900 300 2 0)
      { spinning with
        portD := { busy.portD with forwardedQ := [waits 0x11 (demandPayload 1000 300 2 0)] } }).portD.forwardedQ
      = [waits 0x11 (demandPayload 900 300 2 0)] := by decide +kernel
/-- Section 1.10: governed at its transmit start, with ramp 200 and sequence 0x47. -/
theorem test_demand_leaves_governed :
    (after (.transmitEnd (at_ 260) .d)
      { spinning with
        gov := { spinning.gov with spin := 559 }
        portD :=
          { PortD.reset with
            seq := 0x47, sending := some { bytes := frameBytes 0x05 0x46 (List.replicate 20 0), start := 0 }
            forwardedQ := [waits 0x11 (demandPayload 900 300 2 0)] } }).portD.sending
      = some { bytes := frameBytes 0x11 0x47 (demandPayload 559 200 2 1), start := 260 } := by decide +kernel
/-- Section 1.11, transmit starts 1 and 2. -/
theorem test_port_c_alternates :
    (after (.transmitEnd (at_ 70) .c)
      { busy with portC := { busy.portC with forwardedQ := [waits 0x31 []], localQ := [waits 0x3E [7]] } }).portC.mark = .localQ := by
  decide +kernel
theorem test_drive_status_clamped :
    (after (.driveStatusTaken (at_ 5) 0 1600 10 3000 1 0) busy).drive.speed = 1500 := by decide +kernel
theorem test_request_queue_full :
    (after (.managementRequestTaken (at_ 5) 0 7 1 0x30 0 [0, 2])
      { busy with requests := [request 1 1 0 [1], request 1 1 0 [1]], monitor := { Monitor.reset with source := .drops } }).monitor.count
      = 1 := by decide +kernel
theorem test_pass_renumbered :
    (after (.passFrameTaken (at_ 5) .c 0x05 0x99 [1, 2]) State.reset).portD.sending
      = some { bytes := frameBytes 0x05 0 [1, 2], start := 5 } := by decide +kernel
theorem test_drop_ends_silence :
    (after (.dropFrameTaken (at_ 5) .c 0x31 4 (List.replicate 8 0))
      { State.reset with
        silence := { State.reset.silence with controllerSilent := true, orphan := some 0 } }).silence.controllerSilent
      = false := by decide +kernel
/-- Section 2.5: sample 20. -/
theorem test_sample_20 :
    let t := after (.sampleTaken (at_ 1003130) 0 20 9150 (BitVec.ofInt 16 (-204)) 0)
      { State.reset with
        intake := { State.reset.intake with lastCount := 18, armed := true }, monitor := { Monitor.reset with source := .seqGap } }
    (t.intake.last.ax, t.intake.last.ay, t.intake.last.saturated, t.intake.last.timestamp, t.monitor.count) =
      (8000, -204, true, 1002730, 1) := by decide +kernel
/-- Section 3.10: early, on the index, the last angle, late. -/
theorem test_sample_angles :
    ([250, 400, 112900, 200399, 200500].map fun t =>
      ({ spinning with now := BitVec.ofNat 32 t } : State).sampleAngle) =
    [.early, .angle 0, .angle 36864, .angle 65535, .late] := by decide +kernel

/-! ### Silence and switches -/

theorem test_controller_silent_stops :
    (after (.controllerSilent (at_ 500000)) busy).portD.localQ = [orphanFrame 120] := by decide +kernel
theorem test_orphan_stop_repeats :
    (after (.orphanStopRepeat (at_ 100000))
      { busy with silence := { busy.silence with controllerSilent := true, orphan := some 0 } }).silence.orphan = some 100000 := by
  decide +kernel
theorem test_drive_silent_in_idle : (after (.driveSilent (at_ 100000)) busy).trip.latch = false := by decide +kernel
/-- Section 2.5: 20 ms after sample 20. -/
theorem test_sensor_loss : (after (.sensorLoss (at_ 20000)) spinning).est.state = .invalid := by decide +kernel
/-- Section 2.7: 3 ms, the timing is cancelled. -/
theorem test_lid_bounce_cancelled :
    (after (.switchRawChange (at_ 3000) .lid)
      { State.reset with lid := { raw := false, debounced := true, pending := true, since := 0 } }).lid.pending = false := by
  decide +kernel
/-- Section 2.7: 31 ms, at 95 rpm. -/
theorem test_lid_opens_trips :
    let t := after (.debounceExpiry (at_ 31000) .lid)
      { State.reset with
        lid := { raw := false, debounced := true, pending := true, since := 11000 }
        drive := { speed := 95, torque := 0, time := 0 }, events := { Events.reset with attention := 0x1000 } }
    (t.lid.debounced, t.trip.first, t.events.attn) = (false, some .lid, true) := by decide +kernel
/-- Section 8.6, at 0 ms. -/
theorem test_strike_during_a_correction :
    let t := after (.debounceExpiry (at_ 2000) .strike)
      { injecting 84 with strike := { raw := true, debounced := false, pending := true, since := 0 } }
    (t.trip.speed, t.trip.u, t.ring.contents[(2 : Fin 4)], t.session.progress[(1 : Fin 6)].attempts, t.standing) =
      (300, 180, 84, 1, { mode := .stop, target := 0, ramp := 600, governed := true }) := by decide +kernel

/-! ### Angle -/

/-- Section 3.9: the rows at 1,030,000, 2,500,000, 3,300,000, 3,500,000 and 3,850,000. -/
theorem test_pulses_of_a_climb :
    ((Tracker.timingFrom 1000000).pulse 1030000 (some 22)).2 = .glitch ∧
      (Tracker.timingFrom 1000000).pulse 2500000 (some 41) =
        ({ state := .locked, lastIndex := some 2500000, period := some 1500000, mismatch := 0 }, .gained) ∧
      (Tracker.pulse 3300000 (some 74)
        { state := .locked, lastIndex := some 2500000, period := some 1500000, mismatch := 0 }).2 = .closed ∧
      (Tracker.pulse 3500000 (some 80)
        { state := .locked, lastIndex := some 3300000, period := some 800000, mismatch := 0 }).2 = .glitch := by
  decide +kernel
/-- Section 3.11: the fourth pulse. -/
theorem test_false_index_held :
    (Tracker.pulse 200000 (some 600) { lockedAt 200000 with mismatch := 3 }) =
      ({ state := .held, lastIndex := some 200000, period := some 200000, mismatch := 4 }, .lost) := by decide +kernel
/-- Figure 4-2's sums, closed again at 300 rpm. -/
theorem test_index_pulse_closes :
    (after (.indexPulse (at_ 200000)) spinning).est.u = 180 := by decide +kernel
theorem test_index_lost_aborts :
    (after (.indexLost (at_ 400001)) (injecting 84)).ring.ctx.outcome = .aborted := by decide +kernel

/-! ### Ring -/

/-- Section 7.5, chamber 2's window at e = 73,252 (section 7.11). -/
theorem test_valve_opens : (after (.valveWindowEdge (at_ 73252)) (injecting 0)).ring.valve = true := by decide +kernel
theorem test_valve_closed_before : (after (.valveWindowEdge (at_ 73251)) (injecting 0)).ring.valve = false := by
  decide +kernel
/-- Section 7.11: the 38th pulse. -/
theorem test_38th_pulse :
    let t := after (.flowPulse (at_ 84000)) (injecting 148)
    (t.ring.ctx.outcome, t.ring.ctx.credited, t.ring.contents[(2 : Fin 4)], t.session.state) = (.done, 152, 152, .settle) := by
  decide +kernel
/-- Section 7.13: the pulse at 3100. -/
theorem test_fifth_stray :
    let t := after (.flowPulse (at_ 3100000))
      { State.reset with ring := { State.reset.ring with strayCount := 4, strayTime := 2800000 } }
    (t.ring.strayCount, t.ring.available, t.events.counts[(5 : Fin 16)]) = (0, false, 1) := by decide +kernel
theorem test_no_flow :
    (after (.flowTimeout (at_ 1500001)) (injecting 0)).session.corrections.map (fun c => c.outcome) = [.noFlow] := by
  decide +kernel
theorem test_tail_closes :
    (after (.flowTailExpiry (at_ 300000))
      { State.reset with
        ring := { State.reset.ring with ctx := { InjContext.reset with state := .tail } } }).ring.ctx.state = .closed := by
  decide +kernel
/-- Section 7.12: the first period. -/
theorem test_bleed :
    (after (.bleedPeriod (at_ 100000))
      { State.reset with
        ring := { State.reset.ring with contents := put (Vector.replicate 4 0) 2 156 } }).ring.contents[(2 : Fin 4)] = 150 := by
  decide +kernel

/-! ### The orders that the spec leaves open -/

/-- R134: an injection that times out latches INJECTION_FAULT in CORRECT or, taken last, in SETTLE; with no settle
revolutions the session goes on to DWELL, but no notice of the fault can show that state. -/
theorem test_fault_notice_shows_settle :
    let s := { injecting 0 with
      portC := busy.portC, portD := busy.portD
      tables := { spinning.tables with plateau := put program 10 0 }
      events := { (injecting 0).events with report := 0x0020 } }
    ([false, true].map fun last =>
      let t := after (.flowTimeout { elapsed := 1500001, choice := { Choice.listed with faultLast := last } }) s
      (((answer t).getD 0 0, (answer t).getD 3 0), t.session.state)) =
    [((5, SessionState.correct.code), .dwell), ((5, SessionState.settle.code), .dwell)] := by decide +kernel
/-- R14, R150: a frame dropped while the monitor counter stands one below its end may latch the two kinds in either
order. -/
theorem test_drop_latches_in_either_order :
    ([([] : List Nat), [1]].map fun l =>
      let t := dropFromQueue { Choice.listed with drop := l } { busy with
        events := { Events.reset with report := 0xFFFF }
        monitor := { Monitor.reset with source := .drops, count := 65534 } }
      t.portC.localQ.map fun f => f.payload.getD 0 0) = [[14, 15], [15, 14]] := by decide +kernel
/-- R24, R150: at an orphan stop LIMITED may become false, with the session's act, before GOVERNING does, with the start of
the orphan demand, or after it. -/
theorem test_orphan_stop_in_either_order :
    ([([] : List Nat), [2]].map fun l =>
      let s := { injecting 0 with
        portC := busy.portC
        session := { (injecting 0).session with state := .limited, failed := some 1 }
        events := { Events.reset with live := 0x0012, report := 0x0012, edge := 0xFFFF } }
      let t := after (.controllerSilent { elapsed := 500000, choice := { Choice.listed with effects := l } }) s
      (t.portC.localQ.map (fun f => f.payload.take 2), t.session.state)) =
    [([[4, 0], [1, 0]], .rundown), ([[1, 0], [4, 0]], .rundown)] := by decide +kernel
/-- R99, R100, R139: at a start at the speed of plateau 0 with the drive silent, the trip may find the session in CLIMB or
already in DWELL. -/
theorem test_start_trips_in_CLIMB_or_in_DWELL :
    ([([] : List Nat), [4]].map fun l =>
      let s := { State.reset with
        portC := busy.portC, tracker := lockedAt 200000, tables := { Tables.reset with plateau := program }
        silence := { State.reset.silence with driveSilent := true }, events := { Events.reset with report := 0x0800 } }
      let m : Moment := { elapsed := 0, choice := { Choice.listed with session := l, trip := [3] } }
      let t := after (.speedDemandTaken m 0 900 300 2 0) s
      ((answer t).getD 3 0, t.session.state)) =
    [(SessionState.climb.code, .tripped), (SessionState.dwell.code, .tripped)] := by decide +kernel

/-! ### Monitor and management -/

/-- Section 9.8: the expiry at 1000 ms. -/
theorem test_monitor_expiry :
    (after (.monitorPeriodExpiry (at_ 1000000))
      { State.reset with
        monitor := { count := 15, holding := 0, source := .drops, auto := true, timer := some 0 } }).monitor
      = { count := 0, holding := 15, source := .drops, auto := true, timer := some 1000000 } := by decide +kernel
/-- Section 10.7, request 2. -/
theorem test_write_clamped :
    answer (after (.write (at_ 0)) (asking (request 2 0x20 8 [100, 110]))) = [7, 2, 1, 0x20, 0, 100, 0, 120] := by
  decide +kernel
/-- Section 10.7, requests 3 and 4. -/
theorem test_write_class_alias :
    answer (after (.write (at_ 0)) (asking (request 2 0x01 5 [0x0107]))) = [7, 2, 0, 0x01, 1, 0] ∧
      answer (after (.write (at_ 0)) (asking (request 2 0x01 16 [0, 0]))) = [7, 2, 6, 0x01] := by decide +kernel
/-- Section 10.7, request 7. -/
theorem test_read_limits :
    answer (after (.read (at_ 0)) { asking (request 1 0x30 0 [2]) with limits := { abs := some 1100, mass := some 600 } })
      = [7, 1, 0, 0x30, 4, 76, 2, 88] := by decide +kernel
/-- Section 10.7, request 8. -/
theorem test_set_bits : answer (after (.setBits (at_ 0)) (asking (request 3 0x40 3 [0x0800]))) = [7, 3, 0, 0x40, 8, 0] := by
  decide +kernel
theorem test_clear_bits_of_live_refused :
    answer (after (.clearBits (at_ 0)) (asking (request 4 0x40 0 [1]))) = [7, 4, 6, 0x40] := by decide +kernel
/-- Section 10.7: the count stands at 2, not 1. -/
theorem test_acknowledge_mismatch :
    answer (after (.acknowledgeIf (at_ 0))
      { asking (request 5 0x40 0 [11, 1]) with
        events := { Events.reset with latch := 0x0800, counts := put (Vector.replicate 16 0) 11 2 } })
      = [7, 5, 9, 0x40, 0, 2] := by decide +kernel
/-- Section 9.8: the TRANSFER at 1400 ms. -/
theorem test_transfer :
    answer (after (.transfer (at_ 0)) { asking (request 6 0x60 0 []) with monitor := { Monitor.reset with count := 1 } })
      = [7, 6, 0, 0x60, 0, 0, 0, 1] := by decide +kernel
/-- Section 8.6, at 250 ms: bits 0 and 2. -/
theorem test_clear_trip_refused :
    answer (after (.clearTrip (at_ 0))
      { asking (request 7 0x53 0 []) with
        trip := { Trip.reset with latch := true, line := true, first := some .strike }
        session := { Session.reset with state := .tripped }
        lid := { State.reset.lid with debounced := false }, drive := { speed := 150, torque := 0, time := 0 } })
      = [7, 7, 10, 0x53, 0, 5] := by decide +kernel
theorem test_query_leaf_1 :
    answer (after (.query (at_ 0)) (asking (request 8 0 1 []))) =
      [7, 8, 0, 0, 0, 1, 0, 4, 0, 6, 0, 32, 0, 4, 0, 8, 0, 4, 0, 2, 0, 8, 0, 64] := by decide +kernel
theorem test_soft_reset_keeps_tables :
    (after (.softReset (at_ 0)) { spinning with requests := [request 9 0 0 []] }).tables = spinning.tables := by
  decide +kernel
theorem test_unknown_op : answer (after (.unknownOp (at_ 0)) (asking (request 10 1 0 []))) = [7, 10, 2, 1] := by
  decide +kernel

/-! ### Witnesses: states and operands that meet the hypotheses of the statements, each clause at a boundary -/

theorem witness_ValveWindow : (injecting 0).held = false ∧ (injecting 0).spin.guardAngle ≤ 4096 := by decide +kernel
theorem witness_PowerOnReset :
    State.reset.strike.raw = false ∧ { State.reset with strike := { State.reset.strike with raw := true } }.strike.raw = true := by
  decide +kernel
theorem witness_HoldInReset :
    { State.reset with held := true }.held = true ∧ Instr.flowPulse (at_ 0) ≠ .powerOnReset ∧
      Instr.flowPulse (at_ 0) ≠ .resetNLow ∧ ∀ m sw, Instr.flowPulse (at_ 0) ≠ .switchRawChange m sw := by
  refine ⟨rfl, ?_, ?_, ?_⟩ <;> intros <;> nofun
theorem witness_SoftReset :
    let s := asking (request 9 0 0 [])
    s.held = false ∧ s.requests = request 9 0 0 [] :: [] ∧ (request 9 0 0 []).op = 9 ∧ (request 9 0 0 []).data = [] ∧
      s.portC.localQ.length < 4 ∧ s.strike.raw = false ∧ spinInRange s.spin = true := by decide +kernel

/-- SOFT RESET waits with STRIKE high, with the trip latch as given. -/
def struck (latch : Bool) : State :=
  { asking (request 9 0 0 []) with
    strike := { raw := true, debounced := latch, pending := !latch, since := 0 }
    trip := { Trip.reset with latch := latch, line := latch } }

theorem witness_SoftReset_with_STRIKE_high_and_with_data :
    ([false, true].all fun b =>
      decide ((struck b).held = false ∧ (struck b).requests = request 9 0 0 [] :: [] ∧ (request 9 0 0 []).data = [] ∧
        (struck b).portC.localQ.length < 4 ∧ (struck b).strike.raw = true ∧ spinInRange (struck b).spin = true ∧
        (struck b).trip.latch = b)) = true ∧
      (let s := asking (request 9 0 0 [1])
       s.held = false ∧ s.requests = request 9 0 0 [1] :: [] ∧ (request 9 0 0 [1]).op = 9 ∧ (request 9 0 0 [1]).data ≠ [] ∧
        s.portC.localQ.length < 4 ∧ s.portC.sending ≠ none) := by decide +kernel
/-- R138, R142: STRIKE high at the end of SOFT RESET trips a clear latch, and the trip stop leaves first. -/
theorem test_soft_reset_with_STRIKE_high :
    ([false, true].map fun b =>
      let t := after (.softReset (at_ 0)) (struck b)
      (t.trip.causes.strike, t.session.state, t.portD.sending.map fun x => x.bytes)) =
    [(true, .tripped, some (frameBytes 0x11 0 (demandPayload 0 600 0 1))), (true, .tripped, none)] := by decide +kernel
theorem witness_FramerBytes_in_HUNT :
    State.reset.held = false ∧ (State.reset.framer .portC).phase = .hunt ∧ (State.reset.framer .portC).stored = [] := by
  decide +kernel

/-- A frame under assembly at Port D. -/
def assembling : State :=
  { State.reset with framerD := { phase := .header, stored := [0xA5], lastByte := 0, length := 0 } }

theorem witness_FramerBytes_in_a_frame :
    assembling.held = false ∧ (assembling.framer .portD).phase ≠ .hunt ∧
      elapsed (assembling.now + (at_ 100).elapsed) (assembling.framer .portD).lastByte ≤ 100 ∧
      100 < elapsed (assembling.now + (at_ 101).elapsed) (assembling.framer .portD).lastByte := by decide +kernel
/-- A fault of class, of length and of check: each byte is the last of a frame that cannot stand. -/
theorem witness_FramerBytes_at_a_fault :
    (assembling.framer .portD).phase = .header ∧ (assembling.framer .portD).stored = [0xA5] ∧ 64 ≤ (64 : Byte).toNat ∧
      (0xA5 : Byte).toNat ≥ 64 ∧ (0x22 : Byte) ≠ 0x21 ∧
      ([(Framer.mk .header [0xA5] 0 0, (64 : Byte)), (Framer.mk .header [0xA5, 0x05, 0xA5] 0 0, (25 : Byte)),
          (Framer.mk .check [0xA5, 0x05, 0xA5, 1, 0xA5, 0] 0 1, (0 : Byte))].all fun x =>
        decide (framerSound x.1 = true ∧ elapsed (100 : Time) x.1.lastByte ≤ 100 ∧
          (x.1.phase = .header ∧ x.1.stored.length = 1 ∧ 64 ≤ x.2.toNat ∨
            x.1.phase = .header ∧ x.1.stored.length = 3 ∧ lengthAllowed x.1.cls x.2.toNat = false ∨
            x.1.phase = .check ∧ x.1.stored.length = 5 + x.1.length ∧
              be16 (crc ((x.1.stored.drop 1).take (3 + x.1.length))) ≠ [x.1.stored.getD (4 + x.1.length) 0, x.2]))) =
        true := by decide +kernel
/-- Bytes stored: in each place of HEADER, with the length 0 and 24; first and last in PAYLOAD; first in CHECK. -/
theorem witness_FramerBytes_stored :
    ([(Framer.mk .header [0xA5] 0 0, (0x21 : Byte)), (.mk .header [0xA5, 0x05] 0 0, 9), (.mk .header [0xA5, 0x05, 9] 0 0, 0),
        (.mk .header [0xA5, 0x05, 9] 0 0, 24), (.mk .payload [0xA5, 0x05, 9, 2] 0 2, 7), (.mk .payload [0xA5, 0x05, 9, 2, 7] 0 2, 7),
        (.mk .check [0xA5, 0x05, 9, 0] 0 0, 7)].all fun x =>
      let s := State.reset.withFramer .portD x.1
      let f := s.framer .portD
      decide (s.held = false ∧ elapsed (s.now + (at_ 100).elapsed) f.lastByte ≤ 100 ∧ framerSound f = true ∧
        (f.phase = .header ∧ f.stored.length = 1 ∧ x.2.toNat < 64 ∨ f.phase = .header ∧ f.stored.length = 2 ∨
          f.phase = .header ∧ f.stored.length = 3 ∧ lengthAllowed ((f.stored.getD 1 0).setWidth 6) x.2.toNat = true ∨
          f.phase = .payload ∨ f.phase = .check ∧ f.stored.length = 4 + f.length))) = true := by decide +kernel

/-- All of a frame but its last byte stands at its link. -/
def nearlyWhole (link : Link) (cls : Sys2Proof.Class) (payload : List Byte) : State :=
  State.reset.withFramer link
    { phase := .check, stored := (frameBytes cls 9 payload).dropLast, lastByte := 0, length := payload.length }

theorem witness_FramerBytes_completed :
    ([(Link.portC, (0x05 : Sys2Proof.Class), 0), (.portD, 0x31, 8), (.portS, 0x21, 7), (.portD, 0x05, 24)].all fun x =>
      let s := nearlyWhole x.1 x.2.1 (List.replicate x.2.2 0xA5)
      let v : Byte := (frameBytes x.2.1 9 (List.replicate x.2.2 0xA5)).getLastD 0
      let f := s.framer x.1
      decide (s.held = false ∧ elapsed (s.now + (at_ 100).elapsed) f.lastByte ≤ 100 ∧ framerSound f = true ∧ f.phase = .check ∧
        f.stored.length = 5 + f.length ∧ (f.stored.getD 1 0).setWidth 6 = x.2.1 ∧ f.stored.getD 2 0 = 9 ∧
        be16 (crc ((f.stored.drop 1).take (3 + f.length))) = [f.stored.getD (4 + f.length) 0, v] ∧
        lengthAllowed x.2.1 f.length = true ∧
        (f.line x.1 (s.now + (at_ 100).elapsed) { value := v, stopHigh := true }).2 =
          [.taken x.2.1 9 (List.replicate x.2.2 0xA5)])) = true := by decide +kernel
/-- The thirteenth byte takes the SAMPLE. -/
theorem test_last_byte_takes_the_sample :
    (after (.byteReceived (at_ 10) .portS { value := (frameBytes 0x21 9 [3, 0, 200, 0, 0, 0, 0]).getLastD 0, stopHigh := true })
      (nearlyWhole .portS 0x21 [3, 0, 200, 0, 0, 0, 0])).intake.last.ax = 200 := by decide +kernel
theorem witness_FrameRoundTrip_at_a_link :
    assembling.held = false ∧
      ((State.reset.framer .portC).line .portC 5 { value := 0, stopHigh := true }).2 = [] ∧
      ((assembling.framer .portD).line .portD 5 { value := 64, stopHigh := true }).2 = List.replicate 1 .error := by
  decide +kernel
theorem witness_FrameRoundTrip :
    Framer.reset.phase = .hunt ∧ Framer.reset.stored = [] ∧ lengthAllowed 0x21 7 = true ∧ lengthAllowed 0x05 24 = true ∧
      (frameBytes 0x21 9 (List.replicate 7 0xA5)).length = (List.replicate 13 (5 : Time)).length ∧
      inTime ((List.replicate 13 (5 : Time)).headD 0)
        ((frameBytes 0x21 9 (List.replicate 7 0xA5)).zip (List.replicate 13 5)) = true ∧
      inTime 0 [(1, 100)] = true := by decide +kernel
theorem witness_FramesDisposed_by_DROP :
    State.reset.held = false ∧ lengthAllowed 0x11 6 = true ∧ State.reset.action .d 0x11 = .drop ∧
      lengthAllowed 0x31 8 = true ∧ State.reset.action .c 0x31 = .drop := by decide +kernel

/-- So many frames wait at Port D. -/
def crowded (n : Nat) : State :=
  { busy with portD := { busy.portD with forwardedQ := List.replicate n (waits 0x05 []) } }

theorem witness_FramesDisposed_by_PASS :
    State.reset.held = false ∧ lengthAllowed 0x05 24 = true ∧ State.reset.action .c 0x05 = .pass ∧
      State.reset.portD.sending = none ∧ State.reset.portD.forwardedQ = [] ∧ State.reset.portD.localQ = [] ∧
      (crowded 7).portD.sending ≠ none ∧ (crowded 7).portD.forwardedQ.length < 8 ∧
      8 ≤ (crowded 8).portD.forwardedQ.length ∧ (crowded 8).action .c 0x05 = .pass := by decide +kernel
/-- So many frames wait at Port C. -/
def crowdedC (n : Nat) : State :=
  { busy with portC := { busy.portC with forwardedQ := List.replicate n (waits 0x05 []) } }

theorem witness_FramesDisposed_by_PASS_at_Port_D :
    State.reset.action .d 0x05 = .pass ∧ (crowdedC 7).action .d 0x05 = .pass ∧ (crowdedC 8).action .d 0x05 = .pass ∧
      (crowdedC 7).portC.sending ≠ none ∧ (crowdedC 7).portC.forwardedQ.length < 8 ∧
      State.reset.portC.sending = none ∧ State.reset.portC.forwardedQ = [] ∧ State.reset.portC.localQ = [] ∧
      State.reset.monitor.source ≠ .seqGap ∧ 8 ≤ (crowdedC 8).portC.forwardedQ.length ∧
      ({ crowdedC 8 with monitor := { Monitor.reset with source := .drops } } : State).monitor.source = .drops := by
  decide +kernel
theorem witness_SpeedDemandTaken :
    (crowded 7).held = false ∧ (crowded 7).portD.sending ≠ none ∧ (crowded 7).portD.forwardedQ.length < 8 ∧
      ({ busy with portD := { busy.portD with forwardedQ := [waits 0x11 []] } } : State).portD.forwardedQ.any
        (fun g => g.cls == 0x11) = true := by decide +kernel
theorem witness_SpeedDemandTaken_at_an_idle_port :
    State.reset.held = false ∧ State.reset.portD.sending = none ∧ State.reset.portD.forwardedQ = [] ∧
      State.reset.portD.localQ = [] ∧ State.reset.session.state = .idle ∧ State.reset.trip.latch = false ∧
      ceilingsComposed State.reset = true ∧ (1 : Byte) ≠ 2 ∧
      max (-1500) (min 1500 (100 : Sys2Proof.Word).toInt) ≤ (State.reset.spin.blindCeiling : Int) := by decide +kernel
theorem witness_SpeedDemandTaken_at_a_full_queue :
    (crowded 8).held = false ∧ (crowded 8).portD.sending ≠ none ∧
      (crowded 8).portD.forwardedQ.any (fun g => g.cls == 0x11) = false ∧ 8 ≤ (crowded 8).portD.forwardedQ.length := by
  decide +kernel

/-- In IDLE with the program of Table 6-4. -/
def programmed : State := { State.reset with tables := { Tables.reset with plateau := program } }

theorem witness_SessionStarts :
    State.reset.held = false ∧ State.reset.session.state = .idle ∧ State.reset.trip.latch = false ∧
      State.reset.silence.driveSilent = false ∧
      (State.reset.spin.blindCeiling : Int) < max (-1500) (min 1500 (101 : Sys2Proof.Word).toInt) ∧
      look State.reset.tables.plateau 0 0 = 0 ∧
      ((look programmed.tables.plateau 0 0 : Nat) : Int) < max (-1500) (min 1500 (201 : Sys2Proof.Word).toInt) ∧
      programmed.indexSpeed + 10 < look programmed.tables.plateau 0 0 := by decide +kernel

/-- In a session state at 300 rpm, with Table 6-4's program, plateau 0 passed and an injection as the state has it. -/
def outsideIdle (st : SessionState) : State :=
  { injecting 84 with
    session := { (injecting 84).session with state := st }
    ring := { (injecting 84).ring with ctx := { (injecting 84).ring.ctx with state := if st = .correct then .active else .closed } } }

/-- Table 6-3: a spin request above plateau 1's 300 and one at it, with the session state after each. -/
theorem witness_SessionStarts_outside_IDLE :
    ([(SessionState.climb, SessionState.climb, SessionState.opened), (.dwell, .dwell, .opened), (.settle, .settle, .opened),
        (.correct, .correct, .opened), (.opened, .dwell, .opened), (.rundown, .dwell, .opened), (.limited, .limited, .limited),
        (.holdDown, .holdDown, .holdDown), (.tripped, .tripped, .tripped)].all fun x =>
      let s := outsideIdle x.1
      decide (s.held = false ∧ s.session.state ≠ .idle ∧
        (s.spin.blindCeiling : Int) < max (-1500) (min 1500 (300 : Sys2Proof.Word).toInt) ∧
        s.session.corrections = [] ++
          [{ plateau := 1, chamber := 2, requested := 150, credited := 0, outcome := .inProgress, uPlan := 180 }] ∧
        (x.1 = .correct → s.ring.ctx.state = .active) ∧ s.weigh.state ≠ .armed ∧
        (s.session.progress[(0 : Fin 6)]).passed = true ∧ (s.session.progress[(1 : Fin 6)]).passed = false ∧
        look s.tables.plateau 6 0 = 300 ∧
        ([(301 : Sys2Proof.Word), 300].map fun w =>
          (after (.speedDemandTaken (at_ 0) 0 w 300 2 0) s).session.state) = [x.2.1, x.2.2])) = true := by decide +kernel

/-- A resumption from RUNDOWN with SPIN 700 standing: the ceiling falls to plateau 0's 200, and one demand leaves an idle
Port D (log 33). -/
theorem test_resumption_sends_one_demand :
    let s := { spinning with
      tables := { spinning.tables with plateau := program }, gov := { spinning.gov with spin := 799 }
      standing := { mode := .spin, target := 700, ramp := 200, governed := false }
      session := { Session.reset with state := .rundown } }
    let t := after (.speedDemandTaken (at_ 0) 0 900 300 2 0) s
    (t.standing.target, t.portD.seq, t.portD.localQ, t.portD.forwardedQ) = (200, 1, [], []) := by decide +kernel

/-- In IDLE with the drive silent. -/
def silentDrive : State := { State.reset with silence := { State.reset.silence with driveSilent := true } }

theorem witness_SessionStarts_with_a_silent_drive :
    silentDrive.held = false ∧ silentDrive.session.state = .idle ∧ silentDrive.trip.latch = false ∧
      silentDrive.silence.driveSilent = true ∧
      (silentDrive.spin.blindCeiling : Int) < max (-1500) (min 1500 (101 : Sys2Proof.Word).toInt) ∧
      silentDrive.portD.sending = none ∧ silentDrive.portD.forwardedQ = [] ∧ silentDrive.portD.localQ = [] := by decide +kernel
/-- R139: one SPEED DEMAND leaves, the request's frame as the trip stop. -/
theorem test_silent_start_sends_one_demand :
    let t := after (.speedDemandTaken (at_ 0) 0 101 300 2 0) silentDrive
    (t.trip.first, t.portD) =
      (some .drive,
        { PortD.reset with
          seq := 1, sending := some { bytes := frameBytes 0x11 0 (demandPayload 0 600 0 1), start := 0 } }) := by
  decide +kernel
theorem witness_EndingRequest :
    let s := { spinning with weigh := { Weighing.reset with state := .armed } }
    s.held = false ∧ s.session.state ≠ .idle ∧ s.session.state ≠ .holdDown ∧ s.session.state ≠ .rundown ∧
      s.session.state ≠ .tripped ∧ s.silence.driveSilent = false ∧ s.speedBelow s.spin.retainSpeed = false ∧
      s.session.state ≠ .correct ∧ s.weigh.state = .armed ∧
      max (-1500) (min 1500 (100 : Sys2Proof.Word).toInt) ≤ (s.spin.blindCeiling : Int) := by decide +kernel
theorem witness_EndingRequest_in_CORRECT :
    let s := injecting 84
    s.held = false ∧ s.session.state = .correct ∧ s.ring.ctx.state = .active ∧ s.silence.driveSilent = false ∧
      s.speedBelow s.spin.retainSpeed = false ∧ (0 : Byte) ≠ 2 ∧
      s.session.corrections = [] ++
        [{ plateau := 1, chamber := 2, requested := 150, credited := 0, outcome := .inProgress, uPlan := 180 }] := by
  decide +kernel

/-- `outsideIdle` with the angle invalid and a drive speed. -/
def coasting (st : SessionState) (v : Int) : State :=
  { outsideIdle st with tracker := Tracker.reset, drive := { speed := v, torque := 0, time := 0 } }

/-- R113: below RETAIN_SPEED the session passes through RUNDOWN to IDLE; in four states nothing changes. -/
theorem witness_EndingRequest_below_RETAIN_SPEED_and_with_no_session :
    ([SessionState.climb, .dwell, .settle, .opened, .limited].all fun st =>
      let s := coasting st (-69)
      decide (s.held = false ∧ s.session.state = st ∧ s.speedBelow s.spin.retainSpeed = true ∧ (0 : Byte) ≠ 2 ∧
        (after (.speedDemandTaken (at_ 0) 0 0 300 0 0) s).session.state = .idle)) = true ∧
      ([SessionState.idle, .holdDown, .rundown, .tripped].all fun st =>
        decide ((outsideIdle st).held = false ∧ (outsideIdle st).session.state = st ∧
          max (-1500) (min 1500 (100 : Sys2Proof.Word).toInt) ≤ ((outsideIdle st).spin.blindCeiling : Int))) = true := by
  decide +kernel
theorem witness_DriveStatusTaken :
    busy.held = false ∧ busy.portC.sending ≠ none ∧ busy.portC.forwardedQ.length < 8 ∧
      ({ busy with portC := { busy.portC with forwardedQ := [waits 0x31 []] } } : State).portC.forwardedQ.any
        (fun g => g.cls == 0x31) = true := by decide +kernel
/-- R110: at 69 rpm HOLD_DOWN and RUNDOWN enter IDLE, at 70 they stand. -/
theorem witness_DriveStatusTaken_enters_IDLE :
    ([SessionState.holdDown, .rundown].all fun st =>
      let s := coasting st 300
      decide (s.held = false ∧ s.session.state = st ∧ s.tracker.state ≠ .locked ∧ s.lid.debounced = true ∧
        s.spin.retainSpeed = 70 ∧ (69 : Sys2Proof.Word).toInt.natAbs ≤ s.overspeedBound ∧
        (70 : Sys2Proof.Word).toInt.natAbs ≤ s.overspeedBound ∧
        ([(69 : Sys2Proof.Word), 70].map fun w =>
          (after (.driveStatusTaken (at_ 0) 0 w 0 0 0 0) s).session.state) = [.idle, st])) = true := by decide +kernel

/-- A weighing ARMED with five statuses over 20 rpm. -/
def weighingAt : State :=
  { State.reset with
    weigh := { Weighing.reset with state := .armed, n := 5, cSum := 1, sFirst := 60, sLast := 80, tLast := 200000 } }

theorem witness_WeighingExamined_in_the_window :
    weighingAt.held = false ∧ weighingAt.weigh.state = .armed ∧ weighingAt.weigh.n < 65535 ∧ weighingAt.lid.debounced = true ∧
      weighingAt.spin.weighHi ≤ 600 ∧
      ([59, 60, 120] : List Sys2Proof.Word).all
        (fun w => decide (-1500 ≤ w.toInt ∧ w.toInt ≤ (weighingAt.spin.weighHi : Int) ∧
          w.toInt.natAbs ≤ weighingAt.overspeedBound)) = true := by decide +kernel
theorem witness_WeighingExamined_at_its_end :
    5 ≤ weighingAt.weigh.n ∧ 20 ≤ weighingAt.weigh.sLast - weighingAt.weigh.sFirst ∧ 0 < weighingAt.weigh.cSum ∧
      (weighingAt.spin.weighHi : Int) < (121 : Sys2Proof.Word).toInt ∧ (121 : Sys2Proof.Word).toInt ≤ 1500 ∧
      (121 : Sys2Proof.Word).toInt.natAbs ≤ weighingAt.overspeedBound := by decide +kernel
/-- `weighingAt` with another weighing. -/
def weighingWith (w : Weighing) : State := { weighingAt with weigh := w, loadClass := 0 }

/-- R70, R72: the count at its end; a status too few, a rise of 19 rpm, a current sum of 0. -/
theorem witness_WeighingExamined_at_the_bounds :
    (let s := weighingWith { weighingAt.weigh with n := 65535 }
     s.weigh.n ≤ 65535 ∧ s.weigh.state = .armed ∧
      (after (.driveStatusTaken (at_ 0) 0 90 50 0 0 0) s).weigh.cSum = s.weigh.cSum) ∧
      ([{ weighingAt.weigh with n := 4 }, { weighingAt.weigh with sLast := 79 }, { weighingAt.weigh with cSum := 0 }].all fun w =>
        let s := weighingWith w
        decide (s.held = false ∧ s.weigh.state = .armed ∧
          (s.weigh.n < 5 ∨ s.weigh.sLast - s.weigh.sFirst < 20 ∨ s.weigh.cSum ≤ 0) ∧ s.lid.debounced = true ∧
          (s.spin.weighHi : Int) < (121 : Sys2Proof.Word).toInt ∧ (121 : Sys2Proof.Word).toInt.natAbs ≤ s.overspeedBound ∧
          (after (.driveStatusTaken (at_ 0) 0 121 50 0 0 0) s).weigh.state = .failed ∧
          (after (.driveStatusTaken (at_ 0) 0 121 50 0 0 0) s).loadClass = s.spin.defaultClass)) = true := by decide +kernel
theorem witness_RequestTaken :
    State.reset.held = false ∧ (List.replicate 20 (0 : Byte)).length ≤ 20 ∧
      2 ≤ ({ State.reset with requests := [request 1 1 0 [], request 1 1 0 []] } : State).requests.length ∧
      ({ State.reset with monitor := { Monitor.reset with source := .drops } } : State).monitor.source = .drops := by
  decide +kernel
theorem witness_SampleTaken_accumulated :
    ∃ a, spinning.held = false ∧ spinning.tracker.state = .locked ∧ spinning.tracker.lastIndex = some 0 ∧
      spinning.tracker.period = some 200000 ∧ spinning.est.state ≠ .invalid ∧ spinning.est.acc = some a ∧ a.n < 2047 ∧
      spinning.spin.sensorLatency ≤ elapsed (spinning.now + (at_ 400).elapsed) 0 ∧
      elapsed (spinning.now + (at_ 200399).elapsed) 0 - spinning.spin.sensorLatency < 200000 :=
  ⟨{ i := 0, q := 393216000, n := 200 }, by decide +kernel⟩
theorem witness_SampleTaken_otherwise :
    State.reset.tracker.state ≠ .locked ∧ State.reset.est.state = .invalid ∧
      (let s := { State.reset with
        intake := { State.reset.intake with armed := true, lastCount := 255 }
        monitor := { Monitor.reset with source := .seqGap } }
       s.monitor.source = .seqGap ∧ s.intake.armed = true ∧ (1 : Byte) ≠ s.intake.lastCount + 1) := by decide +kernel
theorem witness_SampleTaken_with_no_effect :
    let full := { spinning with est := { figure42 with acc := some { i := 0, q := 0, n := 2047 } } }
    elapsed (spinning.now + (at_ 399).elapsed) 0 < spinning.spin.sensorLatency ∧
      spinning.spin.sensorLatency + 200000 ≤ elapsed (spinning.now + (at_ 200400).elapsed) 0 ∧
      spinning.tracker.lastIndex = some 0 ∧ spinning.tracker.period = some 200000 ∧
      full.est.acc = some { i := 0, q := 0, n := 2047 } ∧
      ({ spinning with est := { figure42 with acc := none } } : State).est.acc = none := by decide +kernel
theorem witness_ArbiterD :
    busy.held = false ∧ busy.portD.sending = some onLine ∧
      onLine.bytes.length * 10 ≤ elapsed (busy.now + (at_ 60).elapsed) onLine.start ∧ busy.portD.localQ = [] ∧
      busy.portD.forwardedQ = [] ∧
      (crowded 1).portD.localQ ++ (if (crowded 1).portD.localQ = [] then (crowded 1).portD.forwardedQ else []) =
        waits 0x05 [] :: [] ∧ (waits 0x05 []).cls ≠ 0x11 := by decide +kernel

/-- A demand of mode AGITATE waits at Port D, with the trip latch as given. -/
def governing (latch : Bool) : State :=
  { busy with
    portD := { busy.portD with forwardedQ := [waits 0x11 (demandPayload (-250) 0 1 0)] }
    trip := { Trip.reset with latch := latch }
    gov := { busy.gov with spin := if latch then 0 else 100, agitate := if latch then 0 else 180 } }

theorem witness_DemandGoverned :
    ([true, false].all fun b =>
      decide ((governing b).held = false ∧ (governing b).portD.sending = some onLine ∧
        onLine.bytes.length * 10 ≤ elapsed ((governing b).now + (at_ 60).elapsed) onLine.start ∧
        (governing b).portD.localQ ++ (if (governing b).portD.localQ = [] then (governing b).portD.forwardedQ else []) =
          waits 0x11 (demandPayload (-250) 0 1 0) :: [] ∧ (waits 0x11 []).cls = 0x11 ∧
        ((governing b).trip.latch = true → (governing b).gov.spin = 0 ∧ (governing b).gov.agitate = 0))) = true := by
  decide +kernel
theorem witness_ArbiterC :
    let s := { busy with portC := { busy.portC with localQ := [waits 0x3E []], forwardedQ := [waits 0x31 []] } }
    let u := { s with portC := { s.portC with mark := .localQ } }
    s.held = false ∧ s.portC.sending = some onLine ∧
      onLine.bytes.length * 10 ≤ elapsed (s.now + (at_ 60).elapsed) onLine.start ∧ s.portC.localQ = waits 0x3E [] :: [] ∧
      s.portC.mark = .forwarded ∧ u.portC.forwardedQ = waits 0x31 [] :: [] ∧ u.portC.mark = .localQ ∧
      busy.portC.localQ = [] ∧ busy.portC.forwardedQ = [] := by decide +kernel
theorem witness_OrphanStop :
    let s := { spinning with portC := busy.portC, portD := busy.portD }
    let u := { busy with silence := { busy.silence with controllerSilent := true, orphan := some 0 } }
    s.held = false ∧ s.silence.controllerSilent = false ∧
      500000 ≤ elapsed (s.now + (at_ 500000).elapsed) s.silence.controllerSince ∧ oneDemand s = true ∧
      s.portD.sending ≠ none ∧ s.session.state = .opened ∧ s.speedBelow s.spin.retainSpeed = false ∧ u.held = false ∧
      u.silence.orphan = some 0 ∧ 100000 ≤ elapsed (u.now + (at_ 100000).elapsed) 0 ∧ oneDemand u = true ∧
      u.portD.sending ≠ none := by decide +kernel
theorem witness_DriveFallsSilent (c : Cause) :
    State.reset.causeHolds c = false ∧ spinning.causeHolds c = false ∧ State.reset.held = false ∧
      State.reset.silence.driveSilent = false ∧ State.reset.trip.latch = false ∧ spinning.trip.latch = false ∧
      100000 ≤ elapsed (State.reset.now + (at_ 100000).elapsed) State.reset.silence.driveSince ∧
      State.reset.session.state = .idle ∧ State.reset.angleValid = false ∧ spinning.session.state = .opened := by
  cases c <;> decide +kernel
theorem witness_SensorFallsSilent :
    spinning.held = false ∧ spinning.intake.loss = false ∧
      20000 ≤ elapsed (spinning.now + (at_ 20000).elapsed) spinning.intake.since ∧ estimatorSound spinning.est = true ∧
      ceilingsComposed spinning = true ∧ spinning.est.state = .valid := by decide +kernel
theorem witness_RawChangeTimed :
    State.reset.held = false ∧ State.reset.debounceMs .lid ≠ 0 ∧
      (!(State.reset.switch .lid).raw) ≠ (State.reset.switch .lid).debounced ∧
      (let s := { State.reset with lid := { raw := false, debounced := true, pending := true, since := 0 } }
       (!(s.switch .lid).raw) = (s.switch .lid).debounced) := by decide +kernel
/-- R35: the levels of STRIKE with DEBOUNCE_STRIKE 0, with a clear trip latch and a set one; and such a pin at its debounced
level after the change. -/
theorem witness_RawChangeTimed_with_DEBOUNCE_0 :
    ([(false, false), (false, true), (true, false), (true, true)].all fun x =>
      let s := { spinning with
        service := { spinning.service with debounceStrike := 0 }
        strike := { raw := x.1, debounced := x.1, pending := false, since := 0 }
        trip := { Trip.reset with latch := x.2, line := x.2 } }
      decide (s.held = false ∧ s.service.debounceStrike = 0 ∧ s.strike.pending = false ∧ s.strike.raw = s.strike.debounced ∧
        s.strike.raw = x.1 ∧ s.trip.latch = x.2 ∧
        (after (.switchRawChange (at_ 0) .strike) s).trip.latch = (x.2 || !x.1))) = true ∧
      (let s := { State.reset with
        service := { State.reset.service with debounceStrike := 0 }
        strike := { raw := false, debounced := true, pending := true, since := 0 } }
       s.debounceMs .strike = 0 ∧ (!(s.switch .strike).raw) = (s.switch .strike).debounced) := by decide +kernel
/-- STRIKE low for DEBOUNCE_STRIKE while the trip latch is set. -/
theorem witness_StrikeTrips_going_low :
    let s := { injecting 84 with
      strike := { raw := false, debounced := true, pending := true, since := 0 }
      trip := { Trip.reset with latch := true, line := true } }
    s.held = false ∧ s.strike.pending = true ∧ s.strike.raw = false ∧
      s.service.debounceStrike * 1000 ≤ elapsed (s.now + (at_ 2000).elapsed) s.strike.since := by decide +kernel
theorem witness_StrikeTrips :
    let s := { injecting 84 with strike := { raw := true, debounced := false, pending := true, since := 0 } }
    s.held = false ∧ s.strike.pending = true ∧ s.strike.raw = true ∧
      s.service.debounceStrike * 1000 ≤ elapsed (s.now + (at_ 2000).elapsed) s.strike.since ∧ s.trip.latch = false ∧
      s.ring.ctx.state = .active ∧ spinning.ring.valve = false := by decide +kernel

/-- The lid has been open for 20 ms, at a drive speed. -/
def lidOpening (v : Int) : State :=
  { State.reset with
    lid := { raw := false, debounced := true, pending := true, since := 0 }, drive := { speed := v, torque := 0, time := 0 } }

theorem witness_LidOpens :
    (lidOpening 70).held = false ∧ (lidOpening 70).lid.pending = true ∧ (lidOpening 70).lid.raw = false ∧
      (lidOpening 70).service.debounceLid * 1000 ≤ elapsed ((lidOpening 70).now + (at_ 20000).elapsed) 0 ∧
      (lidOpening 70).trip.latch = false ∧ (lidOpening 70).speedAtLeast 70 = true ∧
      (lidOpening (-69)).speedAtLeast 70 = false := by decide +kernel
theorem witness_LidOpens_closing :
    let s := { State.reset with lid := { raw := true, debounced := false, pending := true, since := 0 } }
    s.held = false ∧ s.lid.pending = true ∧ s.lid.raw = true ∧ s.lid.debounced = false ∧
      s.service.debounceLid * 1000 ≤ elapsed (s.now + (at_ 20000).elapsed) s.lid.since := by decide +kernel
theorem witness_PulsesJudged :
    State.reset.held = false ∧ trackerSound State.reset.tracker = true ∧ State.reset.tracker.state = .untimed ∧
      trackerSound spinning.tracker = true ∧ spinning.tracker.lastIndex = some 0 ∧
      elapsed (spinning.now + (at_ 99999).elapsed) 0 < max 45000 (spinning.tracker.period.getD 0 / 2) := by decide +kernel

/-- The tracker in TIMING since 0, with samples arriving. -/
def timingState : State :=
  { State.reset with
    tracker := Tracker.timingFrom 0
    intake := { State.reset.intake with last := { SampleRecord.reset with present := true } } }

theorem witness_PulsesJudged_in_TIMING :
    timingState.held = false ∧ timingState.tracker.state = .timing ∧ timingState.tracker.lastIndex = some 0 ∧
      45000 ≤ elapsed (timingState.now + (at_ 45000).elapsed) 0 ∧
      elapsed (timingState.now + (at_ 2000000).elapsed) 0 ≤ 2000000 ∧ estimatorSound timingState.est = true ∧
      timingState.est.state = .invalid ∧ timingState.intake.loss = false ∧ timingState.intake.last.present = true := by
  decide +kernel

/-- LOCKED or HELD at 300 rpm, with a drive speed and so many mismatches before. -/
def mismatching (st : TrackerState) (v : Int) (n : Nat) : State :=
  { injecting 84 with
    tracker := { lockedAt 200000 with state := st, mismatch := n }
    est := { figure42 with state := if st == .locked then .valid else .invalid, acc := if st == .locked then figure42.acc else none }
    drive := { speed := v, torque := 0, time := 0 } }

theorem witness_PulsesJudged_in_LOCKED_and_HELD :
    ([(TrackerState.locked, (343 : Int), 3), (.locked, 300, 3), (.held, 343, 4), (.held, 342, 4)].all fun x =>
      let s := mismatching x.1 x.2.1 x.2.2
      decide (s.held = false ∧ (s.tracker.state = .locked ∨ s.tracker.state = .held) ∧ s.tracker.lastIndex = some 0 ∧
        s.tracker.period = some 200000 ∧ max 45000 (200000 / 2) ≤ elapsed (s.now + (at_ 200000).elapsed) 0 ∧
        elapsed (s.now + (at_ 2000000).elapsed) 0 ≤ 2000000 ∧ 2000000 < elapsed (s.now + (at_ 2000001).elapsed) 0 ∧
        s.tracker.period.getD 0 ≤ 2000000 ∧ s.ring.ctx.state = .active ∧ trackerSound s.tracker = true)) = true ∧
      estimatorSound (mismatching .locked 300 0).est = true ∧
      (mismatching .held 300 4).est.state = .invalid ∧
      ([(343 : Int), 342].map fun v => mismatches (mismatching .held v 4).driveSpeed 300) = [true, false] := by
  decide +kernel
/-- R44: the fourth mismatch in a row brings HELD, and a pulse that agrees brings LOCKED again. -/
theorem test_fourth_mismatch :
    ([(TrackerState.locked, (343 : Int), 3), (.held, 342, 4)].map fun x =>
      (after (.indexPulse (at_ 200000)) (mismatching x.1 x.2.1 x.2.2)).tracker.state) = [.held, .locked] := by
  decide +kernel

/-- 300 rpm with so many samples accumulated. -/
def closing (n : Nat) (st : EstState) : State :=
  { spinning with est := { figure42 with state := st, priming := 2, acc := some { i := 5, q := -7, n := n } } }

theorem witness_CountedRevolution :
    ([EstState.priming, .valid].all fun st =>
      decide ((closing 16 st).held = false ∧ (closing 16 st).tracker.state = .locked ∧
        (closing 16 st).tracker.lastIndex = some 0 ∧ (closing 16 st).tracker.period = some 200000 ∧
        max 45000 (200000 / 2) ≤ elapsed ((closing 16 st).now + (at_ 100000).elapsed) 0 ∧
        elapsed ((closing 16 st).now + (at_ 200000).elapsed) 0 ≤ 2000000 ∧
        mismatches (closing 16 st).driveSpeed (60000000 / elapsed ((closing 16 st).now + (at_ 200000).elapsed) 0) = false ∧
        (closing 16 st).est.state ≠ .invalid ∧ (closing 16 st).est.acc = some { i := 5, q := -7, n := 16 } ∧
        (closing 16 st).est.priming ≤ 15)) = true := by decide +kernel
/-- `closing` against a drive speed of 343 rpm, after so many mismatches. -/
def disagreeing (n k : Nat) : State :=
  { closing n .valid with
    tracker := { lockedAt 200000 with mismatch := k }, drive := { speed := 343, torque := 0, time := 0 } }

/-- R45, section 3.11: the first and the third mismatch in a row close the revolution. -/
theorem witness_CountedRevolution_at_a_mismatch :
    ([0, 2].all fun k =>
      let s := disagreeing 16 k
      decide (s.tracker.mismatch < 3 ∧
        mismatches s.driveSpeed (60000000 / elapsed (s.now + (at_ 200000).elapsed) 0) = true ∧
        (after (.indexPulse (at_ 200000)) s).tracker.mismatch = k + 1 ∧
        (after (.indexPulse (at_ 200000)) s).events.revNumber = s.events.revNumber + 1)) = true ∧
      (let s := disagreeing 15 2
       s.tracker.mismatch < 3 ∧ (after (.indexPulse (at_ 200000)) s).est.thin = 1) := by decide +kernel
/-- R59, R61, R155: the filter steps to 1440 and U is 135, which Table 5-3 admits to 999 rpm; a BALANCE REPORT at the close
that brings VALID shows the SPIN ceiling before the governor's part or after it. -/
theorem test_report_before_the_governor :
    let s := { closing 200 .priming with
      portC := busy.portC, portD := busy.portD, service := { spinning.service with reportEvery := 1 }
      gov := { spinning.gov with eHeld := 0, spin := 100 } }
    ([([] : List Nat), [3]].map fun l =>
      let t := after (.indexPulse { elapsed := 200000, choice := { Choice.listed with close := l } }) s
      (((answer t).drop 10).take 2, t.gov.spin)) = [([3, 231], 999), ([0, 100], 999)] := by decide +kernel
theorem witness_ThinRevolution :
    (closing 15 .valid).est.acc = some { i := 5, q := -7, n := 15 } ∧ (closing 15 .valid).est.state ≠ .invalid ∧
      (closing 15 .valid).tracker = lockedAt 200000 ∧ (closing 15 .valid).held = false ∧
      mismatches (closing 15 .valid).driveSpeed (60000000 / elapsed ((closing 15 .valid).now + (at_ 200000).elapsed) 0) = false ∧
      ({ closing 15 .valid with session := { Session.reset with state := .dwell, dwell := 3 } } : State).session.state = .dwell := by
  decide +kernel
theorem witness_MagnitudeIsRoot :
    ({ figure42 with fx := 32767, fy := -32767 } : Estimator).fx.natAbs ≤ 32767 ∧
      ({ figure42 with fx := 32767, fy := -32767 } : Estimator).fy.natAbs ≤ 32767 := by decide
theorem witness_VectorSteps : 0 < 1 ∧ (-100 : Int) ≤ 100 ∧ (-401 : Int) ≤ -100 := by decide
theorem witness_SineTableRounds : 1023 < 1024 ∧ 512 ≤ 512 ∧ 1 ≤ 1023 := by decide
theorem witness_IndexIsLost :
    spinning.held = false ∧ spinning.tracker.state = .locked ∧ spinning.tracker.lastIndex = some 0 ∧
      spinning.tracker.period = some 200000 ∧ 2 * 200000 < elapsed (spinning.now + (at_ 400001).elapsed) 0 ∧
      estimatorSound spinning.est = true ∧ spinning.ring.valve = false ∧ (injecting 84).ring.ctx.state = .active ∧
      2 * 1000000 < elapsed (spinning.now + (at_ 2000001).elapsed) 0 ∧ (mismatching .held 343 4).held = false ∧
      (mismatching .held 343 4).tracker.state = .held ∧
      2 * 200000 < elapsed ((mismatching .held 343 4).now + (at_ 400001).elapsed) 0 ∧
      timingState.tracker.state = .timing ∧ timingState.tracker.lastIndex = some 0 ∧
      2000000 < elapsed (timingState.now + (at_ 2000001).elapsed) 0 := by decide +kernel
theorem witness_CeilingsLeast :
    ceilingsComposed (injecting 0) = true ∧ (injecting 0).spin.blindCeiling ≤ 1500 ∧ (injecting 0).limits.abs = some 1100 ∧ 1100 ≤ 1500 ∧
      (injecting 0).est.state = .valid ∧ (injecting 0).session.state = .correct ∧ (injecting 0).currentPlateau = some 1 ∧
      State.reset.limits.abs = none := by decide +kernel
theorem witness_GovernorCloses :
    ([(599, 0), (999, 2), (999, 3), (799, 1)].map fun x =>
      let t := governorClose false
        { spinning with
          gov := { spinning.gov with rise := x.2 }, spin := { SpinSettings.reset with hystRevs := 4 }
          est := { figure42 with u := if x.1 = 599 then 260 else if x.1 = 999 then 160 else 180 } }
      (t.gov.eNew, t.gov.eHeld, t.gov.rise)) = [(599, 599, 0), (999, 799, 3), (999, 999, 0), (799, 799, 0)] := by
  decide +kernel

/-- At the dwell end of plateau 1 in Table 6-4, with the estimate of Figure 4-2, so many attempts used and
redistributions made. -/
def dwelling (u attempts redist : Nat) : State :=
  { injecting 0 with
    ring := spinning.ring
    est := { figure42 with u := u }
    session :=
      { (injecting 0).session with
        state := .dwell, corrections := [], redist := redist
        progress := put (injecting 0).session.progress 1 { passed := false, attempts := attempts, uLast := 0 } } }

theorem witness_DwellEnds :
    (dwelling 150 0 0).est.u ≤ look (dwelling 150 0 0).tables.plateau ((1 : Fin 6).val * 6 + 2) 0 ∧
      look (dwelling 151 1 0).tables.plateau ((1 : Fin 6).val * 6 + 2) 0 < (dwelling 151 1 0).est.u ∧
      (dwelling 151 1 0).session.progress[(1 : Fin 6)].attempts <
        look (dwelling 151 1 0).tables.plateau ((1 : Fin 6).val * 6 + 5) 0 ∧
      0 < look (dwelling 151 1 0).tables.plateau ((1 : Fin 6).val * 6 + 3) 0 ∧ (dwelling 151 1 0).ring.available = true ∧
      planCorrection (dwelling 151 1 0) 150 = some (3, 150) ∧ (dwelling 151 1 0).angleValid = true ∧
      (dwelling 151 1 0).trip.latch = false ∧
      ¬(dwelling 151 2 2).session.progress[(1 : Fin 6)].attempts <
        look (dwelling 151 2 2).tables.plateau ((1 : Fin 6).val * 6 + 5) 0 ∧
      (dwelling 151 2 2).session.redist < (dwelling 151 2 2).spin.maxRedist ∧
      (dwelling 151 2 2).speedBelow (dwelling 151 2 2).spin.retainSpeed = false ∧
      (dwelling 151 2 3).spin.maxRedist ≤ (dwelling 151 2 3).session.redist ∧
      ({ dwelling 151 2 2 with tracker := lockedAt 870000 } : State).speedBelow 70 = true := by decide +kernel
/-- LOCKED with the estimator INVALID, with samples arriving or lost. -/
def closingBlind (arriving : Bool) : State :=
  { dwelling 150 0 0 with
    est := { figure42 with state := .invalid, acc := none, priming := 0, u := 0, seed := true }
    intake := { spinning.intake with loss := !arriving } }

/-- In HOLD_DOWN or RUNDOWN with the tracker LOCKED and the drive's own speed below 60 rpm. -/
def slowing (st : SessionState) : State := { outsideIdle st with drive := { speed := 0, torque := 0, time := 0 } }

/-- R64: a close that finds the estimator INVALID, with samples and with none; R110: one at 69 rpm and one at 70, in HOLD_DOWN
and in RUNDOWN. -/
theorem witness_PulsesJudged_in_LOCKED_at_a_close :
    ([true, false].all fun b =>
      let s := closingBlind b
      decide (s.held = false ∧ s.tracker = lockedAt 200000 ∧ s.est.state = .invalid ∧ estimatorSound s.est = true ∧
        s.intake.loss = !b ∧ s.intake.last.present = true ∧ s.session.state = .dwell ∧ s.ring.valve = false ∧
        s.silence.driveSilent = false ∧ s.drive.speed = 300 ∧
        (after (.indexPulse (at_ 200000)) s).est.state = if b then .priming else .invalid)) = true ∧
      ([SessionState.holdDown, .rundown].all fun st =>
        let s := slowing st
        decide (s.held = false ∧ s.tracker = lockedAt 200000 ∧ s.session.state = st ∧ estimatorSound s.est = true ∧
          s.limits.mass = some 600 ∧ s.ring.valve = false ∧ 60000000 / 860000 < s.spin.retainSpeed ∧
          (after (.indexPulse (at_ 860000)) s).est.u ≤ 600 ∧
          ([860000, 857142].map fun us => (after (.indexPulse (at_ us)) s).session.state) = [.idle, st])) = true := by
  decide +kernel
/-- In DWELL, SETTLE or CLIMB at plateau 1 (4 dwell and 4 settle revolutions in Table 6-4), with the counts as given. -/
def counting (st : SessionState) (n : Nat) : State :=
  { dwelling 150 0 0 with session := { (dwelling 150 0 0).session with state := st, dwell := n, settle := n, midRev := false } }

theorem witness_DwellEnds_counting :
    (counting .dwell 0).currentPlateau = some 1 ∧ (counting .dwell 0).session.state = .dwell ∧
      (counting .dwell 0).session.midRev = false ∧ (counting .settle 0).session.state = .settle ∧
      (counting .climb 0).session.state = .climb ∧ (counting .climb 0).currentPlateau = some 1 ∧
      look program 6 0 = 300 ∧ look program 7 0 = 8 ∧ look program 10 0 = 4 ∧ look program 6 0 ≤ (counting .climb 0).indexSpeed + 10 ∧
      ({ counting .climb 0 with tracker := lockedAt 208000 } : State).indexSpeed + 10 < look program 6 0 := by decide +kernel
/-- Counting at 300 rpm, Port C transmitting, the report count below REPORT_EVERY 2 by one. -/
def countingBusy (st : SessionState) (n : Nat) : State :=
  { counting st n with
    portC := busy.portC, service := { State.reset.service with reportEvery := 2 }
    events := { (counting st n).events with reportCount := 1 } }

theorem witness_CountedRevolution_in_a_session :
    ([(SessionState.dwell, 6), (.dwell, 7), (.settle, 2), (.settle, 3), (.climb, 0)].all fun x =>
      let s := countingBusy x.1 x.2
      decide (s.held = false ∧ s.tracker = lockedAt 200000 ∧ s.est.state = .valid ∧
        s.est.acc = some { i := 0, q := 393216000, n := 200 } ∧ s.est.priming ≤ 15 ∧
        mismatches s.driveSpeed (60000000 / elapsed (s.now + (at_ 200000).elapsed) 0) = false ∧ s.weigh.state ≠ .armed ∧
        s.trip.latch = false ∧ s.lid.debounced = true ∧ s.limits.mass = some 600 ∧
        (after (.indexPulse (at_ 200000)) s).est.u ≤ 600 ∧ s.currentPlateau = some 1 ∧ s.session.midRev = false ∧
        s.session.state = x.1 ∧ 0 < s.service.reportEvery ∧ s.service.reportEvery ≤ s.events.reportCount + 1 ∧
        s.events.report = 0 ∧ s.portC.sending ≠ none ∧ (s.gov.eHeld = 799 ∧ s.gov.rise + 1 ≤ s.spin.hystRevs))) = true := by
  decide +kernel
/-- R101, R106, R155: one pulse counts the dwell, ends it, counts the settling, ends it, or ends the climb, and a report
is made. -/
theorem test_counted_revolution_in_a_session :
    ([(SessionState.dwell, 6), (.dwell, 7), (.settle, 2), (.settle, 3), (.climb, 0)].map fun x =>
      let t := after (.indexPulse (at_ 200000)) (countingBusy x.1 x.2)
      (t.session.state, t.session.dwell, t.events.reportCount, t.portC.localQ.length)) =
    [(.dwell, 7, 0, 1), (.correct, 8, 0, 1), (.settle, 2, 0, 1), (.dwell, 0, 0, 1), (.dwell, 0, 0, 1)] := by decide +kernel
/-- R101, R106: the last counted revolution of the eight, and of the four, moves the session on. -/
theorem test_dwell_counts :
    ([(SessionState.dwell, 6), (.dwell, 7), (.settle, 2), (.settle, 3)].map fun x =>
      (sessionClose Choice.listed (counting x.1 x.2)).session.state) = [.dwell, .opened, .settle, .dwell] := by
  decide +kernel
theorem test_dwell_ends :
    ([(150, 0, 0), (151, 1, 0), (151, 2, 2), (151, 2, 3)].map fun x =>
      (dwellEnd Choice.listed 1 (dwelling x.1 x.2.1 x.2.2)).session.state) = [.opened, .correct, .holdDown, .limited] := by decide +kernel
theorem witness_FlowPulseCredits :
    (injecting 0).held = false ∧ (injecting 0).ring.ctx.state = .active ∧ (injecting 0).session.state = .correct ∧
      min 400 ((injecting 392).ring.contents[(2 : Fin 4)] + 4) ≠ 400 ∧
      min 400 ((injecting 396).ring.contents[(2 : Fin 4)] + 4) = 400 ∧
      (injecting 145).ring.ctx.credited + 4 < (injecting 145).ring.ctx.requested ∧
      (injecting 146).session.corrections = [] ++
        [{ plateau := 1, chamber := 2, requested := 150, credited := 0, outcome := .inProgress, uPlan := 180 }] ∧
      (injecting 146).ring.ctx.requested ≤ (injecting 146).ring.ctx.credited + 4 := by decide +kernel
theorem witness_StrayRun :
    State.reset.held = false ∧ State.reset.ring.ctx.state = .none ∧ State.reset.ring.strayCount = 0 ∧
      (let s := { State.reset with ring := { State.reset.ring with strayCount := 4 } }
       s.ring.strayCount ≤ 4 ∧ s.ring.strayCount = 4 ∧
        elapsed (s.now + (at_ 1000000).elapsed) s.ring.strayTime ≤ 1000000 ∧
        1000000 < elapsed (s.now + (at_ 1000001).elapsed) s.ring.strayTime) := by decide +kernel
theorem witness_NoFlow :
    let s := injecting 84
    s.held = false ∧ s.ring.ctx.state = .active ∧ s.session.state = .correct ∧
      s.session.corrections = [] ++
        [{ plateau := 1, chamber := 2, requested := 150, credited := 0, outcome := .inProgress, uPlan := 180 }] ∧
      s.spin.flowTimeout * 1000 < elapsed (s.now + (at_ 1500001).elapsed) s.ring.ctx.lastPulse := by decide +kernel
theorem witness_TailAndBleed :
    let s := { State.reset with ring := { State.reset.ring with ctx := { InjContext.reset with state := .tail } } }
    s.held = false ∧ s.ring.ctx.state = .tail ∧
      s.spin.flowTail * 1000 ≤ elapsed (s.now + (at_ 300000).elapsed) s.ring.ctx.endTime ∧ s.ring.bleed = some 0 ∧
      100000 ≤ elapsed (s.now + (at_ 100000).elapsed) 0 := by decide +kernel
theorem witness_MonitorTransfers :
    let s := { asking (request 6 0x60 0 []) with monitor := { Monitor.reset with auto := true, timer := some 0 } }
    s.held = false ∧ s.monitor.auto = true ∧ s.monitor.timer = some 0 ∧
      1000000 ≤ elapsed (s.now + (at_ 1000000).elapsed) 0 ∧
      s.requests = { tag := 7, op := 6, object := 0x60, index := 0, data := [] } :: [] ∧ s.portC.localQ.length < 4 ∧
      s.portC.sending ≠ none := by decide +kernel
/-- Requests of operations 3 to 7 that are refused, each with the status of its answer: Table 10-1. -/
theorem witness_refusals :
    ([(request 3 0x60 2 [1], 3), (request 3 0x40 2 [], 5), (request 3 0x40 21 [1], 4), (request 3 0x40 1 [1], 6),
        (request 3 0x40 5 [1], 6), (request 4 0x60 1 [1], 3), (request 4 0x40 1 [], 5), (request 4 0x40 21 [1], 4),
        (request 4 0x40 0 [1], 6), (request 4 0x40 5 [1], 6), (request 5 0x60 0 [1, 1], 3), (request 5 0x40 0 [1], 5),
        (request 5 0x40 0 [16, 0], 4), (request 6 0x40 0 [], 3), (request 6 0x60 0 [1], 5), (request 7 0x60 0 [], 3),
        (request 7 0x53 0 [1], 5), (request 7 0x53 0 [], 0)].all fun x =>
      let s := asking x.1
      let c : Instr :=
        match x.1.op.toNat with
        | 3 => .setBits (at_ 0) | 4 => .clearBits (at_ 0) | 5 => .acknowledgeIf (at_ 0) | 6 => .transfer (at_ 0)
        | _ => .clearTrip (at_ 0)
      decide (s.held = false ∧ s.requests = x.1 :: [] ∧ s.portC.localQ.length < 4 ∧ s.portC.sending ≠ none ∧
        s.trip.latch = false ∧ answer (after c s) = [7, x.1.op, x.2, x.1.object])) = true := by decide +kernel
theorem witness_ReadAnswered_elements :
    (injecting 0).session.corrections.length ≤ 8 ∧
      (injecting 0).session.corrections[0]? =
        some { plateau := 1, chamber := 2, requested := 150, credited := 0, outcome := .inProgress, uPlan := 180 } ∧
      24 + 6 * (injecting 0).session.corrections.length ≤ 30 ∧ 30 < 72 ∧
      (5 : Fin 64).val ∉ [0x11, 0x31, 0x3C, 0x3D, 0x3E, 0x3F] := by decide +kernel
/-- Table 10-2: object 0x52 with eight corrections listed has its 72 elements. -/
theorem witness_ReadAnswered_lengths :
    let s := { State.reset with
      session := { Session.reset with
        corrections := List.replicate 8
          { plateau := 1, chamber := 2, requested := 150, credited := 0, outcome := .inProgress, uPlan := 180 } } }
    s.session.corrections.length ≤ 8 ∧ (s.objectWords 0x52).length = 72 ∧ objectSize 0x02 = none := by decide +kernel
theorem witness_ReadAnswered :
    ([request 1 0x50 20 [10], request 1 0x50 21 [10], request 1 0x50 0 [11], request 1 0x50 0 [0], request 1 0x51 0 [],
      request 1 0x02 0 [1]].all fun r =>
      decide ((asking r).held = false ∧ (asking r).requests = r :: [] ∧ r.op = 1 ∧ (asking r).portC.localQ.length < 4 ∧
        (asking r).portC.sending ≠ none)) = true := by decide +kernel
/-- Every status of a refused WRITE, each met by one request: Table 10-1. -/
theorem witness_WriteAnswered_refused :
    ([(request 2 0x70 0 [5], 3), (request 2 0x10 0 [], 5), (request 2 0x10 127 [5, 5], 4), (request 2 0x40 0 [5], 6),
        (request 2 0x51 4 [5], 6), (request 2 0x01 0x11 [5], 6), (request 2 0x10 127 [5], 7), (request 2 0x20 0 [5], 7),
        (request 2 0x30 0 [1100], 8), (request 2 0x30 0 [1100, 600], 8)].all fun x =>
      let s := { asking x.1 with session := { Session.reset with state := .opened }, limits := { abs := some 300, mass := none } }
      decide (s.held = false ∧ s.requests = x.1 :: [] ∧ x.1.op = 2 ∧ s.portC.localQ.length < 4 ∧ s.portC.sending ≠ none ∧
        answer (after (.write (at_ 0)) s) = [7, 2, x.2, x.1.object])) = true := by decide +kernel
theorem witness_WriteAnswered_tables :
    ([(0x01, 0), (0x01, 0x3B), (0x10, 0), (0x10, 127), (0x11, 31), (0x12, 31), (0x13, 31), (0x14, 0), (0x14, 35), (0x15, 2),
        (0x51, 0), (0x51, 3)] : List (Byte × Byte)).all (fun x =>
      let s := asking (request 2 x.1 x.2 [65535])
      decide (s.held = false ∧ s.requests = { tag := 7, op := 2, object := x.1, index := x.2, data := be16 65535 } :: [] ∧
        s.portC.localQ.length < 4 ∧ s.portC.sending ≠ none ∧ s.session.state = .idle ∧
        x.2.toNat < (objectSize x.1).getD 0 ∧ s.spin.chamberCap ≤ 65535)) = true ∧
      (0x3B : Byte).toNat ∉ [0x11, 0x31, 0x3C, 0x3D, 0x3E, 0x3F] ∧
      ({ asking (request 2 0x10 0 [5]) with est := figure42 } : State).est.state = .valid := by decide +kernel
/-- Writes of two elements to ten, to the ends of each object: the place, the values, and the values of the answer. -/
theorem witness_WriteAnswered_elements :
    ([((0x01 : Byte), (0x36 : Byte), [0x0101, 0x0001], [0x0101, 0x0001]), (0x10, 126, [65535, 5], [9999, 5]), (0x11, 30, [2001, 0], [2000, 0]),
        (0x12, 22, List.replicate 10 65535, List.replicate 10 65535), (0x13, 30, [1, 2], [1, 2]),
        (0x14, 6, [29, 0, 10000, 1001, 64, 8], [30, 1, 9999, 1000, 63, 7]), (0x15, 0, [400, 800, 1400], [400, 800, 1400]),
        (0x21, 0, [256, 0, 256, 6, 2], [255, 1, 255, 5, 1]), (0x30, 0, [1100, 600], [1100, 600]), (0x30, 0, [0, 0], [300, 100]),
        (0x51, 0, [400, 401, 0, 7], [400, 400, 0, 7])] : List (Byte × Byte × List Sys2Proof.Word × List Sys2Proof.Word)).all (fun x =>
      let s := asking (request 2 x.1 x.2.1 x.2.2.1)
      decide (s.held = false ∧
        s.requests = { tag := 7, op := 2, object := x.1, index := x.2.1, data := x.2.2.1.flatMap be16 } :: [] ∧
        s.portC.localQ.length < 4 ∧ s.portC.sending ≠ none ∧ s.session.state = .idle ∧ s.limits.abs = none ∧
        s.limits.mass = none ∧ s.spin.chamberCap ≤ 65535 ∧ x.2.2.1.length ≤ 10 ∧
        x.2.1.toNat + x.2.2.1.length ≤ (if x.1 = 0x51 then 4 else (objectSize x.1).getD 0) ∧
        (x.1 = 0x01 → ∀ k ∈ ([0x11, 0x31, 0x3C, 0x3D, 0x3E, 0x3F] : List Nat), k < x.2.1.toNat ∨ x.2.1.toNat + x.2.2.1.length ≤ k) ∧
        (answer (after (.write (at_ 0)) s)).drop 4 = x.2.2.2.flatMap be16)) = true := by decide +kernel
theorem witness_WriteAnswered_service :
    ([0, 1, 2, 3, 4] : List Byte).all (fun i =>
      let s := { asking (request 2 0x21 i [2]) with
        monitor := { Monitor.reset with auto := true, timer := some 0 }
        strike := { raw := true, debounced := false, pending := true, since := 0 } }
      decide (s.held = false ∧ s.requests = { tag := 7, op := 2, object := 0x21, index := i, data := be16 2 } :: [] ∧
        s.portC.localQ.length < 4 ∧ s.portC.sending ≠ none ∧ i.toNat < 5 ∧ (s.switch .strike).pending = true ∧
        2 * 1000 ≤ elapsed (s.now + (at_ 2000).elapsed) (s.switch .strike).since ∧
        elapsed (s.now + (at_ 1999).elapsed) (s.switch .strike).since < 2 * 1000 ∧ (s.switch .lid).pending = false ∧
        s.strike.raw = true ∧ s.trip.latch = false ∧ s.monitor.source.code ≠ 2)) = true := by decide +kernel
theorem witness_WriteAnswered_TRIP_MASS :
    ([(179 : Sys2Proof.Word), 180].all fun w =>
      let s := { asking (request 2 0x30 1 [w]) with est := figure42 }
      decide (s.held = false ∧ s.requests = { tag := 7, op := 2, object := 0x30, index := 1, data := be16 w } :: [] ∧
        s.portC.localQ.length < 4 ∧ s.portC.sending ≠ none ∧ s.limits.mass = none ∧ s.est.state = .valid ∧
        s.est.u = 180 ∧ s.trip.latch = false)) = true := by decide +kernel
/-- R140: the limit trips the estimate above it at once. -/
theorem test_trip_mass_trips :
    ([(179 : Sys2Proof.Word), 180].map fun w =>
      (after (.write (at_ 0)) { asking (request 2 0x30 1 [w]) with est := figure42 }).trip.latch) = [true, false] := by
  decide +kernel
theorem witness_AbsLimitSet :
    let s := asking (request 2 0x30 0 [299])
    s.held = false ∧ s.requests = { tag := 7, op := 2, object := 0x30, index := 0, data := be16 299 } :: [] ∧
      s.portC.localQ.length < 4 ∧ s.portC.sending ≠ none ∧ s.limits.abs = none ∧ ceilingsComposed s = true := by
  decide +kernel
/-- Writes of one spin setting to ten, to each end; a chamber content above the new cap, a tail that has run the new time and
one that has not, the bleed at and above the new RETAIN_SPEED, and an element at its bound or not: the status and the values
of the answer. -/
theorem witness_SpinSettingWritten :
    ([((0 : Byte), [0], 1, [40]), (8, [100, 110], 1, [100, 120]), (8, [100, 120], 0, [100, 120]), (9, [79], 1, [80]), (9, [110], 0, [110]),
        (8, [400], 1, [400]), (20, [65535], 1, [2000]), (2, [71], 0, [71]), (2, [70], 0, [70]), (11, [50, 4], 0, [50, 4]), (14, [2], 0, [2]), (14, [3], 0, [3]),
        (0, [100, 100, 60, 1, 2, 3, 60, 2, 90, 180], 0, [100, 100, 60, 1, 2, 3, 60, 2, 90, 180]),
        (11, List.replicate 10 0, 1, [50, 1, 200, 0, 0, 0, 0, 0, 0, 100])] :
        List (Byte × List Sys2Proof.Word × Byte × List Sys2Proof.Word)).all (fun x =>
      let s := { asking (request 2 0x20 x.1 x.2.1) with
        drive := { speed := 70, torque := 0, time := 0 }
        ring := { State.reset.ring with
          bleed := none, contents := put (Vector.replicate 4 0) 1 51, ctx := { InjContext.reset with state := .tail } } }
      decide (s.held = false ∧
        s.requests = { tag := 7, op := 2, object := 0x20, index := x.1, data := x.2.1.flatMap be16 } :: [] ∧
        s.portC.localQ.length < 4 ∧ s.portC.sending ≠ none ∧ s.session.state = .idle ∧ 0 < x.2.1.length ∧
        x.2.1.length ≤ 10 ∧ x.1.toNat + x.2.1.length ≤ 21 ∧ spinInRange s.spin = true ∧ s.ring.ctx.state = .tail ∧
        2 * 1000 ≤ elapsed (s.now + (at_ 2000).elapsed) s.ring.ctx.endTime ∧
        elapsed (s.now + (at_ 2000).elapsed) s.ring.ctx.endTime < 3 * 1000 ∧
        answer (after (.write (at_ 2000)) s) = [7, 2, x.2.2.1, 0x20] ++ x.2.2.2.flatMap be16)) = true := by decide +kernel
theorem witness_BitsChanged :
    let s := asking (request 3 0x40 2 [5])
    let u := asking (request 4 0x40 1 [5])
    s.held = false ∧ s.requests = { tag := 7, op := 3, object := 0x40, index := 2, data := be16 5 } :: [] ∧
      s.portC.localQ.length < 4 ∧ attnFollows s = true ∧ u.held = false ∧
      u.requests = { tag := 7, op := 4, object := 0x40, index := 1, data := be16 5 } :: [] ∧
      u.portC.localQ.length < 4 ∧ attnFollows u = true := by decide +kernel
theorem witness_AcknowledgeIf :
    let k : Fin 16 := 15
    let s := { asking { tag := 7, op := 5, object := 0x40, index := 0, data := be16 (BitVec.ofNat 16 k.val) ++ be16 256 } with
      events := { Events.reset with latch := 0x8000 } }
    s.held = false ∧ s.portC.localQ.length < 4 ∧ s.portC.sending ≠ none ∧ s.events.latch.getLsbD k.val = true ∧
      (s.events.counts[k]).toNat ≠ (256 : Sys2Proof.Word).toNat ∧ (s.events.counts[k]).toNat = (0 : Sys2Proof.Word).toNat := by
  decide +kernel

/-- TRIPPED, with a CLEAR TRIP waiting, at a drive speed. -/
def trippedAt (v : Int) : State :=
  { asking (request 7 0x53 0 []) with
    trip := { Trip.reset with latch := true, line := true, first := some .strike }
    session := { Session.reset with state := .tripped }
    gov := { State.reset.gov with spin := 0, agitate := 0 }
    drive := { speed := v, torque := 0, time := 0 } }

theorem witness_ClearTrip (c : Cause) :
    (trippedAt 69).held = false ∧
      (trippedAt 69).requests = { tag := 7, op := 7, object := 0x53, index := 0, data := [] } :: [] ∧
      (trippedAt 69).portC.localQ.length < 4 ∧ (trippedAt 69).portC.sending ≠ none ∧ (trippedAt 69).trip.latch = true ∧
      (trippedAt 69).session.state = .tripped ∧ (trippedAt 69).speedBelow 70 = true ∧ (trippedAt 69).causeHolds c = false ∧
      (trippedAt 70).speedBelow 70 = false := by cases c <;> decide +kernel
theorem witness_QueryAndUnknown :
    ([request 8 0 3 [], request 8 0 4 [], request 8 0 0 [1], request 0 1 0 [], request 10 1 0 []].all fun r =>
      decide ((asking r).held = false ∧ (asking r).requests = r :: [] ∧ (asking r).portC.localQ.length < 4 ∧
        (asking r).portC.sending ≠ none)) = true := by decide +kernel

/-- A step is due: the injecting part with a pulse waiting. -/
def stepping : State := { injecting 84 with pending := [.flowPulse (at_ 5)] }

theorem witness_FramersAndQueuesKept :
    framersSound stepping = true ∧ queuesBounded stepping = true ∧ oneDemand stepping = true ∧ oneStatus stepping = true ∧
      idleEmpty stepping = true := by decide +kernel
theorem witness_step : ∃ t, step stepping = .next t := ⟨_, rfl⟩
theorem witness_CeilingsKept : ceilingsComposed stepping = true ∧ standingWithin stepping = true := by decide +kernel
theorem witness_TripAndSessionKept :
    tripLine stepping = true ∧ tripHolds stepping = true ∧ causesTaken stepping = true ∧ ceilingsComposed stepping = true ∧
      injectionWhileCorrect stepping = true ∧ valveSound stepping = true ∧ trackerSound stepping.tracker = true ∧
      sessionSound stepping = true ∧ passedRun stepping = true ∧ correctionsSound stepping = true ∧
      bleedSound stepping = true ∧ orphanWhileSilent stepping = true := by decide +kernel
theorem witness_LatchOutlasts :
    (trippedAt 5).trip.latch = true ∧ (∃ t, exec (.flowPulse (at_ 5)) (trippedAt 5) = .next t) ∧
      Instr.flowPulse (at_ 5) ≠ .powerOnReset ∧ Instr.flowPulse (at_ 5) ≠ .resetNLow ∧
      ∀ m, Instr.flowPulse (at_ 5) ≠ .clearTrip m := by
  refine ⟨rfl, ⟨_, rfl⟩, ?_, ?_, ?_⟩ <;> intros <;> nofun
theorem witness_EventsAndNoticesKept :
    liveFollows stepping = true ∧ attnFollows stepping = true ∧ trackerSound stepping.tracker = true ∧
      localDistinct stepping = true := by decide +kernel

/-- Every notice enabled, REPORT_EVERY 2 with one revolution counted, so many frames of kind 2 and of others waiting. -/
def noticing (l : List QFrame) : State :=
  { busy with
    events := { Events.reset with report := 0xFFFF, reportCount := 1 }
    service := { State.reset.service with reportEvery := 2 }, portC := { busy.portC with localQ := l } }

theorem witness_EventsAndNoticesKept_notices :
    State.reset.events.report.getLsbD Kind.strike.number.val = false ∧ (noticing []).portC.sending ≠ none ∧
      (noticing []).events.report.getLsbD Kind.strike.number.val = true ∧
      (let s := { noticing [] with portC := PortC.reset }
       s.portC.sending = none ∧ s.portC.localQ = [] ∧ s.portC.forwardedQ = []) ∧
      State.reset.service.reportEvery = 0 ∧ 0 < (noticing []).service.reportEvery ∧
      (noticing []).service.reportEvery ≤ (noticing []).events.reportCount + 1 := by decide +kernel
/-- R154, R155: with three frames waiting a notice and a report each join, with four each is skipped; one like it is
replaced in place. -/
theorem test_notices_join_and_replace :
    ([[], List.replicate 3 (waits 0x3D [1]), List.replicate 4 (waits 0x3D [1]), [waits 0x3E [13], waits 0x3F []]].map
      fun l => ((latchKind .strike (noticing l)).portC.localQ.map fun f => f.cls,
        (reportClose (noticing l)).portC.localQ.map fun f => f.cls)) =
    [([0x3E], [0x3F]), ([0x3D, 0x3D, 0x3D, 0x3E], [0x3D, 0x3D, 0x3D, 0x3F]),
      ([0x3D, 0x3D, 0x3D, 0x3D], [0x3D, 0x3D, 0x3D, 0x3D]), ([0x3E, 0x3F], [0x3E, 0x3F])] := by decide +kernel
theorem witness_EstimateKept :
    trackerSound stepping.tracker = true ∧ estimatorSound stepping.est = true ∧ estimateInRange stepping.est = true ∧
      estimateTrusted stepping = true ∧ within (-8000) 8000 stepping.intake.last.ax = true ∧
      within (-8000) 8000 stepping.intake.last.ay = true := by decide +kernel
theorem witness_RangesKept :
    spinInRange stepping.spin = true ∧ serviceInRange stepping = true ∧ tablesInRange stepping.tables = true ∧
      contentsInRange stepping = true ∧ monitorSound stepping = true ∧ recordsInRange stepping = true ∧
      stepping.gov.spin ≤ 1500 ∧ stepping.gov.agitate ≤ 1500 := by decide +kernel
theorem witness_SettingsStand :
    (∃ t, exec (.write (at_ 5)) stepping = .next t) ∧ Instr.write (at_ 5) ≠ .powerOnReset ∧ Instr.write (at_ 5) ≠ .resetNLow ∧
      stepping.session.state ≠ .idle ∧ stepping.limits.abs = some 1100 ∧ stepping.limits.mass = some 600 := by
  refine ⟨⟨_, rfl⟩, nofun, nofun, ?_, ?_, ?_⟩ <;> decide +kernel

end Sys2Proof.Tests
end

section
/-! SUPPORT. Chapter 2, transmission: what the two arbiters pick as a port ends a transmission (R16 to R18). -/

namespace Sys2Proof.Machine

/-! ### The event unit -/

/-- R149: a condition offered moves the event unit and, by its notice, Port C alone. -/
theorem offerLive_frame (k : Kind) (v : Bool) (s : State) :
    offerLive k v s = { s with events := (offerLive k v s).events, portC := (offerLive k v s).portC } := by
  rcases offerLive_cases k v s with ⟨-, heq⟩ | ⟨-, heq⟩
  · rw [heq]
  · rw [heq]; split <;> rfl

/-! ### The end of a transmission -/

/-- R16: TRANSMIT_END reaches a part that is not held as the end of the port's transmission. -/
theorem exec_transmitEnd {s : State} (h : s.held = false) (m : Moment) (port : Port) :
    exec (.transmitEnd m port) s = .next (endSend port (tick m s)) :=
  happen_live h m (endSend port)

/-- R16: a frame of so many bytes has left when ten microseconds a byte have passed. -/
theorem sendingDone_iff (now : Time) (x : Sending) :
    sendingDone now x = true ↔ x.bytes.length * 10 ≤ elapsed now x.start :=
  decide_eq_true_iff

/-- R16, R18: as its frame has left, Port C hands over to its arbiter. -/
theorem endSendC_done {s : State} {x : Sending} (hx : s.portC.sending = some x) (hd : sendingDone s.now x = true) :
    endSendC s = { s with portC := ({ s.portC with sending := none }).startNext s.now } := by
  simp [endSendC, hx, hd, PortC.kick]

/-- R16: the state in which the frame on the line of Port D has left and the arbiter has not picked yet. -/
def freeD (s : State) : State := { s with portD := { s.portD with sending := none } }

/-- R16, R17: as its frame has left, Port D hands over to its arbiter. -/
theorem endSendD_done {s : State} {x : Sending} (hx : s.portD.sending = some x) (hd : sendingDone s.now x = true) :
    endSendD s = startD (freeD s) := by
  simp [endSendD, hx, hd, kickD, freeD]

/-! ### The Port C arbiter -/

/-- R18: the local queue's front leaves when the mark names the other queue or the other queue is empty. -/
theorem PortC.startNext_localQ {p : PortC} {f : QFrame} {rest : List QFrame} (now : Time) (hl : p.localQ = f :: rest)
    (hm : p.mark = .forwarded ∨ p.forwardedQ = []) :
    p.startNext now = ({ p with localQ := rest, mark := .localQ }).send now f := by
  rcases PortC.startNext_cases now p with ⟨hnil, -, -⟩ | ⟨g, gs, hg, -, heq⟩ | ⟨g, gs, hg, hm', -⟩
  · simp [hl] at hnil
  · obtain ⟨rfl, rfl⟩ := List.cons.inj (hl.symm.trans hg)
    exact heq
  · have hmark : p.mark = .localQ := by simpa [hl] using hm'
    simp [hmark, hg] at hm

/-- R18: the forwarded queue's front leaves when the mark names the other queue or the other queue is empty. -/
theorem PortC.startNext_forwardedQ {p : PortC} {f : QFrame} {rest : List QFrame} (now : Time)
    (hf : p.forwardedQ = f :: rest) (hm : p.mark = .localQ ∨ p.localQ = []) :
    p.startNext now = ({ p with forwardedQ := rest, mark := .forwarded }).send now f := by
  rcases PortC.startNext_cases now p with ⟨-, hnil, -⟩ | ⟨g, gs, hg, hm', -⟩ | ⟨g, gs, hg, -, heq⟩
  · simp [hf] at hnil
  · have hmark : p.mark = .forwarded := by simpa [hf] using hm'
    simp [hmark, hg] at hm
  · obtain ⟨rfl, rfl⟩ := List.cons.inj (hf.symm.trans hg)
    exact heq

/-- R18: with nothing waiting Port C stays as it is. -/
theorem PortC.startNext_nothing {p : PortC} (now : Time) (hl : p.localQ = []) (hf : p.forwardedQ = []) :
    p.startNext now = p := by
  rcases PortC.startNext_cases now p with ⟨-, -, heq⟩ | ⟨g, gs, hg, -, -⟩ | ⟨g, gs, hg, -, -⟩
  · exact heq
  · simp [hl] at hg
  · simp [hf] at hg

/-! ### The Port D arbiter -/

/-- R17: the frame picked is the front of the local queue, or of the forwarded queue when the local one is empty; it
leaves the queue it stood in. -/
theorem PortD.pick_eq {p : PortD} {f : QFrame} {rest : List QFrame}
    (h : p.localQ ++ (if p.localQ = [] then p.forwardedQ else []) = f :: rest) :
    p.pick = some (f,
      { p with
        localQ := p.localQ.tail
        forwardedQ := if p.localQ = [] then p.forwardedQ.tail else p.forwardedQ }) := by
  obtain ⟨fq, lq, seq, snd⟩ := p
  cases lq with
  | cons g gs => simp_all [PortD.pick]
  | nil => cases fq <;> simp_all [PortD.pick]

/-- R17: with nothing waiting nothing is picked. -/
theorem PortD.pick_nothing {p : PortD} (hl : p.localQ = []) (hf : p.forwardedQ = []) : p.pick = none := by
  simp [PortD.pick, hl, hf]

/-- R16: with nothing to pick Port D stays idle. -/
theorem startD_nothing {s : State} (h : s.portD.pick = none) : startD s = s := by
  simp [startD, h]

/-- R16: a frame of another class than SPEED DEMAND leaves Port D as it waited. -/
theorem startD_plain {s : State} {f : QFrame} {p : PortD} (h : s.portD.pick = some (f, p))
    (hc : f.cls ≠ speedDemandClass) : startD s = { s with portD := p.send s.now f.cls f.payload } := by
  simp [startD, h, hc]

/-- R16, R21: a SPEED DEMAND leaves Port D governed, and GOVERNING is judged. -/
theorem startD_demand {s : State} {f : QFrame} {p : PortD} (h : s.portD.pick = some (f, p))
    (hc : f.cls = speedDemandClass) :
    startD s =
      judgeLive .governing
        { s with portD := p.send s.now f.cls (govern s f).payload, standing := govern s f } := by
  simp [startD, h, hc]

/-- R16, R21: what a transmission that starts on Port D may move. -/
theorem startD_frame (s : State) :
    startD s =
      { s with
        portD := (startD s).portD, standing := (startD s).standing, events := (startD s).events
        portC := (startD s).portC } := by
  cases hp : s.portD.pick with
  | none => rw [startD_nothing hp]
  | some fp =>
    obtain ⟨f, p⟩ := fp
    by_cases hc : f.cls = speedDemandClass
    · rw [startD_demand hp hc, judgeLive, offerLive_frame]
    · rw [startD_plain hp hc]

/-- R17: the frame picked leaves its queue, and no other frame moves. -/
theorem startD_queues (s : State) :
    (startD s).portD.localQ = s.portD.localQ.tail ∧
      (startD s).portD.forwardedQ = if s.portD.localQ = [] then s.portD.forwardedQ.tail else s.portD.forwardedQ := by
  cases hw : s.portD.localQ ++ (if s.portD.localQ = [] then s.portD.forwardedQ else []) with
  | nil =>
    have hl : s.portD.localQ = [] := (List.append_eq_nil_iff.mp hw).1
    have hf : s.portD.forwardedQ = [] := by simpa [hl] using hw
    simp [startD_nothing (PortD.pick_nothing hl hf), hl, hf]
  | cons f rest =>
    have hp := PortD.pick_eq hw
    by_cases hc : f.cls = speedDemandClass
    · simp [startD_demand hp hc, PortD.send]
    · simp [startD_plain hp hc, PortD.send]

/-! ### The obligations -/

/-- Settles O19: the Port D arbiter's pick, at the command's moment with the old frame gone (`freeD`). -/
theorem arbiterD : Obligations.ArbiterD := by
  intro m s x hheld hx hd
  have hdone : sendingDone (tick m s).now x = true := (sendingDone_iff _ _).mpr hd
  refine ⟨_, (exec_transmitEnd hheld m .d).trans (congrArg _ (endSendD_done hx hdone)), ?_⟩
  obtain ⟨hlocal, hforwarded⟩ := startD_queues (freeD (tick m s))
  refine ⟨hlocal, hforwarded, fun hl hf => ?idle, fun f rest hw hc => ?plain, startD_frame _⟩
  case idle =>
    rw [startD_nothing (s := freeD (tick m s)) (PortD.pick_nothing hl hf)]
    rfl
  case plain =>
    rw [startD_plain (s := freeD (tick m s)) (PortD.pick_eq hw) hc]
    exact ⟨rfl, rfl, rfl⟩

/-- Settles O21: the Port C arbiter's pick in each of its cases, and the mark that Port C starts with. -/
theorem arbiterC : Obligations.ArbiterC := by
  refine ⟨fun m s x hheld hx hd => ?_, rfl⟩
  have hdone : sendingDone (tick m s).now x = true := (sendingDone_iff _ _).mpr hd
  exact ⟨_, (exec_transmitEnd hheld m .c).trans (congrArg _ (endSendC_done hx hdone)),
    fun _ _ hl hm => PortC.startNext_localQ _ hl hm, fun _ _ hf hm => PortC.startNext_forwardedQ _ hf hm,
    fun hl hf => PortC.startNext_nothing _ hl hf, rfl⟩

end Sys2Proof.Machine

end

section
/-! SUPPORT. Section 3.10: the sine table against the sine (R51). The first quarter is checked on the powers of one
Gaussian integer, 10^12 times the rotation by one 1024th of a turn; the other quarters follow by the two symmetries. -/

namespace Sys2Proof.Machine

/-! ### The symmetries of the table -/

/-- R51: the second quarter reads the first one backwards. -/
theorem sineEntry_half_sub_of_le {k : Nat} (h : k ≤ 256) : sineEntry (512 - k) = sineEntry k := by
  rcases h.eq_or_lt with rfl | hlt
  · rfl
  · have hk : 512 - (512 - k) = k := by omega
    simp [sineEntry, h, hk, show ¬ 512 - k ≤ 256 by omega]

/-- R51: the table is even about entry 256 on its first half. -/
theorem sineEntry_half_sub {k : Nat} (h : k ≤ 512) : sineEntry (512 - k) = sineEntry k := by
  rcases le_total k 256 with hk | hk
  · exact sineEntry_half_sub_of_le hk
  · have hmirror := sineEntry_half_sub_of_le (k := 512 - k) (by omega)
    rwa [Nat.sub_sub_self h, eq_comm] at hmirror

/-- R51: the fourth quarter is the negative of the first. -/
theorem sineEntry_full_sub_of_quarter {k : Nat} (h : k ≤ 256) (hpos : 1 ≤ k) :
    sineEntry (1024 - k) = -sineEntry k := by
  rcases h.eq_or_lt with rfl | hlt
  · rfl
  · have hk : 1024 - (1024 - k) = k := by omega
    simp [sineEntry, h, hk, show ¬ 1024 - k ≤ 256 by omega, show ¬ 1024 - k ≤ 512 by omega,
      show ¬ 1024 - k ≤ 768 by omega]

/-- R51: the third quarter is the negative of the first. -/
theorem sineEntry_half_add {k : Nat} (h : k ≤ 256) : sineEntry (512 + k) = -sineEntry k := by
  rcases k.eq_zero_or_pos with rfl | hpos
  · rfl
  · simp [sineEntry, h, show ¬ 512 + k ≤ 256 by omega, show ¬ 512 + k ≤ 512 by omega, show 512 + k ≤ 768 by omega]

/-- R51: each entry of the first half has its negative in the second. -/
theorem sineEntry_full_sub_of_half {k : Nat} (h : k ≤ 512) (hpos : 1 ≤ k) :
    sineEntry (1024 - k) = -sineEntry k := by
  rcases le_total k 256 with hk | hk
  · exact sineEntry_full_sub_of_quarter hk hpos
  · have hthird := sineEntry_half_add (k := 512 - k) (by omega)
    rwa [sineEntry_half_sub h, show 512 + (512 - k) = 1024 - k by omega] at hthird

/-- R51: the table is odd about entry 512. -/
theorem sineEntry_full_sub {k : Nat} (hpos : 1 ≤ k) (h : k ≤ 1023) : sineEntry (1024 - k) = -sineEntry k := by
  rcases le_total k 512 with hk | hk
  · exact sineEntry_full_sub_of_half hk hpos
  · have hodd := sineEntry_full_sub_of_half (k := 1024 - k) (by omega) (by omega)
    rw [Nat.sub_sub_self (by omega : k ≤ 1024)] at hodd
    rw [hodd, neg_neg]

/-! ### The symmetries of the sine -/

/-- R51: what the table rounds at place k, sin(2πk/1024). -/
noncomputable def sineOfTurns (k : Nat) : ℝ := Real.sin (2 * Real.pi * k / 1024)

theorem sineOfTurns_half_sub {k : Nat} (h : k ≤ 512) : sineOfTurns (512 - k) = sineOfTurns k := by
  rw [sineOfTurns, sineOfTurns, ← Real.sin_pi_sub]
  congr 1
  push_cast [h]
  ring

theorem sineOfTurns_full_sub {k : Nat} (h : k ≤ 1024) : sineOfTurns (1024 - k) = -sineOfTurns k := by
  rw [sineOfTurns, sineOfTurns, ← Real.sin_two_pi_sub]
  congr 1
  push_cast [h]
  ring

/-- R51: entry k is 16384 × sin(2πk/1024) to the nearest integer. -/
def SineRounds (k : Nat) : Prop := |(sineEntry k : ℝ) - 16384 * sineOfTurns k| < 1 / 2

theorem SineRounds.half_sub {k : Nat} (hk : k ≤ 512) (h : SineRounds k) : SineRounds (512 - k) := by
  rwa [SineRounds, sineEntry_half_sub hk, sineOfTurns_half_sub hk]

theorem SineRounds.full_sub {k : Nat} (hpos : 1 ≤ k) (hk : k ≤ 1023) (h : SineRounds k) : SineRounds (1024 - k) := by
  rwa [SineRounds, sineEntry_full_sub hpos hk, sineOfTurns_full_sub (by omega), Int.cast_neg, mul_neg, neg_sub_neg,
    abs_sub_comm]

/-! ### One 1024th of a turn -/

/-- 10^12 times the rotation by 2π/1024, to the nearest Gaussian integer of its Taylor terms below the fourth. -/
def turnStep : GaussianInt := ⟨999981175224, 6135884649⟩

/-- The rotation that `turnStep` stands for. -/
noncomputable def approxRotation : ℂ := (turnStep : ℂ) / (10 ^ 12 : ℝ)

theorem approxRotation_eq : approxRotation = ⟨999981175224 / 10 ^ 12, 6135884649 / 10 ^ 12⟩ := by
  rw [approxRotation, GaussianInt.toComplex_def₂, Complex.div_ofReal]
  simp [turnStep]

/-- The exact rotation by 2π/1024. -/
noncomputable def rotation : ℂ := Complex.exp ((Real.pi / 512 : ℝ) * Complex.I)

theorem norm_rotation : ‖rotation‖ = 1 := Complex.norm_exp_ofReal_mul_I _

theorem norm_approxRotation_le_one : ‖approxRotation‖ ≤ 1 := by
  rw [← abs_norm, ← sq_le_one_iff_abs_le_one, ← Complex.normSq_eq_norm_sq, approxRotation_eq, Complex.normSq_mk]
  norm_num

/-- The angle of one step, from the places of π. -/
theorem pi_div_512_bounds : 0.006135923151542 ≤ Real.pi / 512 ∧ Real.pi / 512 ≤ 0.006135923151543 := by
  constructor <;> linarith [Real.pi_gt_d20, Real.pi_lt_d20]

theorem pi_div_512_pow_bounds (n : Nat) :
    0.006135923151542 ^ n ≤ (Real.pi / 512) ^ n ∧ (Real.pi / 512) ^ n ≤ 0.006135923151543 ^ n := by
  obtain ⟨hlo, hhi⟩ := pi_div_512_bounds
  exact ⟨pow_le_pow_left₀ (by norm_num) hlo n, pow_le_pow_left₀ (by positivity) hhi n⟩

theorem abs_pi_div_512 : |Real.pi / 512| = Real.pi / 512 := abs_of_pos (by positivity)

theorem abs_pi_div_512_le_one : |Real.pi / 512| ≤ 1 := by
  rw [abs_pi_div_512]
  linarith [pi_div_512_bounds.2]

/-- The cosine is pinned by its Taylor terms below the fourth. -/
theorem abs_cos_sub_le : |Real.cos (Real.pi / 512) - 999981175224 / 10 ^ 12| ≤ 75 / 10 ^ 12 := by
  have htaylor := Real.cos_bound abs_pi_div_512_le_one
  rw [abs_pi_div_512, abs_le] at htaylor
  obtain ⟨hlo, hhi⟩ := htaylor
  obtain ⟨hlo2, hhi2⟩ := pi_div_512_pow_bounds 2
  obtain ⟨-, hhi4⟩ := pi_div_512_pow_bounds 4
  rw [abs_le]
  constructor <;> linarith

/-- The sine is pinned by its Taylor terms below the fifth. -/
theorem abs_sin_sub_le : |Real.sin (Real.pi / 512) - 6135884649 / 10 ^ 12| ≤ 1 / 10 ^ 12 := by
  have htaylor := Real.sin_bound abs_pi_div_512_le_one
  rw [abs_pi_div_512, abs_le] at htaylor
  obtain ⟨hlo, hhi⟩ := htaylor
  obtain ⟨hlo1, hhi1⟩ := pi_div_512_bounds
  obtain ⟨hlo3, hhi3⟩ := pi_div_512_pow_bounds 3
  obtain ⟨-, hhi5⟩ := pi_div_512_pow_bounds 5
  rw [abs_le]
  constructor <;> linarith

theorem norm_rotation_sub_le : ‖rotation - approxRotation‖ ≤ 80 / 10 ^ 12 := by
  refine (Complex.norm_le_abs_re_add_abs_im _).trans ?_
  rw [approxRotation_eq, Complex.sub_re, Complex.sub_im, rotation, Complex.exp_ofReal_mul_I_re,
    Complex.exp_ofReal_mul_I_im]
  linarith [abs_cos_sub_le, abs_sin_sub_le]

/-- In the unit disc the error of a power is at most the error of the base, so many times. -/
theorem norm_pow_sub_pow_le_mul {z w : ℂ} (hz : ‖z‖ ≤ 1) (hw : ‖w‖ ≤ 1) (k : Nat) :
    ‖z ^ k - w ^ k‖ ≤ k * ‖z - w‖ := by
  induction k with
  | zero => simp
  | succ k ih =>
    calc ‖z ^ (k + 1) - w ^ (k + 1)‖ = ‖z ^ k * (z - w) + (z ^ k - w ^ k) * w‖ := by ring_nf
      _ ≤ ‖z‖ ^ k * ‖z - w‖ + ‖z ^ k - w ^ k‖ * ‖w‖ := by
        simpa only [norm_mul, norm_pow] using norm_add_le (z ^ k * (z - w)) ((z ^ k - w ^ k) * w)
      _ ≤ 1 * ‖z - w‖ + k * ‖z - w‖ * 1 := by
        gcongr
        exact pow_le_one₀ (norm_nonneg z) hz
      _ = (k + 1 : Nat) * ‖z - w‖ := by push_cast; ring

theorem rotation_pow_im (k : Nat) : (rotation ^ k).im = sineOfTurns k := by
  rw [rotation, ← Complex.exp_nat_mul, ← mul_assoc, ← Complex.ofReal_natCast, ← Complex.ofReal_mul,
    Complex.exp_ofReal_mul_I_im, sineOfTurns]
  congr 1
  ring

/-- The sine of k steps as the k-th power of `turnStep` gives it. -/
noncomputable def approxSine (k : Nat) : ℝ := (turnStep ^ k).im / (10 ^ 12) ^ k

theorem approxRotation_pow_im (k : Nat) : (approxRotation ^ k).im = approxSine k := by
  rw [approxRotation, div_pow, ← map_pow, ← Complex.ofReal_pow, Complex.div_ofReal_im, approxSine,
    GaussianInt.intCast_im]

theorem abs_sineOfTurns_sub_le (k : Nat) : |sineOfTurns k - approxSine k| ≤ (k : ℝ) * (80 / 10 ^ 12) :=
  calc |sineOfTurns k - approxSine k|
      = |(rotation ^ k - approxRotation ^ k).im| := by
        rw [Complex.sub_im, rotation_pow_im, approxRotation_pow_im]
    _ ≤ ‖rotation ^ k - approxRotation ^ k‖ := Complex.abs_im_le_norm _
    _ ≤ k * ‖rotation - approxRotation‖ :=
        norm_pow_sub_pow_le_mul norm_rotation.le norm_approxRotation_le_one k
    _ ≤ k * (80 / 10 ^ 12) := by gcongr; exact norm_rotation_sub_le

/-! ### The first quarter -/

/-- Entry k lies within 1/2 of 16384 times the approximate sine, with room for that sine's error: over the integers. -/
def roundsWithRoom (k : Nat) : Bool :=
  decide (2 * (10 ^ 12 * |sineEntry k * (10 ^ 12) ^ k - 16384 * (turnStep ^ k).im| + 16384 * (80 * k) * (10 ^ 12) ^ k) <
    (10 ^ 12 * (10 ^ 12) ^ k : Int))

theorem quarter_roundsWithRoom : ∀ k : Nat, k < 257 → roundsWithRoom k = true := by decide +kernel

/-- What the check says of the approximate sine, over the reals. -/
theorem abs_sineEntry_sub_approx_lt {k : Nat} (h : roundsWithRoom k = true) :
    |(sineEntry k : ℝ) - 16384 * approxSine k| < 1 / 2 - 16384 * (k * (80 / 10 ^ 12)) := by
  have hpow : (0 : ℝ) < (10 ^ 12) ^ k := by positivity
  have hreal : (2 : ℝ) * (10 ^ 12 * |(sineEntry k : ℝ) * (10 ^ 12) ^ k - 16384 * ((turnStep ^ k).im : ℝ)| +
      16384 * (80 * k) * (10 ^ 12) ^ k) < 10 ^ 12 * (10 ^ 12) ^ k := by
    exact_mod_cast of_decide_eq_true h
  have hscale : (sineEntry k : ℝ) * (10 ^ 12) ^ k - 16384 * ((turnStep ^ k).im : ℝ) =
      (sineEntry k - 16384 * approxSine k) * (10 ^ 12) ^ k := by
    rw [approxSine]
    field_simp
  rw [hscale, abs_mul, abs_of_pos hpow] at hreal
  refine lt_of_mul_lt_mul_right ?_ hpow.le
  generalize ((10 : ℝ) ^ 12) ^ k = p at hreal ⊢
  linarith

theorem SineRounds.of_roundsWithRoom {k : Nat} (h : roundsWithRoom k = true) : SineRounds k :=
  calc |(sineEntry k : ℝ) - 16384 * sineOfTurns k|
      = |(sineEntry k - 16384 * approxSine k) - 16384 * (sineOfTurns k - approxSine k)| := by ring_nf
    _ ≤ |sineEntry k - 16384 * approxSine k| + 16384 * |sineOfTurns k - approxSine k| := by
      simpa only [abs_mul, Nat.abs_ofNat] using
        abs_sub (sineEntry k - 16384 * approxSine k) (16384 * (sineOfTurns k - approxSine k))
    _ < 1 / 2 := by linarith [abs_sineOfTurns_sub_le k, abs_sineEntry_sub_approx_lt h]

theorem sineRounds_of_le_quarter {k : Nat} (h : k ≤ 256) : SineRounds k :=
  .of_roundsWithRoom (quarter_roundsWithRoom k (by omega))

theorem sineRounds_of_le_half {k : Nat} (h : k ≤ 512) : SineRounds k := by
  rcases le_total k 256 with hk | hk
  · exact sineRounds_of_le_quarter hk
  · have hmirror := (sineRounds_of_le_quarter (k := 512 - k) (by omega)).half_sub (by omega)
    rwa [Nat.sub_sub_self h] at hmirror

theorem sineRounds {k : Nat} (h : k < 1024) : SineRounds k := by
  rcases le_total k 512 with hk | hk
  · exact sineRounds_of_le_half hk
  · have hodd := (sineRounds_of_le_half (k := 1024 - k) (by omega)).full_sub (by omega) (by omega)
    rwa [Nat.sub_sub_self h.le] at hodd

/-- R51: an entry that rounds 16384 times a sine lies in −16384..16384. -/
theorem SineRounds.abs_le {k : Nat} (h : SineRounds k) : |sineEntry k| ≤ 16384 := by
  have hsine : |16384 * sineOfTurns k| ≤ 16384 := by
    have hone : |sineOfTurns k| ≤ 1 := Real.abs_sin_le_one _
    rw [abs_mul, abs_of_pos (by norm_num)]
    linarith
  have hlt : |(sineEntry k : ℝ)| < 16384 + 1 := by
    linarith [abs_sub_abs_le_abs_sub (sineEntry k : ℝ) (16384 * sineOfTurns k), show |_| < _ from h]
  exact Int.lt_add_one_iff.mp (by exact_mod_cast hlt)

/-- Settles O33: the first quarter by `turnStep`, the rest by the symmetries; the range by the rounding itself. -/
theorem sineTableRounds : Obligations.SineTableRounds :=
  ⟨fun _ hk => sineRounds hk, fun _ hk => abs_le.mp (sineRounds hk).abs_le, rfl, rfl, rfl, rfl,
    fun _ hk => sineEntry_half_sub hk, fun _ hpos hk => sineEntry_full_sub hpos hk⟩

end Sys2Proof.Machine

end

section
/-! SUPPORT. Chapter 4, the arithmetic of a counted revolution: the rounding of R58, the filter step of R59 and the root
of R60. -/

namespace Sys2Proof.Machine

/-! ### The integer root -/

/-- R60: a search place keeps the square at or below `n` and halves the room above the root. -/
theorem isqrtStep_bounds {n r i : Nat} (hlo : r ^ 2 ≤ n) (hhi : n < (r + 2 ^ (i + 1)) ^ 2) :
    isqrtStep n r i ^ 2 ≤ n ∧ n < (isqrtStep n r i + 2 ^ i) ^ 2 := by
  unfold isqrtStep
  split <;> rename_i h <;> rw [← sq] at h
  · rw [add_assoc, ← two_mul, ← pow_succ']
    exact ⟨h, hhi⟩
  · exact ⟨hlo, not_le.mp h⟩

/-- R60: from a start with less than 2^i of room above it the search over i bits ends at the root. -/
theorem isqrtFrom_bounds {n i r : Nat} (hlo : r ^ 2 ≤ n) (hhi : n < (r + 2 ^ i) ^ 2) :
    isqrtFrom n i r ^ 2 ≤ n ∧ n < (isqrtFrom n i r + 1) ^ 2 := by
  induction i generalizing r with
  | zero => exact ⟨hlo, hhi⟩
  | succ i ih =>
    obtain ⟨hlo', hhi'⟩ := isqrtStep_bounds hlo hhi
    exact ih hlo' hhi'

/-- R60: `isqrt` is the greatest integer whose square does not exceed `n`, for `n` below 2^34. -/
theorem isqrt_bounds {n : Nat} (h : n < 2 ^ 34) : isqrt n ^ 2 ≤ n ∧ n < (isqrt n + 1) ^ 2 :=
  isqrtFrom_bounds (Nat.zero_le n) (by simpa using h)

/-- R60: the magnitude of components in −32767..32767 is the root of their sum of squares and lies in 0..46339. -/
theorem magnitude_bounds {fx fy : Int} (hx : fx.natAbs ≤ 32767) (hy : fy.natAbs ≤ 32767) :
    magnitude fx fy ^ 2 ≤ fx.natAbs ^ 2 + fy.natAbs ^ 2 ∧ fx.natAbs ^ 2 + fy.natAbs ^ 2 < (magnitude fx fy + 1) ^ 2 ∧
      magnitude fx fy ≤ 46339 := by
  have hsum : fx.natAbs ^ 2 + fy.natAbs ^ 2 ≤ 32767 ^ 2 + 32767 ^ 2 := by gcongr
  rw [magnitude, ← sq, ← sq]
  obtain ⟨hlo, hhi⟩ := isqrt_bounds (hsum.trans_lt (by norm_num))
  have hroot : isqrt (fx.natAbs ^ 2 + fy.natAbs ^ 2) < 46340 :=
    lt_of_pow_lt_pow_left₀ 2 (by norm_num) ((hlo.trans hsum).trans_lt (by norm_num))
  exact ⟨hlo, hhi, Nat.le_of_lt_succ hroot⟩

/-! ### The raw component -/

/-- R1: a rounded quotient times the divisor has the sign of `a`; its size lies above |a| − b/2 and not above
|a| + b/2. The upper bound alone is reached, which is the rule for halves. -/
theorem roundDiv_mul_eq (a : Int) {b : Nat} (hb : 0 < b) :
    ∃ y : Nat, 2 * y ≤ 2 * a.natAbs + b ∧ 2 * a.natAbs + b < 2 * y + 2 * b ∧
      (a < 0 ∧ roundDiv a b * b = -y ∨ 0 ≤ a ∧ roundDiv a b * b = y) := by
  have hdiv := Nat.div_add_mod (2 * a.natAbs + b) (2 * b)
  have hmod := Nat.mod_lt (2 * a.natAbs + b) (y := 2 * b) (by omega)
  rw [mul_assoc] at hdiv
  refine ⟨b * ((2 * a.natAbs + b) / (2 * b)), by omega, by omega, ?_⟩
  unfold roundDiv
  split <;> rename_i ha
  · exact .inl ⟨ha, by push_cast; ring⟩
  · exact .inr ⟨not_lt.mp ha, by push_cast; ring⟩

/-- R1: a rounded quotient misses the exact one by at most a half. -/
theorem roundDiv_error_le (a : Int) {b : Nat} (hb : 0 < b) : 2 * (roundDiv a b * b - a).natAbs ≤ b := by
  obtain ⟨y, hlo, hhi, hsign⟩ := roundDiv_mul_eq a hb
  omega

/-- R1: a quotient halfway between two integers rounds to the one farther from zero. -/
theorem natAbs_lt_roundDiv_of_half {a : Int} {b : Nat} (hb : 0 < b) (h : 2 * (roundDiv a b * b - a).natAbs = b) :
    a.natAbs < (roundDiv a b * b).natAbs := by
  obtain ⟨y, hlo, hhi, hsign⟩ := roundDiv_mul_eq a hb
  omega

/-- R1: a clamp is the greater of the low bound and the lesser of the high bound and the value. -/
theorem clampInt_eq_max_min {lo hi : Int} (h : lo ≤ hi) (v : Int) : clampInt lo hi v = max lo (min hi v) := by
  unfold clampInt
  split
  · omega
  · split <;> omega

/-- R58: a raw component lies in −32767..32767. -/
theorem rawComponent_natAbs_le (sum : Int) (n : Nat) : (rawComponent sum n).natAbs ≤ 32767 := by
  obtain ⟨hlo, hhi⟩ := clampInt_mem (lo := -32767) (hi := 32767) (by decide) (roundDiv (16 * sum) (n * 16384))
  unfold rawComponent
  omega

/-! ### The filter step -/

/-- R59: with nothing to shift by the filter takes the raw value. -/
theorem filterStep_zero (f r : Int) : filterStep 0 f r = r := by
  simp [filterStep, floorDiv]

/-- R59: the move of a filter step is the quotient of the difference by 2^k rounded toward minus infinity. -/
theorem filterStep_floors (k : Nat) (f r : Int) :
    2 ^ k * (filterStep k f r - f) ≤ r - f ∧ r - f < 2 ^ k * (filterStep k f r - f + 1) := by
  have hpos : (0 : Int) < 2 ^ k := by positivity
  simp only [filterStep, floorDiv, add_sub_cancel_left, Nat.cast_pow, Nat.cast_ofNat, mul_add, mul_one]
  exact ⟨Int.mul_ediv_self_le hpos.ne', Int.lt_mul_ediv_self_add hpos⟩

/-- R59: a step toward a raw value at or above the old one ends between the two. -/
theorem filterStep_mem_of_le {f r : Int} (k : Nat) (h : f ≤ r) : f ≤ filterStep k f r ∧ filterStep k f r ≤ r := by
  have hnonneg : 0 ≤ floorDiv (r - f) (2 ^ k) := Int.ediv_nonneg (by omega) (by positivity)
  have hle : floorDiv (r - f) (2 ^ k) ≤ r - f := Int.ediv_le_self _ (by omega)
  unfold filterStep
  omega

/-- R59: a step toward a raw value at or below the old one ends between the two. -/
theorem filterStep_mem_of_ge {f r : Int} (k : Nat) (h : r ≤ f) : r ≤ filterStep k f r ∧ filterStep k f r ≤ f := by
  have hnonpos : floorDiv (r - f) (2 ^ k) ≤ 0 := Int.ediv_nonpos_of_nonpos_of_neg (by omega) (by positivity)
  have hge : r - f ≤ floorDiv (r - f) (2 ^ k) :=
    Int.le_ediv_of_mul_le (by positivity) (mul_le_of_one_le_right (by omega) (by exact_mod_cast Nat.one_le_two_pow))
  unfold filterStep
  omega

/-- R59: a filter step keeps a component in −32767..32767. -/
theorem filterStep_natAbs_le (k : Nat) {f r : Int} (hf : f.natAbs ≤ 32767) (hr : r.natAbs ≤ 32767) :
    (filterStep k f r).natAbs ≤ 32767 := by
  rcases le_total f r with h | h
  · obtain ⟨hlo, hhi⟩ := filterStep_mem_of_le k h
    omega
  · obtain ⟨hlo, hhi⟩ := filterStep_mem_of_ge k h
    omega

/-! ### The estimate of a counted revolution -/

section
variable (k : Nat) (gain : Vector Nat 32) (b : Nat) (a : Accumulation) (e : Estimator)

theorem estimate_seed : (e.estimate k gain b a).seed = false := rfl

/-- R59: the seed mark chooses between the raw component and the filter step. -/
theorem estimate_fx :
    (e.estimate k gain b a).fx =
      if e.seed then rawComponent a.i a.n else filterStep k e.fx (rawComponent a.i a.n) := rfl

/-- R59: the seed mark chooses between the raw component and the filter step. -/
theorem estimate_fy :
    (e.estimate k gain b a).fy =
      if e.seed then rawComponent a.q a.n else filterStep k e.fy (rawComponent a.q a.n) := rfl

/-- R60: M16 is the magnitude of the filtered vector after the step. -/
theorem estimate_m16 :
    (e.estimate k gain b a).m16 = magnitude (e.estimate k gain b a).fx (e.estimate k gain b a).fy := rfl

variable {e}

/-- R58, R59: the estimate keeps the filtered components in −32767..32767. -/
theorem estimate_fx_natAbs_le (h : e.fx.natAbs ≤ 32767) : (e.estimate k gain b a).fx.natAbs ≤ 32767 := by
  rw [estimate_fx]
  split
  · exact rawComponent_natAbs_le _ _
  · exact filterStep_natAbs_le k h (rawComponent_natAbs_le _ _)

/-- R58, R59: the estimate keeps the filtered components in −32767..32767. -/
theorem estimate_fy_natAbs_le (h : e.fy.natAbs ≤ 32767) : (e.estimate k gain b a).fy.natAbs ≤ 32767 := by
  rw [estimate_fy]
  split
  · exact rawComponent_natAbs_le _ _
  · exact filterStep_natAbs_le k h (rawComponent_natAbs_le _ _)

end

/-- Settles O31: M16 is the magnitude of two components that the step keeps in range. -/
theorem magnitudeIsRoot : Obligations.MagnitudeIsRoot := fun k gain b a e hx hy => by
  dsimp only
  rw [estimate_m16]
  exact magnitude_bounds (estimate_fx_natAbs_le k gain b a hx) (estimate_fy_natAbs_le k gain b a hy)

/-- R58: a raw component is the saturated nearest quotient, with halves away from zero. -/
theorem rawComponent_rounds (sum : Int) {n : Nat} (hn : 0 < n) :
    ∃ r : Int, rawComponent sum n = max (-32767) (min 32767 r) ∧
      2 * (r * (n * 16384) - 16 * sum).natAbs ≤ n * 16384 ∧
      (2 * (r * (n * 16384) - 16 * sum).natAbs = n * 16384 → (16 * sum).natAbs < (r * (n * 16384)).natAbs) := by
  have hb : 0 < n * 16384 := by omega
  have hcast : ((n * 16384 : Nat) : Int) = n * 16384 := by push_cast; rfl
  refine ⟨roundDiv (16 * sum) (n * 16384), clampInt_eq_max_min (by decide) _, ?_, ?_⟩ <;> rw [← hcast]
  · exact roundDiv_error_le _ hb
  · exact natAbs_lt_roundDiv_of_half hb

/-- Settles O32: the rounding of a raw component, the floored filter step, and the estimate made of the two. -/
theorem vectorSteps : Obligations.VectorSteps :=
  ⟨fun sum _ hn => rawComponent_rounds sum hn,
    fun k f r => ⟨filterStep_mem_of_le k, filterStep_mem_of_ge k, filterStep_zero f r, filterStep_floors k f r⟩,
    fun k gain b a e => ⟨estimate_seed k gain b a e, estimate_fx k gain b a e, estimate_fy k gain b a e⟩⟩

end Sys2Proof.Machine

end

section
/-! SUPPORT. Chapter 5, the ceilings: the band the governor's search stops at (R79), and the terms of the SPIN
ceiling with their least (R83, R84). -/

namespace Sys2Proof.Machine

/-! ### The band limit -/

/-- R79: the search from band `b` on passes over bands that admit the load and stops at one that does not. -/
theorem bandLimitFrom_stops (env : Vector Nat 128) (c u : Nat) {n b : Nat} (h : b + n = 32) :
    (∀ j, b ≤ j → j < bandLimitFrom env c u n b → u ≤ look env (c * 32 + j) 0) ∧
      (bandLimitFrom env c u n b < 32 → look env (c * 32 + bandLimitFrom env c u n b) 0 < u) := by
  induction n generalizing b with
  | zero => exact ⟨fun j hb hj => absurd hj (show ¬ j < 32 by omega), fun hlt => absurd hlt (lt_irrefl 32)⟩
  | succ n ih =>
    rw [bandLimitFrom]
    split
    case isTrue hstop => exact ⟨fun j hb hj => absurd hj hb.not_gt, fun _ => hstop⟩
    case isFalse hpass =>
      obtain ⟨hbelow, hat⟩ := ih (b := b + 1) (by omega)
      refine ⟨fun j hb hj => ?_, hat⟩
      rcases hb.eq_or_lt with rfl | hlt
      · exact not_lt.mp hpass
      · exact hbelow j hlt hj

/-- Settles O35: the search over the whole row, and the truncated subtraction read as a maximum with 0. -/
theorem envelopeCeiling_spec : Obligations.EnvelopeCeiling := fun s => by
  obtain ⟨hbelow, hat⟩ := bandLimitFrom_stops s.tables.envelope s.loadClass s.est.u (n := 32) (b := 0) rfl
  refine ⟨bandLimit s.tables.envelope s.loadClass s.est.u, bandLimitFrom_le _ _ _ _ _ rfl,
    fun j => hbelow j j.zero_le, hat, ?_⟩
  unfold State.envelopeNew envelopeCeiling
  omega

/-! ### The least of the terms -/

/-- A running minimum is the least of what it starts from and what it runs over. -/
theorem foldl_min_least (l : List Nat) (a : Nat) :
    l.foldl min a ∈ a :: l ∧ ∀ b ∈ a :: l, l.foldl min a ≤ b :=
  List.min?_eq_some_iff.mp List.min?_cons'

/-- R84: the session states that hold the plateau term. -/
theorem onPlateau_iff {st : SessionState} :
    st.onPlateau = true ↔ st = .climb ∨ st = .dwell ∨ st = .correct ∨ st = .settle := by
  cases st <;> simp [SessionState.onPlateau]

/-- R84: the session's term and the states that add it. -/
theorem sessionTerm_eq_some_iff {s : State} {v : Nat} :
    s.sessionTerm = some v ↔
      (s.session.state.onPlateau = true ∧ ∃ e, s.currentPlateau = some e ∧ v = look s.tables.plateau (e.val * 6) 0) ∨
      (s.session.state = .limited ∧ ∃ e, s.session.failed = some e ∧ v = look s.tables.plateau (e.val * 6) 0) ∨
      (v = 0 ∧ s.session.state = .holdDown) := by
  unfold State.sessionTerm
  cases s.session.state <;>
    simp [SessionState.onPlateau, plateauSpeed, plateauField, eq_comm (a := v)]

/-- R83: the rows of Table 5-2, each with the condition under which it applies. -/
theorem mem_spinTerms_iff {s : State} {v : Nat} :
    v ∈ s.spinTerms ↔
      s.limits.abs = some v ∨ (v = s.spin.blindCeiling ∧ (s.limits.abs = none ∨ s.est.state ≠ .valid)) ∨
      (v = s.gov.eHeld ∧ s.est.state = .valid) ∨ s.sessionTerm = some v ∨ (v = 0 ∧ s.trip.latch = true) := by
  simp [State.spinTerms, and_comm, eq_comm (a := v)]

/-- R83: the SPIN ceiling is at most every term that applies. -/
theorem spinCeiling_le_of_mem {s : State} {v : Nat} (h : v ∈ s.spinTerms) : s.spinCeiling ≤ v :=
  (foldl_min_least s.spinTerms 1500).2 v (.tail _ h)

/-- R83: ABS_LIMIT applies when it is set and BLIND_CEILING when it is not, so a term within 1500 always stands. -/
theorem exists_spinTerm_le {s : State} (hblind : s.spin.blindCeiling ≤ 1500)
    (habs : ∀ a, s.limits.abs = some a → a ≤ 1500) : ∃ v ∈ s.spinTerms, v ≤ 1500 := by
  cases hlimit : s.limits.abs with
  | none => exact ⟨_, mem_spinTerms_iff.mpr (.inr (.inl ⟨rfl, .inl hlimit⟩)), hblind⟩
  | some a => exact ⟨a, mem_spinTerms_iff.mpr (.inl hlimit), habs a hlimit⟩

/-- R83: the SPIN ceiling is one of the terms that apply. -/
theorem spinCeiling_mem {s : State} (hblind : s.spin.blindCeiling ≤ 1500)
    (habs : ∀ a, s.limits.abs = some a → a ≤ 1500) : s.spinCeiling ∈ s.spinTerms := by
  rcases List.mem_cons.mp (foldl_min_least s.spinTerms 1500).1 with hstart | hmem
  · obtain ⟨v, hv, hle⟩ := exists_spinTerm_le hblind habs
    have hceil : s.spinCeiling = 1500 := hstart
    have : s.spinCeiling = v := le_antisymm (spinCeiling_le_of_mem hv) (hceil ▸ hle)
    exact this ▸ hv
  · exact hmem

/-- Settles O36: the composed SPIN ceiling is the least of the terms, read by the rows of Table 5-2. -/
theorem ceilingsLeast : Obligations.CeilingsLeast := fun s hcomposed hblind habs => by
  obtain ⟨hspin, hagitate⟩ : s.gov.spin = s.spinCeiling ∧ s.gov.agitate = s.agitateCeiling := by
    simpa [Safety.ceilingsComposed] using hcomposed
  have hle : ∀ v ∈ s.spinTerms, s.gov.spin ≤ v := fun v hv => hspin ▸ spinCeiling_le_of_mem hv
  have hmem : s.gov.spin ∈ s.spinTerms := hspin ▸ spinCeiling_mem hblind habs
  simp only [mem_spinTerms_iff, sessionTerm_eq_some_iff] at hle hmem
  simp only [or_imp, forall_and] at hle
  obtain ⟨hlimit, hblindTerm, hheld, ⟨hplateau, hlimited, hholdDown⟩, htrip⟩ := hle
  refine ⟨hspin ▸ spinCeiling_le s, hlimit, fun h => hblindTerm _ ⟨rfl, h⟩, fun h => hheld _ ⟨rfl, h⟩,
    fun e hs he => hplateau _ ⟨onPlateau_iff.mpr hs, e, he, rfl⟩, fun e hs he => hlimited _ ⟨hs, e, he, rfl⟩,
    fun h => Nat.le_zero.mp (hholdDown _ ⟨rfl, h⟩), fun h => Nat.le_zero.mp (htrip _ ⟨rfl, h⟩), ?_, hagitate,
    rfl, rfl, rfl, rfl⟩
  simpa only [and_or_left, or_assoc] using hmem

end Sys2Proof.Machine

end

section
/-! SUPPORT. Chapter 6, correction planning: what the search over the chambers keeps, and the chamber and grams that
planning answers (R107, R108). -/

namespace Sys2Proof.Machine

section
variable {s : State} {v : Int × Int} {b c : Fin 4} {l : List (Fin 4)}

/-! ### The best candidate -/

/-- R108: a candidate has a score above 0 and room for one flow pulse. -/
theorem isCandidate_iff : isCandidate s v c = true ↔ 0 < score v c ∧ s.spin.flowGrams ≤ freeSpace s c := by
  simp [isCandidate]

/-- R108, of the chambers in `l`: a candidate that no other candidate outscores, and no lower one equals. -/
def IsBest (s : State) (v : Int × Int) (l : List (Fin 4)) (c : Fin 4) : Prop :=
  c ∈ l ∧ isCandidate s v c = true ∧
    ∀ d ∈ l, isCandidate s v d = true → score v d ≤ score v c ∧ (d < c → score v d < score v c)

/-- What the search holds once it has seen the chambers in `l`. -/
def HoldsBest (s : State) (v : Int × Int) (l : List (Fin 4)) : Option (Fin 4) → Prop
  | none => ∀ d ∈ l, ¬ isCandidate s v d = true
  | some c => IsBest s v l c

/-- Of two best chambers the lower one would have the strictly lower score, so there is only one. -/
theorem IsBest.unique (hb : IsBest s v l b) (hc : IsBest s v l c) : b = c := by
  obtain ⟨hbl, hbcand, hbmax⟩ := hb
  obtain ⟨hcl, hccand, hcmax⟩ := hc
  obtain ⟨hbc, hbc_lt⟩ := hcmax b hbl hbcand
  obtain ⟨hcb, hcb_lt⟩ := hbmax c hcl hccand
  rcases lt_trichotomy b c with hlt | heq | hgt
  · exact absurd (hbc_lt hlt) (not_lt.mpr hcb)
  · exact heq
  · exact absurd (hcb_lt hgt) (not_lt.mpr hbc)

/-- The best stands beside one more chamber, unless that is a candidate of lower number or higher score. -/
theorem IsBest.append (hb : IsBest s v l b) (h : isCandidate s v c = true → b < c ∧ score v c ≤ score v b) :
    IsBest s v (l ++ [c]) b := by
  obtain ⟨hmem, hcand, hmax⟩ := hb
  refine ⟨List.mem_append_left _ hmem, hcand, fun d hd hdc => ?_⟩
  rcases List.mem_append.mp hd with hd | hd
  · exact hmax d hd hdc
  · obtain rfl := List.mem_singleton.mp hd
    obtain ⟨habove, hle⟩ := h hdc
    exact ⟨hle, fun hlow => absurd hlow habove.asymm⟩

/-- A candidate that outscores every candidate before it is the best. -/
theorem isBest_append_self (hc : isCandidate s v c = true)
    (hlt : ∀ d ∈ l, isCandidate s v d = true → score v d < score v c) :
    IsBest s v (l ++ [c]) c := by
  refine ⟨by simp, hc, fun d hd hdc => ?_⟩
  rcases List.mem_append.mp hd with hd | hd
  · exact ⟨(hlt d hd hdc).le, fun _ => hlt d hd hdc⟩
  · obtain rfl := List.mem_singleton.mp hd
    exact ⟨le_rfl, fun hself => absurd hself (lt_irrefl _)⟩

/-! ### The search over the chambers -/

/-- One chamber of the search in `chooseChamber`. -/
def keepBetter (s : State) (v : Int × Int) (best : Option (Fin 4)) (c : Fin 4) : Option (Fin 4) :=
  if isCandidate s v c then
    match best with
    | none => some c
    | some b => if score v b < score v c then some c else some b
  else best

theorem chooseChamber_eq_foldl (s : State) (v : Int × Int) :
    chooseChamber s v = ([0, 1, 2, 3] : List (Fin 4)).foldl (keepBetter s v) none := rfl

theorem keepBetter_of_not_candidate (best : Option (Fin 4)) (hc : ¬ isCandidate s v c = true) :
    keepBetter s v best c = best := if_neg hc

theorem keepBetter_none (hc : isCandidate s v c = true) : keepBetter s v none c = some c := if_pos hc

theorem keepBetter_of_lt (hc : isCandidate s v c = true) (h : score v b < score v c) :
    keepBetter s v (some b) c = some c := by
  simp [keepBetter, hc, h]

theorem keepBetter_of_le (hc : isCandidate s v c = true) (h : score v c ≤ score v b) :
    keepBetter s v (some b) c = some b := by
  simp [keepBetter, hc, not_lt.mpr h]

/-- A chamber above all those seen is taken in: only a strictly higher score replaces the chamber held. -/
theorem HoldsBest.append {best : Option (Fin 4)} (h : HoldsBest s v l best) (habove : ∀ d ∈ l, d < c) :
    HoldsBest s v (l ++ [c]) (keepBetter s v best c) := by
  by_cases hc : isCandidate s v c = true
  · cases best with
    | none =>
      rw [keepBetter_none hc]
      exact isBest_append_self hc fun d hd hdc => absurd hdc (h d hd)
    | some b =>
      have ⟨hmem, _, hmax⟩ := h
      rcases lt_or_ge (score v b) (score v c) with hlt | hle
      · rw [keepBetter_of_lt hc hlt]
        exact isBest_append_self hc fun d hd hdc => (hmax d hd hdc).1.trans_lt hlt
      · rw [keepBetter_of_le hc hle]
        exact IsBest.append h fun _ => ⟨habove b hmem, hle⟩
  · rw [keepBetter_of_not_candidate best hc]
    cases best with
    | none => simpa [HoldsBest, or_imp, forall_and, hc] using h
    | some b => exact IsBest.append h fun hcand => absurd hcand hc

/-- The search over chambers in rising order holds the best of them. -/
theorem holdsBest_foldl (h : l.Pairwise (· < ·)) : HoldsBest s v l (l.foldl (keepBetter s v) none) := by
  induction l using List.reverseRecOn with
  | nil => simp [HoldsBest]
  | append_singleton l c ih =>
    obtain ⟨hl, -, habove⟩ := List.pairwise_append.mp h
    rw [List.foldl_append]
    exact (ih hl).append fun d hd => habove d hd c (List.mem_singleton_self c)

/-- R108: the chosen chamber is the best candidate of the four. -/
theorem chooseChamber_eq_some_iff : chooseChamber s v = some c ↔ IsBest s v [0, 1, 2, 3] c := by
  have hbest : HoldsBest s v [0, 1, 2, 3] (chooseChamber s v) :=
    chooseChamber_eq_foldl s v ▸ holdsBest_foldl (by decide)
  constructor
  · intro hchosen
    rwa [hchosen] at hbest
  · intro hc
    have ⟨hmem, hcand, _⟩ := hc
    cases hchosen : chooseChamber s v with
    | none =>
      rw [hchosen] at hbest
      exact absurd hcand (hbest c hmem)
    | some b =>
      rw [hchosen] at hbest
      exact congrArg some (IsBest.unique hbest hc)

/-- R108: the best of the four, with the condition of a candidate and the two comparisons written out. -/
theorem isBest_chambers_iff :
    IsBest s v [0, 1, 2, 3] c ↔
      isCandidate s v c = true ∧ (∀ d, isCandidate s v d = true → score v d ≤ score v c) ∧
        ∀ d, d < c → isCandidate s v d = true → score v d < score v c := by
  have hall : ∀ d : Fin 4, d ∈ [0, 1, 2, 3] := by decide
  simp only [IsBest, hall, true_and, forall_const, imp_and, forall_and]
  exact and_congr_right fun _ => and_congr_right fun _ => forall_congr' fun _ => forall_comm

end

/-! ### The plan -/

/-- R108: planning answers the chosen chamber and its requested grams, and fails where they are 0. -/
theorem planCorrection_eq_some_iff {s : State} {cap : Nat} {c : Fin 4} {w : Nat} :
    planCorrection s cap = some (c, w) ↔
      chooseChamber s (rotated s) = some c ∧ w = requestedGrams s cap (rotated s) c ∧ 0 < w := by
  unfold planCorrection
  cases chooseChamber s (rotated s) with
  | none => simp
  | some b =>
    dsimp only
    split_ifs with hzero
    · refine iff_of_false (by simp) fun ⟨hchosen, hw, hpos⟩ => ?_
      obtain rfl : b = c := Option.some.inj hchosen
      omega
    · simp only [Option.some.injEq, Prod.mk.injEq]
      refine and_congr_right fun hbc => ?_
      subst hbc
      omega

/-- R108: the scores of the four chambers, as a chain of comparisons. -/
theorem score_eq_ite (v : Int × Int) (c : Fin 4) :
    score v c = if c = 0 then -v.1 else if c = 1 then -v.2 else if c = 2 then v.1 else v.2 := by
  fin_cases c <;> rfl

/-- Settles O39: planning answers the best candidate of the search, with its grams where these are above 0. -/
theorem correctionPlanned : Obligations.CorrectionPlanned := by
  intro s cap c w
  have h := planCorrection_eq_some_iff (s := s) (cap := cap) (c := c) (w := w)
  simp only [chooseChamber_eq_some_iff, isBest_chambers_iff, isCandidate_iff, requestedGrams, score_eq_ite,
    and_assoc] at h ⊢
  exact h

end Sys2Proof.Machine

end

section
/-! SUPPORT. Chapter 10, management requests: how the agent takes the front request and where its response goes (R159,
R160), and the answers to QUERY and to an unknown operation (R161, R168). -/

namespace Sys2Proof.Machine

/-! ### The request taken and its response -/

/-- R16: while Port C transmits, a frame that joins its local queue waits there. -/
theorem PortC.joinLocal_busy {p : PortC} (h : p.sending ≠ none) (now : Time) (f : QFrame) :
    p.joinLocal now f = { p with localQ := p.localQ ++ [f] } := by
  simp [PortC.joinLocal, PortC.kick, Option.isNone_iff_eq_none, h]

/-- R159, R160: while Port C transmits, a response waits at the back of the local queue and moves nothing else. -/
theorem respond_busy {s : State} (h : s.portC.sending ≠ none) (r : Request) (status : Byte) (data : List Word) :
    respond r status data s =
      { s with portC := { s.portC with localQ := s.portC.localQ ++ [responseFrame r status data] } } := by
  rw [respond_portC, PortC.joinLocal_busy h]

/-- R159: with room in the Port C local queue the agent takes the front request of its operation and runs it. -/
theorem execute_front {s : State} {r : Request} {rest : List Request} {isOp : Byte → Bool}
    (run : Request → State → State) (hr : s.requests = r :: rest) (hop : isOp r.op = true)
    (hroom : s.portC.localQ.length < Config.localCapacity) :
    execute isOp run s = run r { s with requests := rest } := by
  simp [execute, hr, hop, hroom]

/-- R159: a command of the agent reaches a part that is not held and has room for the response. -/
theorem happen_execute {s : State} {r : Request} {rest : List Request} {isOp : Byte → Bool} (m : Moment)
    (run : Request → State → State) (hheld : s.held = false) (hr : s.requests = r :: rest) (hop : isOp r.op = true)
    (hroom : s.portC.localQ.length < Config.localCapacity) :
    happen m (execute isOp run) s = .next (run r { tick m s with requests := rest }) := by
  rw [happen_live hheld, execute_front run (by simpa using hr) hop (by simpa using hroom)]

/-- R159, R160: at its moment a request that is only answered leaves the request queue, and its response waits at
Port C. -/
theorem respond_taken_busy {s : State} (h : s.portC.sending ≠ none) (m : Moment) (r : Request) (rest : List Request)
    (status : Byte) (data : List Word) :
    respond r status data { tick m s with requests := rest } =
      { tick m s with
        requests := rest
        portC := { s.portC with localQ := s.portC.localQ ++ [responseFrame r status data] } } := by
  rw [respond_busy (by simpa using h)]
  simp

/-! ### QUERY and the unknown operation -/

/-- R168, Table 10-5: the status of a QUERY and the elements that come with it, leaf by leaf. -/
def queryAnswer (l : Limits) (r : Request) : Byte × List Word :=
  if r.data ≠ [] then (stBadLength, [])
  else match r.index.toNat with
    | 0 => (stOk, [3, 0x5A17])
    | 1 => (stOk, [1, 4, 6, 32, 4, 8, 4, 2, 8, 64])
    | 2 => (stOk, [40, 16, 32, 1, 1000, 1024])
    | 3 => (stOk, [markWord l.abs.isSome, markWord l.mass.isSome, uWord (l.abs.getD 0), uWord (l.mass.getD 0)])
    | _ => (stBadIndex, [])

/-- R168: with no data a leaf up to 3 is answered with its words, any above it with BAD_INDEX. -/
theorem queryAnswer_of_no_data {r : Request} (h : r.data = []) (l : Limits) :
    queryAnswer l r = if 3 < r.index.toNat then (stBadIndex, []) else (stOk, leafWords l r.index.toNat) := by
  rw [queryAnswer, if_neg (not_not.mpr h)]
  match r.index.toNat with
  | 0 | 1 | 2 | 3 => rfl
  | n + 4 => exact (if_pos (by omega)).symm

/-- R168: a QUERY is only answered. -/
theorem runQuery_eq_respond (r : Request) (s : State) :
    runQuery r s = respond r (queryAnswer s.limits r).1 (queryAnswer s.limits r).2 s := by
  unfold runQuery
  by_cases hdata : r.data = []
  · rw [if_neg (not_not.mpr hdata), queryAnswer_of_no_data hdata]
    split_ifs <;> rfl
  · rw [if_pos hdata, queryAnswer, if_pos hdata]

/-- R168: QUERY takes the front request and answers it from the limits. -/
theorem exec_query {s : State} {r : Request} {rest : List Request} (m : Moment) (hheld : s.held = false)
    (hr : s.requests = r :: rest) (hop : r.op = 8) (hroom : s.portC.localQ.length < 4)
    (hbusy : s.portC.sending ≠ none) :
    exec (.query m) s = .next
      { tick m s with
        requests := rest
        portC := { s.portC with
          localQ := s.portC.localQ ++ [responseFrame r (queryAnswer s.limits r).1 (queryAnswer s.limits r).2] } } := by
  have htaken : exec (.query m) s = .next (runQuery r { tick m s with requests := rest }) :=
    happen_execute m runQuery hheld hr (by simp [hop]) hroom
  rw [htaken, runQuery_eq_respond, respond_taken_busy hbusy]
  simp

/-- R161: a request that names no operation is taken and answered UNKNOWN_OP. -/
theorem exec_unknownOp {s : State} {r : Request} {rest : List Request} (m : Moment) (hheld : s.held = false)
    (hr : s.requests = r :: rest) (hop : r.op = 0 ∨ 9 < r.op.toNat) (hroom : s.portC.localQ.length < 4)
    (hbusy : s.portC.sending ≠ none) :
    exec (.unknownOp m) s = .next
      { tick m s with
        requests := rest
        portC := { s.portC with localQ := s.portC.localQ ++ [responseFrame r stUnknownOp []] } } := by
  have htaken : exec (.unknownOp m) s = .next (runUnknown r { tick m s with requests := rest }) :=
    happen_execute m runUnknown hheld hr (by simpa using hop) hroom
  rw [htaken, runUnknown, respond_taken_busy hbusy]

/-- Settles O52: either command takes the front request, and the response it leaves is `queryAnswer`'s or UNKNOWN_OP. -/
theorem queryAndUnknown : Obligations.QueryAndUnknown := by
  refine ⟨fun m s r rest hheld hr hop hroom hbusy => ⟨_, exec_query m hheld hr hop hroom hbusy, ?_⟩,
    fun m s r rest hheld hr hop hroom hbusy => ⟨_, exec_unknownOp m hheld hr hop hroom hbusy, rfl⟩⟩
  rw [responseFrame, responsePayload, hop]
  rfl

end Sys2Proof.Machine

end

section
/-! SUPPORT. What a step can do, said once: the effects that the blocks share (`Effect`), the moves that a command makes of
its own (`Move`), and that every command but the two of RESET_N is a run of them. What no move breaks, no step breaks. -/

namespace Sys2Proof.Machine

open Sys2Proof.Safety

/-! ### The shared effects -/

/-- One effect that several blocks make after the input of a command has been taken. -/
inductive Effect : State → State → Prop
  /-- R148: a live value is written. -/
  | live (s : State) (k : Fin 16) (v : Bool) :
      Effect s { s with events := { s.events with live := setBit s.events.live k v } }
  /-- R149: a kind latches; QUEUE_OVERFLOW is the command's own (`Move.overflow`). -/
  | latch (s : State) (k : Kind) (h : k ≠ .queueOverflow) : Effect s (latchKind k s)
  /-- R155: the revolution number and the report count move. -/
  | tally (s : State) (rev : Word) (n : Nat) :
      Effect s { s with events := { s.events with revNumber := rev, reportCount := n } }
  /-- R155: a report is made. -/
  | report (s : State) (h : s.est.state = .valid) : Effect s (makeReport s)
  /-- R156: the monitor counter counts. -/
  | count (s : State) : Effect s { s with monitor := { s.monitor with count := min 65535 (s.monitor.count + 1) } }
  /-- R89: the ceilings are composed. -/
  | compose (s : State) : Effect s (recompose s)
  /-- R22: the standing demand is restated. -/
  | restate (s : State) : Effect s (queueRestated s)
  /-- R80 to R82: the governor's terms move, the ceilings not yet composed. -/
  | envelope (s : State) (held new rise : Nat) :
      Effect s { s with gov := { s.gov with eHeld := held, eNew := new, rise := rise } }
  /-- R69 to R73: the weighing and the load class move. -/
  | weigh (s : State) (w : Weighing) (c : Nat) : Effect s { s with weigh := w, loadClass := c }
  /-- R96: the session controller's own state moves. -/
  | session (s : State) (x : Session) : Effect s { s with session := x }
  /-- R120: the ring controller's own state moves, but for the contents. -/
  | ring (s : State) (r : Ring) (h : r.contents = s.ring.contents := by rfl) : Effect s { s with ring := r }
  /-- R142: the trip latch sets. -/
  | trip (s : State) (c : Cause) (h : s.trip.latch = false) :
      Effect s { s with trip := s.trip.setBy c (speedAndSource s).1 (speedAndSource s).2 s.est.u }
  /-- R143: a cause joins the set. -/
  | cause (s : State) (c : Cause) : Effect s (addCause c s)
  /-- R63: the estimator enters INVALID. -/
  | lost (s : State) : Effect s { s with est := s.est.lost }
  /-- R64: the estimator leaves INVALID. -/
  | primed (s : State) (h : s.est.state = .invalid) (hangle : s.angleValid = true) (hmay : s.mayPrime = true) :
      Effect s { s with est := { s.est with state := .priming, priming := 0, acc := some Accumulation.empty } }
  /-- R57: a thin revolution. -/
  | thinned (s : State) (h : s.est.state ≠ .invalid) : Effect s { s with est := s.est.thinClose }
  /-- R57 to R61: a counted revolution. -/
  | estimated (s : State) (a : Accumulation) (h : s.est.state ≠ .invalid) (ha : s.est.acc = some a) (hn : 16 ≤ a.n) :
      Effect s { s with est := s.est.countedClose s a }

/-- A run of shared effects. -/
abbrev Effects : State → State → Prop := Relation.ReflTransGen Effect

namespace Effects

theorem single {s t : State} (h : Effect s t) : Effects s t := Relation.ReflTransGen.single h

theorem trans {s t u : State} (h : Effects s t) (h' : Effects t u) : Effects s u := Relation.ReflTransGen.trans h h'

/-- What every effect keeps a run of them keeps. -/
theorem keeps {P : State → Prop} (hP : ∀ s t, Effect s t → P s → P t) {s t : State} (h : Effects s t) (hs : P s) :
    P t := by
  induction h with
  | refl => exact hs
  | tail _ hlast ih => exact hP _ _ hlast ih

/-- Log 5: effects of one moment in whatever order are a run, if each is one wherever the others lead. -/
theorem inOrder {s t : State} {code : List Nat} {fs : List (State → State)} (h0 : Effects s t)
    (h : ∀ f ∈ fs, ∀ u, Effects s u → Effects u (f u)) : Effects s (inOrder code fs t) :=
  inOrder_keeps (Effects s) h0 fun f hf u hu => hu.trans (h f hf u hu)

end Effects

/-! ### What no shared effect moves -/

/-- The tracker, the drive record, the silences, the switches, the tables and the settings, among others, stand as they
stood. -/
structure SameInputs (s t : State) : Prop where
  now : t.now = s.now
  held : t.held = s.held
  framerC : t.framerC = s.framerC
  framerD : t.framerD = s.framerD
  framerS : t.framerS = s.framerS
  rxC : t.rxC = s.rxC
  rxD : t.rxD = s.rxD
  classTable : t.classTable = s.classTable
  requested : t.requested = s.requested
  drive : t.drive = s.drive
  silence : t.silence = s.silence
  intake : t.intake = s.intake
  lid : t.lid = s.lid
  strike : t.strike = s.strike
  tracker : t.tracker = s.tracker
  tables : t.tables = s.tables
  spin : t.spin = s.spin
  service : t.service = s.service
  limits : t.limits = s.limits
  requests : t.requests = s.requests
  pending : t.pending = s.pending

theorem SameInputs.refl (s : State) : SameInputs s s := by constructor <;> rfl

theorem SameInputs.trans {s t u : State} (h : SameInputs s t) (h' : SameInputs t u) : SameInputs s u where
  now := h'.now.trans h.now
  held := h'.held.trans h.held
  framerC := h'.framerC.trans h.framerC
  framerD := h'.framerD.trans h.framerD
  framerS := h'.framerS.trans h.framerS
  rxC := h'.rxC.trans h.rxC
  rxD := h'.rxD.trans h.rxD
  classTable := h'.classTable.trans h.classTable
  requested := h'.requested.trans h.requested
  drive := h'.drive.trans h.drive
  silence := h'.silence.trans h.silence
  intake := h'.intake.trans h.intake
  lid := h'.lid.trans h.lid
  strike := h'.strike.trans h.strike
  tracker := h'.tracker.trans h.tracker
  tables := h'.tables.trans h.tables
  spin := h'.spin.trans h.spin
  service := h'.service.trans h.service
  limits := h'.limits.trans h.limits
  requests := h'.requests.trans h.requests
  pending := h'.pending.trans h.pending

theorem Effect.sameInputs {s t : State} (h : Effect s t) : SameInputs s t := by
  cases h <;> constructor <;> simp [makeReport, addCause]

theorem Effects.sameInputs {s t : State} (h : Effects s t) : SameInputs s t :=
  h.keeps (P := SameInputs s) (fun _ _ huv hu => hu.trans huv.sameInputs) (.refl s)

/-! ### The shared operations are runs of effects -/

theorem offerLive_effects {k : Kind} (hk : k ≠ .queueOverflow) (v : Bool) (s : State) : Effects s (offerLive k v s) := by
  rcases offerLive_cases k v s with ⟨-, h⟩ | ⟨-, h⟩
  · rw [h]
  · rw [h]
    refine (Effects.single (.live s k.number v)).trans ?_
    split
    · exact .single (.latch _ _ hk)
    · exact .refl

theorem judgeLive_effects (k : Kind) (s : State) (hk : k ≠ .queueOverflow := by decide) : Effects s (judgeLive k s) :=
  offerLive_effects hk _ _

theorem latchKind_effects (k : Kind) (s : State) (hk : k ≠ .queueOverflow := by decide) : Effects s (latchKind k s) :=
  .single (.latch _ _ hk)

theorem recompose_effects (s : State) : Effects s (recompose s) := .single (.compose s)

theorem countSource_effects (src : Source) (s : State) : Effects s (countSource src s) := by
  unfold countSource; split
  · exact (Effects.single (.count s)).trans (judgeLive_effects _ _)
  · exact .refl

theorem onlyIf_effects {f : State → State} (b : Bool) {s : State} (h : Effects s (f s)) : Effects s (onlyIf b f s) := by
  unfold onlyIf; split
  · exact h
  · exact .refl

theorem judgeValve_effects (s : State) : Effects s (judgeValve s) := .single (.ring _ _)

/-! #### The governor and the weighing -/

theorem envelopeRevised_effects (s : State) : Effects s (envelopeRevised s) := by
  unfold envelopeRevised; split
  · exact (Effects.single (.envelope s _ _ _)).trans (recompose_effects _)
  · exact .refl

theorem takeEnvelope_effects (entered : Bool) (s : State) : Effects s (takeEnvelope entered s) := by
  unfold takeEnvelope Governor.revolve Governor.enterValid
  (repeat' split) <;> exact .single (.envelope s _ _ _)

theorem governorClose_effects (entered : Bool) (s : State) : Effects s (governorClose entered s) :=
  (takeEnvelope_effects entered s).trans (recompose_effects _)

theorem setLoadClass_effects (c : Nat) (s : State) : Effects s (setLoadClass c s) := by
  unfold setLoadClass; split
  · exact .refl
  · exact (Effects.single (.weigh s s.weigh c)).trans (envelopeRevised_effects _)

theorem armWeighing_effects (s : State) : Effects s (armWeighing s) :=
  (Effects.single (.weigh s _ s.loadClass)).trans (setLoadClass_effects _ _)

theorem failWeighing_effects (s : State) : Effects s (failWeighing s) :=
  (Effects.single (.weigh s _ s.loadClass)).trans (setLoadClass_effects _ _)

theorem endWeighing_effects (s : State) : Effects s (endWeighing s) := by
  unfold endWeighing; split
  · split
    · exact failWeighing_effects s
    · exact (Effects.single (.weigh s _ s.loadClass)).trans (setLoadClass_effects _ _)
  · exact .refl

theorem abandonWeighing_effects (s : State) : Effects s (abandonWeighing s) := by
  unfold abandonWeighing; split
  · exact failWeighing_effects s
  · exact .refl

theorem examineStatus_effects (s : State) : Effects s (examineStatus s) := by
  unfold examineStatus; split
  · split
    · exact endWeighing_effects s
    · split
      · exact .single (.weigh s _ s.loadClass)
      · exact .refl
  · exact .refl

/-! #### The ring -/

theorem ringEnd_effects (o : InjOutcome) (s : State) : Effects s (ringEnd o s) := .single (.ring _ _)

theorem ringAbort_effects (s : State) : Effects s (ringAbort s) := by
  unfold ringAbort; split
  · exact ringEnd_effects _ _
  · exact .refl

theorem startInjection_effects (c : Fin 4) (w : Nat) (s : State) : Effects s (startInjection c w s) :=
  (Effects.single (.ring s _)).trans (judgeValve_effects _)

theorem updateLead_effects (s : State) : Effects s (updateLead s) := by
  unfold updateLead; split
  · exact (Effects.single (.ring s _)).trans (judgeValve_effects _)
  · exact .refl

theorem strayPulse_effects (s : State) : Effects s (strayPulse s) := by
  unfold strayPulse; split
  · exact (Effects.single (.ring s _)).trans (latchKind_effects _ _)
  · exact .single (.ring s _)

theorem judgeBleed_effects (s : State) : Effects s (judgeBleed s) := .single (.ring _ _)

/-! #### The session -/

theorem withSession_effects (st : SessionState) (s : State) : Effects s (withSession st s) := .single (.session _ _)

/-- R116: the session's live conditions are offered, and nothing else. -/
theorem sessionEvents_effects {f : State → State} (hf : f ∈ sessionEvents) (u : State) : Effects u (f u) := by
  simp only [sessionEvents, List.mem_cons, List.not_mem_nil, or_false] at hf
  rcases hf with rfl | rfl <;> exact judgeLive_effects _ _

theorem setSession_effects (ch : Choice) (st : SessionState) (s : State) : Effects s (setSession ch st s) := by
  refine Effects.inOrder (withSession_effects st s) fun f hf u _ => ?_
  rcases List.mem_append.mp hf with hf | hf
  · exact sessionEvents_effects hf u
  · rw [List.mem_singleton.mp hf]; exact recompose_effects u

/-- R96: own fields of the session take values, and then it enters a state. -/
theorem setSession_from_effects (ch : Choice) (st : SessionState) (s : State) (x : Session) :
    Effects s (setSession ch st { s with session := x }) :=
  (Effects.single (.session s x)).trans (setSession_effects _ _ _)

theorem enterIdle_effects (ch : Choice) (s : State) : Effects s (enterIdle ch s) := setSession_from_effects _ _ _ _

theorem retainCheck_effects (ch : Choice) (s : State) : Effects s (retainCheck ch s) := by
  unfold retainCheck; split
  · split
    · exact (Effects.single (.session s _)).trans (enterIdle_effects _ _)
    · exact enterIdle_effects _ _
    · exact .refl
  · exact .refl

theorem enterDwell_effects (ch : Choice) (s : State) : Effects s (enterDwell ch s) :=
  (setSession_from_effects ch .dwell s _).trans (endWeighing_effects _)

theorem climbCheck_effects (ch : Choice) (s : State) : Effects s (climbCheck ch s) := by
  unfold climbCheck; repeat' split
  all_goals first | exact enterDwell_effects _ _ | exact .refl

theorem enterClimb_effects (ch : Choice) (s : State) : Effects s (enterClimb ch s) := by
  refine Effects.inOrder (withSession_effects _ s) fun f hf u _ => ?_
  rcases List.mem_append.mp hf with hf | hf
  · exact sessionEvents_effects hf u
  · simp only [List.mem_cons, List.not_mem_nil, or_false] at hf
    rcases hf with rfl | rfl
    · exact recompose_effects u
    · exact climbCheck_effects _ u

theorem enterOpen_effects (ch : Choice) (s : State) : Effects s (enterOpen ch s) := setSession_from_effects _ _ _ _

theorem enterClimbOrOpen_effects (ch : Choice) (s : State) : Effects s (enterClimbOrOpen ch s) := by
  unfold enterClimbOrOpen; split
  · exact enterClimb_effects _ _
  · exact enterOpen_effects _ _

theorem settleCheck_effects (ch : Choice) (s : State) : Effects s (settleCheck ch s) := by
  unfold settleCheck; repeat' split
  all_goals first | exact enterDwell_effects _ _ | exact .refl

theorem enterSettle_effects (ch : Choice) (fault : Bool) (s : State) : Effects s (enterSettle ch fault s) :=
  ((setSession_from_effects ch .settle s _).trans (onlyIf_effects _ (latchKind_effects _ _))).trans
    (settleCheck_effects _ _)

theorem recordOutcome_effects (o : InjOutcome) (g : Nat) (s : State) : Effects s (recordOutcome o g s) :=
  .single (.session _ _)

theorem injectionEnded_effects (ch : Choice) (fault : Bool) (o : InjOutcome) (g : Nat) (s : State) :
    Effects s (injectionEnded ch fault o g s) := by
  unfold injectionEnded; split
  · exact (recordOutcome_effects _ _ s).trans (enterSettle_effects _ _ _)
  · exact onlyIf_effects _ (latchKind_effects _ _)

theorem endInjection_effects (ch : Choice) (fault : Bool) (o : InjOutcome) (s : State) :
    Effects s (endInjection ch fault o s) :=
  (ringEnd_effects _ s).trans (injectionEnded_effects _ _ _ _ _)

theorem abortCorrection_effects (s : State) : Effects s (abortCorrection s) := by
  unfold abortCorrection; split
  · exact (ringAbort_effects s).trans (recordOutcome_effects _ _ _)
  · exact .refl

theorem requestInjection_effects (ch : Choice) (c : Fin 4) (w : Nat) (s : State) :
    Effects s (requestInjection ch c w s) := by
  unfold requestInjection; split
  · exact injectionEnded_effects _ _ _ _ _
  · exact startInjection_effects _ _ _

theorem enterCorrect_effects (ch : Choice) (e : Fin 6) (c : Fin 4) (w : Nat) (s : State) :
    Effects s (enterCorrect ch e c w s) :=
  ((setSession_effects ch .correct s).trans (.single (.session _ _))).trans (requestInjection_effects _ _ _ _)

theorem plateauFails_effects (ch : Choice) (e : Fin 6) (s : State) : Effects s (plateauFails ch e s) := by
  unfold plateauFails; dsimp only; split
  · exact (setSession_from_effects ch .holdDown s _).trans (retainCheck_effects _ _)
  · exact setSession_from_effects _ _ _ _

theorem plateauPasses_effects (ch : Choice) (e : Fin 6) (s : State) : Effects s (plateauPasses ch e s) :=
  ((Effects.single (.session s _)).trans (latchKind_effects _ _)).trans (enterClimbOrOpen_effects _ _)

theorem dwellEnd_effects (ch : Choice) (e : Fin 6) (s : State) : Effects s (dwellEnd ch e s) := by
  have hrecord : Effects s (recordDwellU e s) := .single (.session s _)
  refine hrecord.trans ?_
  unfold dwellEnd; dsimp only; split
  · exact plateauPasses_effects _ _ _
  · split
    · exact enterCorrect_effects _ _ _ _ _
    · exact plateauFails_effects _ _ _

theorem sessionClose_effects (ch : Choice) (s : State) : Effects s (sessionClose ch s) := by
  unfold sessionClose; split
  · refine (Effects.single (.session s { s.session with dwell := s.session.dwell + 1 })).trans ?_
    dsimp only; repeat' split
    all_goals first | exact dwellEnd_effects _ _ _ | exact .refl
  · exact (Effects.single (.session s _)).trans (settleCheck_effects _ _)
  · exact .refl

/-! #### The trip unit -/

theorem enterTripped_effects (ch : Choice) (s : State) : Effects s (enterTripped ch s) := by
  refine Effects.trans (Effects.inOrder ?_ fun f hf u _ => sessionEvents_effects hf u) (abandonWeighing_effects _)
  exact (abortCorrection_effects s).trans (withSession_effects _ _)

theorem setTrip_effects (ch : Choice) (c : Cause) {s : State} (h : s.trip.latch = false) :
    Effects s (setTrip ch c s) := by
  have hblocks : Effects s (inOrder ch.trip (tripBlocks ch)
      { s with trip := s.trip.setBy c (speedAndSource s).1 (speedAndSource s).2 s.est.u }) := by
    refine Effects.inOrder (.single (.trip s c h)) fun f hf u _ => ?_
    simp only [tripBlocks, List.mem_cons, List.not_mem_nil, or_false] at hf
    rcases hf with rfl | rfl | rfl | rfl
    · exact ringAbort_effects u
    · exact (Effects.single (.restate u)).trans (recompose_effects _)
    · exact enterTripped_effects ch u
    · exact judgeLive_effects _ u
  unfold setTrip; dsimp only; split
  · exact hblocks.trans (.single (.cause _ _))
  · exact hblocks

theorem judgeCause_effects (ch : Choice) (c : Cause) (s : State) : Effects s (judgeCause ch c s) := by
  unfold judgeCause; split
  · split
    · exact .single (.cause _ _)
    · exact setTrip_effects ch c (by simpa using ‹¬s.trip.latch = true›)
  · exact .refl

theorem judgeCauses_effects (ch : Choice) (cs : List Cause) (s : State) : Effects s (judgeCauses ch cs s) := by
  unfold judgeCauses
  generalize preferred ch.cause cs = l
  induction l generalizing s with
  | nil => exact .refl
  | cons c l ih => exact (judgeCause_effects ch c s).trans (ih _)

/-- R11: the readers of the drive status record make shared effects alone. -/
theorem recordReaders_effects (ch : Choice) {f : State → State} (hf : f ∈ recordReaders ch) (u : State) :
    Effects u (f u) := by
  simp only [recordReaders, List.mem_cons, List.not_mem_nil, or_false] at hf
  rcases hf with rfl | rfl | rfl | rfl | rfl
  · exact judgeLive_effects _ u
  · exact judgeLive_effects _ u
  · exact retainCheck_effects _ u
  · exact judgeBleed_effects u
  · exact judgeCauses_effects _ _ u

theorem speedChanged_effects (ch : Choice) (s : State) : Effects s (speedChanged ch s) := by
  refine Effects.inOrder .refl fun f hf u _ => ?_
  simp only [List.mem_cons, List.not_mem_nil, or_false] at hf
  rcases hf with rfl | rfl | rfl
  · exact (climbCheck_effects _ u).trans (retainCheck_effects _ _)
  · exact judgeBleed_effects u
  · exact judgeCauses_effects _ _ u

/-! #### The requests -/

theorem enterRundown_effects (ch : Choice) (s : State) : Effects s (enterRundown ch s) :=
  (((abortCorrection_effects s).trans (setSession_effects _ _ _)).trans (abandonWeighing_effects _)).trans
    (retainCheck_effects _ _)

theorem leaveIdle_effects (ch : Choice) (st : SessionState) (s : State) : Effects s (leaveIdle ch st s) := by
  refine Effects.inOrder (withSession_effects _ s) fun f hf u _ => ?_
  rcases List.mem_append.mp hf with hf | hf
  · exact sessionEvents_effects hf u
  · simp only [List.mem_cons, List.not_mem_nil, or_false] at hf
    rcases hf with rfl | rfl | rfl
    · exact recompose_effects u
    · exact judgeCause_effects _ _ u
    · exact climbCheck_effects _ u

theorem startEntry_effects (ch : Choice) (s : State) : Effects s (startEntry ch s) := by
  unfold startEntry; split
  · exact leaveIdle_effects _ _ _
  · exact (Effects.single (.session s _)).trans (leaveIdle_effects _ _ _)

theorem startSession_effects (ch : Choice) (s : State) : Effects s (startSession ch s) := by
  have hfields : Effects s
      { s with
        session := { s.session with progress := Vector.replicate 6 Progress.reset, corrections := [] }
        ring := { s.ring with available := true } } :=
    (Effects.single (.ring s { s.ring with available := true })).tail (.session _ _)
  exact (hfields.trans (armWeighing_effects _)).trans (startEntry_effects _ _)

theorem spinRequest_effects (ch : Choice) (s : State) : Effects s (spinRequest ch s) := by
  unfold spinRequest; repeat' split
  all_goals first
    | exact .refl
    | exact startSession_effects _ _
    | exact enterOpen_effects _ _
    | exact (abortCorrection_effects s).trans (enterOpen_effects _ _)
    | exact enterClimb_effects _ _
    | exact enterClimbOrOpen_effects _ _

theorem endingRequest_effects (ch : Choice) (s : State) : Effects s (endingRequest ch s) := by
  unfold endingRequest; split
  all_goals first | exact .refl | exact enterRundown_effects _ _

/-! #### The estimator and the angle -/

theorem clearCounts_effects (s : State) : Effects s (clearCounts s) := .single (.session _ _)

theorem beginCounting_effects (s : State) : Effects s (beginCounting s) := .single (.session _ _)

theorem estimatorInvalid_effects (ch : Choice) (s : State) : Effects s (estimatorInvalid ch s) := by
  unfold estimatorInvalid; split
  · exact .refl
  · exact .single (.lost s)
  · refine Effects.inOrder (.single (.lost s)) fun f hf u _ => ?_
    simp only [List.mem_cons, List.not_mem_nil, or_false] at hf
    rcases hf with rfl | rfl | rfl
    · exact judgeLive_effects _ u
    · exact (Effects.single (.envelope u u.gov.eHeld u.gov.eNew 0)).trans (recompose_effects _)
    · exact clearCounts_effects u

theorem estimatorBegin_effects {s : State} (hangle : s.angleValid = true) : Effects s (estimatorBegin s) := by
  unfold estimatorBegin; split
  · obtain ⟨hinv, hmay⟩ := ‹s.est.state = .invalid ∧ s.mayPrime = true›
    exact .single (.primed s hinv hangle hmay)
  · exact .refl

theorem reportClose_effects {s : State} (h : s.est.state = .valid) : Effects s (reportClose s) := by
  unfold reportClose; dsimp only; repeat' split
  · exact .single (.tally s _ _)
  · exact (Effects.single (.tally s (s.events.revNumber + 1) s.events.reportCount)).tail (.report _ h)
  · exact .single (.tally s _ _)

theorem closeEffects_effects {ch : Choice} {entered : Bool} {f : State → State} (hf : f ∈ closeEffects ch entered)
    {u : State} (h : u.est.state = .valid) : Effects u (f u) := by
  rcases mem_closeEffects hf with rfl | rfl | rfl | rfl | rfl | rfl
  · exact judgeLive_effects _ u
  · exact recompose_effects u
  · exact governorClose_effects _ u
  · exact sessionClose_effects _ u
  · exact judgeCauses_effects _ _ u
  · exact reportClose_effects h

/-- R67: no neighbour that acts on a revolution moves the estimator. -/
theorem closeEffects_est {ch : Choice} {entered : Bool} {f : State → State} (hf : f ∈ closeEffects ch entered)
    (u : State) : (f u).est = u.est := by
  rcases mem_closeEffects hf with rfl | rfl | rfl | rfl | rfl | rfl <;> simp

theorem neighboursAct_effects (ch : Choice) (entered : Bool) {s : State} (h : s.est.state = .valid) :
    Effects s (neighboursAct ch entered s) := by
  have hkeeps : Effects s (neighboursAct ch entered s) ∧ (neighboursAct ch entered s).est = s.est := by
    refine inTurn_keeps (fun u => Effects s u ∧ u.est = s.est)
      ⟨onlyIf_effects _ (takeEnvelope_effects _ s), by unfold onlyIf; split <;> simp⟩ ?_
    rintro f hf u ⟨heff, hest⟩
    exact ⟨heff.trans (closeEffects_effects hf (hest ▸ h)), (closeEffects_est hf u).trans hest⟩
  exact hkeeps.1

theorem revolutionClose_effects (ch : Choice) {s : State} (hangle : s.angleValid = true) :
    Effects s (revolutionClose ch s) := by
  unfold revolutionClose; split
  · exact estimatorBegin_effects hangle
  · exact .refl
  · rename_i a ha hne
    split
    · exact .single (.thinned s hne)
    · have hcounted : Effects s { s with est := s.est.countedClose s a } :=
        .single (.estimated s a hne ha (by omega))
      dsimp only; split
      · exact hcounted.trans (neighboursAct_effects _ _ ‹_›)
      · exact hcounted

theorem abortForAngle_effects (ch : Choice) (s : State) : Effects s (abortForAngle ch s) := by
  unfold abortForAngle; split
  · exact endInjection_effects _ _ _ _
  · exact .refl

theorem angleLost_effects (ch : Choice) (s : State) : Effects s (angleLost ch s) := by
  refine Effects.inOrder .refl fun f hf u _ => ?_
  simp only [List.mem_cons, List.not_mem_nil, or_false] at hf
  rcases hf with rfl | rfl | rfl | rfl
  · exact estimatorInvalid_effects _ u
  · exact abortForAngle_effects _ u
  · exact speedChanged_effects _ u
  · exact judgeLive_effects _ u

/-- R39: the angle stays as valid as it was through shared effects. -/
theorem Effects.angleValid_kept {s t : State} (h : Effects s t) : t.angleValid = s.angleValid := by
  simp [State.angleValid, h.sameInputs.tracker]

theorem angleGained_effects (ch : Choice) {s : State} (hangle : s.angleValid = true) :
    Effects s (angleGained ch s) := by
  refine Effects.trans (Effects.inOrder .refl fun f hf u hu => ?_) (beginCounting_effects _)
  simp only [List.mem_cons, List.not_mem_nil, or_false] at hf
  rcases hf with rfl | rfl | rfl
  · exact estimatorBegin_effects (hu.angleValid_kept.trans hangle)
  · exact speedChanged_effects _ u
  · exact judgeLive_effects _ u

theorem angleClosed_effects (ch : Choice) {s : State} (hangle : s.angleValid = true) :
    Effects s (angleClosed ch s) := by
  have hbefore : Effects s (speedChanged ch (updateLead s)) :=
    (updateLead_effects s).trans (speedChanged_effects _ _)
  exact (hbefore.trans (revolutionClose_effects ch (hbefore.angleValid_kept.trans hangle))).trans
    (beginCounting_effects _)

/-- R45, R47: what a pulse hands on supposes a valid angle where a revolution begins with it. -/
theorem handPulse_effects (ch : Choice) {o : PulseOutcome} {s : State}
    (hangle : o = .closed ∨ o = .gained → s.angleValid = true) : Effects s (handPulse ch o s) := by
  cases o with
  | glitch => exact countSource_effects _ _
  | quiet => exact .refl
  | closed => exact angleClosed_effects ch (hangle (.inl rfl))
  | gained => exact angleGained_effects ch (hangle (.inr rfl))
  | lost => exact angleLost_effects ch s

end Sys2Proof.Machine
end

section
/-! SUPPORT. The moves that a command makes of its own, and that every command is a run of them. -/

namespace Sys2Proof.Machine

open Sys2Proof.Safety

/-! ### The moves -/

/-- One move of the command `c`: a shared effect, an input taken, a queue served, a write stored, or a reset. -/
inductive Move (c : Instr) : State → State → Prop
  | effect {s t : State} (h : Effect s t) : Move c s t
  /-- R1: time passes. -/
  | time (s : State) (now : Time) : Move c s { s with now := now }
  /-- R4: a framer takes a byte. -/
  | framer (s : State) (link : Link) (f : Framer) (h : framerSound (s.framer link) = true → framerSound f = true) :
      Move c s (s.withFramer link f)
  /-- R7: a sequence check moves. -/
  | rx (s : State) (atC atD : RxCheck) : Move c s { s with rxC := atC, rxD := atD }
  /-- R13, R14: QUEUE_OVERFLOW occurs. -/
  | overflow (s : State) : Move c s (latchKind .queueOverflow s)
  /-- R23, R24: the silence timers and their conditions move. -/
  | silence (s : State) (x : Silence)
      (h : orphanWhileSilent s = true → orphanWhileSilent { s with silence := x } = true) : Move c s { s with silence := x }
  /-- R11: the drive status record takes a status. -/
  | drive (s : State) (d : DriveRecord) (h : within (-1500) 1500 d.speed = true) : Move c s { s with drive := d }
  /-- R10: the requested demand record takes a demand. -/
  | requested (s : State) (r : Requested) (h : within (-1500) 1500 r.target = true) : Move c s { s with requested := r }
  /-- R28 to R30: the sensor intake moves. -/
  | intake (s : State) (x : Intake)
      (h : x.last = s.intake.last ∨ ∃ payload, x.last = sampleRecord s.now s.spin.sensorLatency payload)
      (hloss : x.loss = true → s.intake.loss = true ∨ ∃ m, c = .sensorLoss m) :
      Move c s { s with intake := x }
  /-- R55: a sample is accumulated. -/
  | accumulated (s : State) (theta : Nat) :
      Move c s { s with est := s.est.accumulate s.intake.last.ax s.intake.last.ay theta }
  /-- R33: a debounce context moves. -/
  | switch (s : State) (sw : Switch) (d : Debounce) : Move c s (s.withSwitch sw d)
  /-- R39: the tracker moves. -/
  | tracker (s : State) (x : Tracker) (h : trackerSound s.tracker = true → trackerSound x = true)
      (hc : (∃ m, c = .indexPulse m) ∨ ∃ m, c = .indexLost m) :
      Move c s { s with tracker := x }
  /-- R127, R135: chamber contents move. -/
  | contents (s : State) (r : Ring) (h : contentsInRange s = true → contentsInRange { s with ring := r } = true) :
      Move c s { s with ring := r }
  /-- R156, R157: the monitor counter moves. -/
  | monitor (s : State) (m : Monitor) (h : monitorSound s = true → monitorSound { s with monitor := m } = true) :
      Move c s { s with monitor := m }
  /-- R151 to R153: the words of the event unit are written. -/
  | events (s : State) (e : Events) (h : attnFollows s = true → attnFollows { s with events := e } = true) :
      Move c s { s with events := e }
  /-- R159: the request queue moves. -/
  | requests (s : State) (q : List Request) (h : s.requests.length ≤ 2 → q.length ≤ 2) :
      Move c s { s with requests := q }
  /-- R159: a response joins the Port C local queue. -/
  | response (s : State) (r : Request) (status : Byte) (data : List Word)
      (h : s.portC.localQ.length < Config.localCapacity) : Move c s (respond r status data s)
  /-- R16: Port C ends a transmission. -/
  | freedC (s : State) : Move c s { s with portC := ({ s.portC with sending := none }).kick s.now }
  /-- R14: a DRIVE STATUS replaces the one that waits. -/
  | replacedC (s : State) (f : QFrame) :
      Move c s { s with portC :=
        { s.portC with forwardedQ := replaceFirst (fun g => g.cls == driveStatusClass) f s.portC.forwardedQ } }
  /-- R14: a frame joins the Port C forwarded queue. -/
  | joinedC (s : State) (f : QFrame) (hroom : s.portC.forwardedQ.length < Config.forwardedCapacity)
      (hone : f.cls = driveStatusClass → ∀ g ∈ s.portC.forwardedQ, g.cls ≠ driveStatusClass) :
      Move c s { s with portC := ({ s.portC with forwardedQ := s.portC.forwardedQ ++ [f] }).kick s.now }
  /-- Log 33: an idle Port D is held for a frame's stages. -/
  | occupiedD (s : State) (h : s.portD.sending = none) :
      Move c s { s with portD := { s.portD with sending := some { bytes := [], start := s.now } } }
  /-- R16: Port D is free and looks at its queues. -/
  | freedD (s : State) : Move c s (kickD (freeD s))
  /-- R14: a frame other than a SPEED DEMAND joins the Port D forwarded queue. -/
  | joinedD (s : State) (f : QFrame) (hroom : s.portD.forwardedQ.length < Config.forwardedCapacity)
      (hcls : f.cls ≠ speedDemandClass) (hplain : f.restated = false) :
      Move c s (kickD { s with portD := { s.portD with forwardedQ := s.portD.forwardedQ ++ [f] } })
  /-- R13: a SPEED DEMAND replaces the one that waits. -/
  | demandReplaced (s : State) (f : QFrame) (hcls : f.cls = speedDemandClass) (hplain : f.restated = false)
      (hone : s.portD.forwardedQ.any (fun g => g.cls == speedDemandClass) = true) :
      Move c s { s with portD :=
        { s.portD with
          forwardedQ := replaceFirst (fun g => g.cls == speedDemandClass) f s.portD.forwardedQ
          localQ := s.portD.localQ.filter fun g => !g.restated } }
  /-- R13: a SPEED DEMAND joins the Port D forwarded queue. -/
  | demandJoined (s : State) (f : QFrame) (hcls : f.cls = speedDemandClass) (hplain : f.restated = false)
      (hone : ∀ g ∈ s.portD.forwardedQ, g.cls ≠ speedDemandClass)
      (hroom : s.portD.forwardedQ.length < Config.forwardedCapacity) :
      Move c s (kickD { s with portD :=
        { s.portD with
          forwardedQ := s.portD.forwardedQ ++ [f]
          localQ := s.portD.localQ.filter fun g => !g.restated } })
  /-- R24: the orphan stop is queued. -/
  | orphaned (s : State) : Move c s (queueOrphan s)
  /-- R164: an accepted WRITE is stored. -/
  | stored (s : State) (m : Moment) (r : Request) (hc : c = .write m) (h : writeFailure r s = none) :
      Move c s (storeWrite r.object r.index.toNat r.words s)
  /-- R145: the trip latch is cleared. -/
  | cleared (s : State) (m : Moment) (hc : c = .clearTrip m) : Move c s { s with trip := s.trip.cleared }
  /-- R169: a SOFT RESET, but for the trip unit's part and the response. -/
  | soft (s : State) (m : Moment) (hc : c = .softReset m) :
      Move c s (resumeTrip (takeLive (judgeBleed (composeSilently (softValues s)))))
  /-- R138: power-on reset, but for the trip unit's part. -/
  | power (s : State) (hc : c = .powerOnReset) : Move c s (powerOnValues s)
  /-- Log 14: RESET_N goes low. -/
  | hold (s : State) (hc : c = .resetNLow) : Move c s (hold s)

/-- A run of moves of one command. -/
abbrev Moves (c : Instr) : State → State → Prop := Relation.ReflTransGen (Move c)

namespace Moves

variable {c : Instr}

theorem single {s t : State} (h : Move c s t) : Moves c s t := Relation.ReflTransGen.single h

theorem trans {s t u : State} (h : Moves c s t) (h' : Moves c t u) : Moves c s u := Relation.ReflTransGen.trans h h'

/-- What every move keeps a command keeps. -/
theorem keeps {P : State → Prop} (hP : ∀ s t, Move c s t → P s → P t) {s t : State} (h : Moves c s t) (hs : P s) :
    P t := by
  induction h with
  | refl => exact hs
  | tail _ hlast ih => exact hP _ _ hlast ih

theorem ofEffects {s t : State} (h : Effects s t) : Moves c s t :=
  h.keeps (P := Moves c s) (fun _ _ hm hs => Relation.ReflTransGen.tail hs (.effect hm)) .refl

theorem then_effects {s t u : State} (h : Moves c s t) (h' : Effects t u) : Moves c s u := h.trans (ofEffects h')

/-- Log 5: effects of one moment in whatever order. -/
theorem inOrder {s t : State} {code : List Nat} {fs : List (State → State)} (h0 : Moves c s t)
    (h : ∀ f ∈ fs, ∀ u, Moves c u (f u)) : Moves c s (inOrder code fs t) :=
  inOrder_keeps (Moves c s) h0 fun f hf u hu => hu.trans (h f hf u)

end Moves

/-- R5, Table 1-13: no frame carries more than 24 payload bytes. -/
theorem lengthAllowed_le {cls : Class} {n : Nat} (h : lengthAllowed cls n = true) : n ≤ 24 := by
  unfold lengthAllowed at h
  split_ifs at h <;> simp only [beq_iff_eq, Bool.and_eq_true, decide_eq_true_eq] at h <;> omega

section

variable (c : Instr)

/-! ### Frames taken -/

theorem tick_moves (m : Moment) (s : State) : Moves c s (tick m s) :=
  (Moves.single (.time s _)).then_effects (judgeValve_effects _)

theorem checkSeqC_moves (seq : Byte) (s : State) : Moves c s (checkSeqC seq s) := by
  unfold checkSeqC; dsimp only; split
  · exact (Moves.single (.rx s _ s.rxD)).then_effects (countSource_effects _ _)
  · exact .single (.rx s _ s.rxD)

theorem checkSeqD_moves (seq : Byte) (s : State) : Moves c s (checkSeqD seq s) := by
  unfold checkSeqD; dsimp only; split
  · exact (Moves.single (.rx s s.rxC _)).then_effects (countSource_effects _ _)
  · exact .single (.rx s s.rxC _)

theorem heardC_moves (s : State) : Moves c s (heardC s) :=
  (Moves.single (.silence s
    { s.silence with controllerSince := s.now, controllerSilent := false, orphan := none } fun _ => rfl)).then_effects
    (judgeLive_effects _ _)

theorem dropFromQueue_moves (ch : Choice) (s : State) : Moves c s (dropFromQueue ch s) := by
  refine Moves.inOrder .refl fun f hf u => ?_
  simp only [List.mem_cons, List.not_mem_nil, or_false] at hf
  rcases hf with rfl | rfl
  · exact .single (.overflow u)
  · exact .ofEffects (countSource_effects _ _)

theorem offerForwardedC_moves (ch : Choice) (f : QFrame) (s : State) : Moves c s (offerForwardedC ch f s) := by
  unfold offerForwardedC; split
  · exact .single (.replacedC s f)
  · split
    · rename_i hany hroom
      refine .single (.joinedC s f hroom fun hf => ?_)
      simpa [hf] using hany
    · exact dropFromQueue_moves c _ _

/-- R8: a class whose action is PASS is no class of a fixed entry. -/
theorem fixedAction_of_pass {s : State} {port : Port} {cls : Class} (h : s.action port cls = .pass) :
    fixedAction port cls = none := by
  unfold State.action at h
  cases hf : fixedAction port cls with
  | none => rfl
  | some a =>
    rw [hf] at h
    have ha : a = .pass := h
    subst ha
    cases port <;> simp only [fixedAction] at hf <;> split_ifs at hf <;> cases hf

theorem passFrame_moves (ch : Choice) {port : Port} {cls : Class} (payload : List Byte) {s : State}
    (h : fixedAction port cls = none) : Moves c s (passFrame ch port cls payload s) := by
  have hcls : cls ≠ speedDemandClass := by
    rintro rfl; simp [fixedAction] at h
  unfold passFrame; cases port with
  | c =>
    dsimp only; unfold offerForwardedD; split
    · exact .single (.joinedD s _ ‹_› hcls rfl)
    · exact dropFromQueue_moves c _ _
  | d => exact offerForwardedC_moves c _ _ _

/-- R1: a clamp to the range of speeds lies in it. -/
theorem within_clampInt (v : Int) : within (-1500) 1500 (clampInt (-1500) 1500 v) = true := by
  have := clampInt_mem (show (-1500 : Int) ≤ 1500 by decide) v
  simpa [within] using this

theorem takeRequest_moves (ch : Choice) (mode : Byte) {target : Int} (h : within (-1500) 1500 target = true)
    (s : State) : Moves c s (takeRequest ch mode target s) := by
  refine (Moves.single (.requested s { mode := mode, target := target } h)).trans (.ofEffects ?_)
  unfold takeRequest; dsimp only
  refine Effects.trans ?_ (recompose_effects _)
  split
  · exact spinRequest_effects _ _
  · exact endingRequest_effects _ _

theorem offerDemandD_moves (ch : Choice) {f : QFrame} (hcls : f.cls = speedDemandClass) (hplain : f.restated = false)
    (s : State) : Moves c s (offerDemandD ch f s) := by
  unfold offerDemandD; split
  · exact .single (.demandReplaced s f hcls hplain ‹_›)
  · rename_i hany
    split
    · exact .single (.demandJoined s f hcls hplain (by simpa using hany) ‹_›)
    · exact dropFromQueue_moves c _ _

/-- Log 33: what the stages of a frame are, the frame is on an idle Port D too. -/
theorem startAfter_moves {stages : State → State} (h : ∀ u, Moves c u (stages u)) (s : State) :
    Moves c s (startAfter stages s) := by
  by_cases hidle : s.portD.sending = none
  · unfold startAfter; rw [if_neg (by simp [hidle])]
    exact ((Moves.single (.occupiedD s hidle)).trans (h _)).trans (.single (.freedD _))
  · rw [startAfter_busy hidle]; exact h s

theorem governFrame_moves (ch : Choice) (payload : List Byte) (s : State) : Moves c s (governFrame ch payload s) :=
  startAfter_moves c (fun u => (takeRequest_moves c ch _ (within_clampInt _) u).trans
    (offerDemandD_moves c ch rfl rfl _)) s

theorem recordStatus_moves (payload : List Byte) (s : State) : Moves c s (recordStatus payload s) :=
  (Moves.single (.silence s { s.silence with driveSince := s.now, driveSilent := false } fun h => h)).tail
    (.drive _ _ (within_clampInt _))

theorem inspectFrame_moves (ch : Choice) (payload : List Byte) (s : State) : Moves c s (inspectFrame ch payload s) := by
  refine Moves.inOrder (recordStatus_moves c payload s) fun f hf u => ?_
  rcases List.mem_append.mp hf with hf | hf
  · exact .ofEffects (recordReaders_effects ch hf u)
  · simp only [List.mem_cons, List.not_mem_nil, or_false] at hf
    rcases hf with rfl | rfl
    · exact .ofEffects (examineStatus_effects u)
    · exact (Moves.ofEffects (judgeLive_effects _ u)).trans (offerForwardedC_moves c _ _ _)

theorem consumeFrame_moves (payload : List Byte) (s : State) : Moves c s (consumeFrame payload s) := by
  unfold consumeFrame; split
  · rename_i hroom
    exact .single (.requests s _ fun _ => by simpa [Config.requestCapacity, Nat.lt_succ_iff] using hroom)
  · exact .ofEffects (countSource_effects _ _)

theorem dispose_moves (ch : Choice) (port : Port) (cls : Class) (payload : List Byte) (s : State) :
    Moves c s (dispose ch port cls payload s) := by
  unfold dispose; split
  · exact passFrame_moves c ch payload (fixedAction_of_pass ‹_›)
  · exact .refl
  · exact governFrame_moves c _ _ _
  · exact inspectFrame_moves c _ _ _
  · exact consumeFrame_moves c _ _

theorem portTaken_moves (ch : Choice) (port : Port) (cls : Class) (seq : Byte) (payload : List Byte) (s : State) :
    Moves c s (portTaken ch port cls seq payload s) := by
  refine Moves.trans ?_ (dispose_moves c ch port cls payload _)
  cases port with
  | c =>
    refine Moves.inOrder .refl fun f hf u => ?_
    simp only [List.mem_cons, List.not_mem_nil, or_false] at hf
    rcases hf with rfl | rfl
    · exact checkSeqC_moves c _ u
    · exact heardC_moves c u
  | d => exact checkSeqD_moves c _ s

theorem heardS_moves (s : State) : Moves c s (heardS s) :=
  (Moves.single (.intake s { s.intake with since := s.now, loss := false } (.inl rfl) nofun)).then_effects
    (judgeLive_effects _ _)

theorem checkCount_moves (count : Byte) (s : State) : Moves c s (checkCount count s) := by
  have htaken : Moves c s { s with intake := { s.intake with lastCount := count, armed := true } } :=
    .single (.intake s _ (.inl rfl) .inl)
  unfold checkCount; dsimp only; split
  · exact htaken.then_effects (countSource_effects _ _)
  · exact htaken

theorem recordSample_moves (payload : List Byte) (s : State) : Moves c s (recordSample payload s) :=
  .single (.intake s _ (.inr ⟨payload, rfl⟩) .inl)

theorem useSample_moves (s : State) : Moves c s (useSample s) := by
  unfold useSample; split
  · exact .single (.accumulated s _)
  all_goals exact .refl

theorem sampleFrame_moves (payload : List Byte) (s : State) : Moves c s (sampleFrame payload s) :=
  (((heardS_moves c s).trans (checkCount_moves c _ _)).trans (recordSample_moves c _ _)).trans (useSample_moves c _)

theorem frameTaken_moves (ch : Choice) (link : Link) (cls : Class) (seq : Byte) (payload : List Byte) (s : State) :
    Moves c s (frameTaken ch link cls seq payload s) := by
  cases link with
  | portC => exact portTaken_moves c _ _ _ _ _ _
  | portD => exact portTaken_moves c _ _ _ _ _ _
  | portS => exact sampleFrame_moves c _ _

theorem actOn_moves (ch : Choice) (link : Link) (r : Report) (s : State) : Moves c s (actOn ch link r s) := by
  cases r with
  | error => exact .ofEffects (countSource_effects _ _)
  | taken => exact frameTaken_moves c _ _ _ _ _ _

/-! ### Bytes -/

/-- R4: the framer holds what its phase says. -/
theorem Framer.examine_sound {f : Framer} (h : framerSound f = true) (link : Link) (v : Byte) :
    (f.examine link v).2 = .fault ∨ framerSound (f.examine link v).1 = true := by
  obtain ⟨phase, stored, lastByte, length⟩ := f
  cases phase with
  | hunt =>
    right
    unfold Framer.examine; dsimp only; split
    · simp [framerSound]
    · exact h
  | header =>
    simp only [framerSound, Bool.and_eq_true, decide_eq_true_eq] at h
    unfold Framer.examine Framer.header; dsimp only [Framer.store]
    split
    · split
      · right; simp [framerSound, *]
      · exact .inl rfl
    · split
      · right; simp [framerSound, *]
      · split
        · rename_i hallowed
          have hlen := lengthAllowed_le hallowed
          right
          by_cases hv : v.toNat = 0
          · simp [framerSound, hv]; omega
          · simp [framerSound, hv]; omega
        · exact .inl rfl
  | payload =>
    right
    simp only [framerSound, Bool.and_eq_true, decide_eq_true_eq] at h
    unfold Framer.examine; dsimp only [Framer.store]
    by_cases hfull : (stored ++ [v]).length = 4 + length
    · simp only [hfull, if_true, framerSound, Bool.and_eq_true, decide_eq_true_eq]; omega
    · simp only [List.length_append, List.length_cons, List.length_nil] at hfull
      simp [framerSound, hfull]; omega
  | check =>
    simp only [framerSound, Bool.and_eq_true, decide_eq_true_eq] at h
    unfold Framer.examine; dsimp only [Framer.store]
    split
    · split
      · right; rfl
      · exact .inl rfl
    · rename_i hshort
      right
      simp only [List.length_append, List.length_cons, List.length_nil] at hshort
      simp [framerSound]; omega

/-- R5: however many bytes are examined, the framer holds what its phase says. -/
theorem Framer.work_sound (link : Link) (n : Nat) (bytes : List Byte) {f : Framer} (h : framerSound f = true) :
    framerSound (Framer.work link n bytes f).1 = true := by
  induction n generalizing bytes f with
  | zero => exact h
  | succ n ih =>
    cases bytes with
    | nil => exact h
    | cons v rest =>
      have hexamined := Framer.examine_sound h link v
      unfold Framer.work
      split
      · rename_i g hg; rw [hg] at hexamined; exact ih _ (by simpa using hexamined)
      · rename_i g _ _ _ hg; rw [hg] at hexamined; exact ih _ (by simpa using hexamined)
      · exact ih _ rfl

/-- R4, R5: a byte from the line leaves the framer holding what its phase says. -/
theorem Framer.line_sound (link : Link) (now : Time) (b : LineByte) {f : Framer} (h : framerSound f = true) :
    framerSound (f.line link now b).1 = true := by
  have hreceive : ∀ g : Framer, framerSound g = true → framerSound (g.receive link now b).1 = true := by
    intro g hg
    unfold Framer.receive; split
    · exact Framer.work_sound link _ _ hg
    · rfl
  unfold Framer.line; split
  · exact hreceive _ rfl
  · exact hreceive _ h

theorem lineByte_moves (ch : Choice) (link : Link) (b : LineByte) (s : State) :
    Moves c s (lineByte ch link b s) := by
  have hactOn : ∀ (l : List Report) (u : State), Moves c u (l.foldl (fun u x => actOn ch link x u) u) := by
    intro l
    induction l with
    | nil => exact fun u => .refl
    | cons x l ih => exact fun u => (actOn_moves c ch link x u).trans (ih _)
  exact (Moves.single (.framer s link _ (Framer.line_sound link s.now b))).trans (hactOn _ _)

theorem framerTimeout_moves (link : Link) (s : State) : Moves c s (framerTimeout link s) := by
  unfold framerTimeout; split
  · exact (Moves.single (.framer s link _ fun _ => rfl)).then_effects (countSource_effects _ _)
  · exact .refl

theorem wholeFrame_moves (ch : Choice) (link : Link) (cls : Class) (seq : Byte) (payload : List Byte) (s : State) :
    Moves c s (wholeFrame ch link cls seq payload s) := by
  unfold wholeFrame; split
  · exact (Moves.single (.framer s link _ fun _ => rfl)).trans (frameTaken_moves c _ _ _ _ _ _)
  · exact .refl

/-! ### Transmission and silence -/

theorem endSend_moves (port : Port) (s : State) : Moves c s (endSend port s) := by
  cases port with
  | c =>
    unfold endSend endSendC; dsimp only; (repeat' split)
    all_goals first | exact .refl | exact .single (.freedC s)
  | d =>
    unfold endSend endSendD; dsimp only; (repeat' split)
    all_goals first | exact .refl | exact .single (.freedD s)

/-- R24: what ORPHAN STOP does. -/
theorem orphanStop_moves (ch : Choice) {f : State → State} (hf : f ∈ orphanStop ch) (u : State) :
    Moves c u (f u) := by
  simp only [orphanStop, List.mem_cons, List.not_mem_nil, or_false] at hf
  rcases hf with rfl | rfl
  · exact takeRequest_moves c ch 0 (by decide) u
  · exact .single (.orphaned u)

theorem controllerSilences_moves (ch : Choice) (s : State) : Moves c s (controllerSilences ch s) := by
  unfold controllerSilences; split
  · have hsilent : Moves c s
        { s with
          rxC := { s.rxC with armed := false }
          silence := { s.silence with controllerSilent := true, orphan := some s.now } } :=
      (Moves.single (.rx s { s.rxC with armed := false } s.rxD)).tail (.silence _ _ fun _ => rfl)
    refine Moves.inOrder hsilent fun f hf u => ?_
    rcases List.mem_cons.mp hf with rfl | hf
    · exact .ofEffects (judgeLive_effects _ u)
    · exact orphanStop_moves c ch hf u
  · exact .refl

theorem orphanRepeats_moves (ch : Choice) (s : State) : Moves c s (orphanRepeats ch s) := by
  unfold orphanRepeats; split
  · exact .refl
  · rename_i next hdue
    have hstands : s.silence.orphan.isSome = true := by
      unfold State.orphanDue at hdue; split at hdue
      · cases hdue
      · simp [*]
    refine Moves.inOrder (.single (.silence s _ fun h => ?_)) fun f hf u => orphanStop_moves c ch hf u
    simpa [orphanWhileSilent, hstands] using h

theorem driveSilences_moves (ch : Choice) (s : State) : Moves c s (driveSilences ch s) := by
  unfold driveSilences; split
  · refine Moves.inOrder ?_ fun f hf u => .ofEffects (recordReaders_effects ch hf u)
    exact (Moves.single (.rx s s.rxC { s.rxD with armed := false })).tail (.silence _ _ fun h => h)
  · exact .refl

theorem sensorLost_moves (m : Moment) (ch : Choice) (s : State) : Moves (.sensorLoss m) s (sensorLost ch s) := by
  unfold sensorLost; split
  · refine Moves.inOrder (.single (.intake s _ (.inl rfl) fun _ => .inr ⟨m, rfl⟩)) fun f hf u => ?_
    simp only [List.mem_cons, List.not_mem_nil, or_false] at hf
    rcases hf with rfl | rfl
    · exact .ofEffects (judgeLive_effects _ u)
    · exact .ofEffects (estimatorInvalid_effects _ u)
  · exact .refl

/-! ### Switches -/

/-- R37, R38: what a change of a debounced state is handed on to. -/
theorem levelReaders_effects {sw : Switch} {f : State → State} (hf : f ∈ levelReaders sw) (u : State) :
    Effects u (f u) := by
  cases sw <;> simp only [levelReaders, List.mem_cons, List.not_mem_nil, or_false] at hf
  · rcases hf with rfl | rfl
    · exact judgeLive_effects _ u
    · unfold lidOpened; split
      · exact .refl
      · exact .single (.session u _)
  · subst hf; exact judgeLive_effects _ u

theorem switchChanges_moves (ch : Choice) (sw : Switch) (s : State) : Moves c s (switchChanges ch sw s) := by
  refine Moves.inOrder (.single (.switch s sw _)) fun f hf u => ?_
  rcases List.mem_append.mp hf with hf | hf
  · exact .ofEffects (levelReaders_effects hf u)
  · rw [List.mem_singleton.mp hf]; exact .ofEffects (judgeCauses_effects _ _ u)

theorem rawChange_moves (ch : Choice) (sw : Switch) (s : State) : Moves c s (rawChange ch sw s) := by
  have htoggled : Moves c s (toggleRaw sw s) := .single (.switch s sw _)
  refine htoggled.trans ?_
  unfold rawChange; dsimp only; repeat' split
  · exact .single (.switch _ sw _)
  · exact switchChanges_moves c _ _ _
  · exact .single (.switch _ sw _)

theorem debounceExpires_moves (ch : Choice) (sw : Switch) (s : State) : Moves c s (debounceExpires ch sw s) := by
  unfold debounceExpires; split
  · exact switchChanges_moves c _ _ _
  · exact .refl

/-! ### The index -/

/-- R42 to R44: a period of an accepted pulse lies in its range, so the tracker that takes it is sound. -/
theorem Tracker.timed_sound (now : Time) {d count : Nat} (hlo : Config.minPeriod ≤ d) (hhi : d ≤ Config.maxPeriod)
    (hcount : count ≤ 4) : trackerSound (Tracker.timed now d count) = true := by
  have hd : within Config.minPeriod Config.maxPeriod d = true := by
    simp only [within, Bool.and_eq_true, decide_eq_true_eq]; omega
  by_cases h : count < 4
  · simp [Tracker.timed, trackerSound, h, hd]; omega
  · simp [Tracker.timed, trackerSound, h, hd]; omega

theorem mismatchAfter_le (driveSpeed : Option Int) (p n : Nat) : mismatchAfter driveSpeed p n ≤ 4 := by
  unfold mismatchAfter; split <;> omega

theorem Tracker.minPeriod_le (t : Tracker) : Config.minPeriod ≤ t.minInterval := by
  unfold Tracker.minInterval; split <;> simp

/-- R40 to R42: a pulse keeps the tracker sound. -/
theorem Tracker.pulse_sound (now : Time) (driveSpeed : Option Int) {t : Tracker} (h : trackerSound t = true) :
    trackerSound (t.pulse now driveSpeed).1 = true := by
  unfold Tracker.pulse; split
  · rfl
  · rfl
  · split
    · exact h
    · rename_i hlate
      unfold Tracker.accept; split
      · rfl
      · exact Tracker.timed_sound now (t.minPeriod_le.trans (by omega)) (by omega) (mismatchAfter_le _ _ _)

/-- R45, R47: a pulse that closes a revolution or gains the angle leaves the tracker LOCKED. -/
theorem Tracker.pulse_locked {now : Time} {driveSpeed : Option Int} {t : Tracker}
    (h : (t.pulse now driveSpeed).2 = .closed ∨ (t.pulse now driveSpeed).2 = .gained) :
    (t.pulse now driveSpeed).1.state = .locked := by
  revert h
  unfold Tracker.pulse; split
  · simp
  · simp
  · split
    · simp
    · unfold Tracker.accept; split
      · dsimp only; split <;> simp
      · dsimp only
        generalize Tracker.timed now _ _ = t'
        unfold timedOutcome
        split <;> simp_all

theorem indexPulse_moves (m : Moment) (ch : Choice) (s : State) : Moves (.indexPulse m) s (indexPulse ch s) := by
  have htaken : Moves (.indexPulse m) s (judgeValve { s with tracker := (s.tracker.pulse s.now s.driveSpeed).1 }) :=
    (Moves.single (.tracker s _ (Tracker.pulse_sound _ _) (.inl ⟨m, rfl⟩))).then_effects (judgeValve_effects _)
  refine htaken.then_effects (handPulse_effects ch fun h => ?_)
  simp [State.angleValid, Tracker.pulse_locked h]

/-- R46: the loss of the index keeps the tracker sound. -/
theorem Tracker.indexGone_sound {t : Tracker} (h : trackerSound t = true) : trackerSound t.indexGone = true := by
  obtain ⟨state, lastIndex, period, mismatch⟩ := t
  have hlast : state = .locked ∨ state = .held → lastIndex.isSome = true := by
    rintro (rfl | rfl) <;> simp only [trackerSound, Bool.and_eq_true] at h <;> exact h.1.1
  cases state <;> simp only [Tracker.indexGone]
  · rfl
  · rfl
  all_goals
    split
    · simp [trackerSound, hlast]
    · rfl

theorem indexLost_moves (m : Moment) (ch : Choice) (s : State) : Moves (.indexLost m) s (indexLost ch s) := by
  have hgone : Moves (.indexLost m) s { s with tracker := s.tracker.indexGone } :=
    .single (.tracker s _ Tracker.indexGone_sound (.inr ⟨m, rfl⟩))
  unfold indexLost; split
  · dsimp only; split
    · exact hgone.then_effects (angleLost_effects _ _)
    · exact hgone
  · exact .refl

/-! ### The ring -/

/-- R121: contents that are each at most CHAMBER_CAP are in range. -/
theorem contentsInRange_iff (s : State) :
    contentsInRange s = true ↔ ∀ g ∈ s.ring.contents.toList, g ≤ s.spin.chamberCap := by
  rw [contentsInRange, List.all_eq_true]
  simp only [decide_eq_true_eq]

/-- R127: a credit keeps the contents in range. -/
theorem creditedContents_le {s : State} (h : contentsInRange s = true) :
    ∀ g ∈ (creditedContents s).toList, g ≤ s.spin.chamberCap := by
  intro g hg
  rw [contentsInRange_iff] at h
  simp only [creditedContents, Vector.toList_set] at hg
  rcases List.mem_or_eq_of_mem_set hg with hg | rfl
  · exact h g hg
  · exact Nat.min_le_left _ _

theorem creditActive_moves (s : State) : Moves c s (creditActive s) :=
  (Moves.single (.contents s _ fun h => (contentsInRange_iff _).mpr (creditedContents_le h))).then_effects
    (judgeLive_effects _ _)

theorem creditTail_moves (s : State) : Moves c s (creditTail s) :=
  (Moves.single (.contents s _ fun h => (contentsInRange_iff _).mpr (creditedContents_le h))).then_effects
    (judgeLive_effects _ _)

theorem judgePulseEnd_effects (ch : Choice) (s : State) : Effects s (judgePulseEnd ch s) := by
  unfold judgePulseEnd; (repeat' split)
  all_goals first | exact .refl | exact endInjection_effects _ _ _ _

theorem flowPulse_moves (ch : Choice) (s : State) : Moves c s (flowPulse ch s) := by
  unfold flowPulse; split
  · exact (creditActive_moves c s).then_effects (judgePulseEnd_effects _ _)
  · exact creditTail_moves c s
  all_goals exact .ofEffects (strayPulse_effects s)

theorem flowTimesOut_effects (ch : Choice) (s : State) : Effects s (flowTimesOut ch s) := by
  unfold flowTimesOut; split
  · have hring : Effects s { s with ring := { s.ring with available := false } } := .single (.ring s _)
    exact (hring.trans (onlyIf_effects _ (latchKind_effects _ _))).trans (endInjection_effects _ _ _ _)
  · exact .refl

theorem tailExpires_effects (s : State) : Effects s (tailExpires s) := by
  unfold tailExpires; split
  · exact .single (.ring s _)
  · exact .refl

theorem mapAll_toList {α β : Type} {n : Nat} (f : α → β) (v : Vector α n) : (mapAll f v).toList = v.toList.map f := by
  simp [mapAll, Vector.toList]

/-- R135: a bleed period keeps the contents in range. -/
theorem bledContents_le {s : State} (h : contentsInRange s = true) (n : Nat) :
    ∀ g ∈ (mapAll (fun g => g - n) s.ring.contents).toList, g ≤ s.spin.chamberCap := by
  intro g hg
  rw [contentsInRange_iff] at h
  rw [mapAll_toList] at hg
  obtain ⟨x, hx, rfl⟩ := List.mem_map.mp hg
  exact (Nat.sub_le _ _).trans (h x hx)

theorem bleeds_moves (s : State) : Moves c s (bleeds s) := by
  unfold bleeds; split
  · exact (Moves.single (.contents s _ fun h => (contentsInRange_iff _).mpr (bledContents_le h _))).then_effects
      (judgeLive_effects _ _)
  · exact .refl

/-! ### The monitor counter -/

/-- R157: a transfer keeps the counter sound. -/
theorem transferred_sound {s : State} (h : monitorSound s = true) :
    monitorSound { s with monitor := s.monitor.transferred } = true := by
  simp only [monitorSound, Bool.and_eq_true, decide_eq_true_eq] at h ⊢
  obtain ⟨⟨hcount, -⟩, htimer⟩ := h
  exact ⟨⟨Nat.zero_le _, hcount⟩, htimer⟩

theorem monitorExpires_moves (s : State) : Moves c s (monitorExpires s) := by
  unfold monitorExpires; split
  · rename_i hdue
    have hauto : s.monitor.auto = true := by
      unfold State.monitorDue at hdue; split at hdue
      · cases hdue
      · exact (Bool.and_eq_true _ _ |>.mp hdue).1
    have htimer : Moves c s { s with monitor := { s.monitor with timer := some s.now } } := by
      refine .single (.monitor s _ fun h => ?_)
      simp only [monitorSound, Bool.and_eq_true, decide_eq_true_eq] at h ⊢
      exact ⟨h.1, by simp [hauto]⟩
    exact Moves.then_effects (htimer.tail (.monitor _ _ transferred_sound)) (judgeLive_effects _ _)
  · exact .refl

end

end Sys2Proof.Machine
end

section
/-! SUPPORT. The management agent's commands and the resets as runs of moves, and the theorem that every command is one. -/

namespace Sys2Proof.Machine

open Sys2Proof.Safety

/-! ### Port D, the governor and what they offer -/

/-- What neither a move on Port D, nor a SPEED DEMAND that leaves it governed, nor an offer to the event unit breaks. -/
structure PortDFree (P : State → Prop) : Prop where
  queue : ∀ (u : State) (p : PortD), P u → P { u with portD := p }
  sent : ∀ (u : State) (p : PortD) (f : QFrame), P u → P { u with portD := p, standing := govern u f }
  offer : ∀ u : State, P u → P (judgeLive .governing u)

namespace PortDFree

variable {P : State → Prop} {s : State}

theorem startD (hP : PortDFree P) (h : P s) : P (startD s) := by
  cases hp : s.portD.pick with
  | none => rw [startD_nothing hp]; exact h
  | some fp =>
    obtain ⟨f, p⟩ := fp
    by_cases hc : f.cls = speedDemandClass
    · rw [startD_demand hp hc]; exact hP.offer _ (hP.sent _ _ _ h)
    · rw [startD_plain hp hc]; exact hP.queue _ _ h

theorem kickD (hP : PortDFree P) (h : P s) : P (kickD s) := by
  unfold Machine.kickD; split
  · exact hP.startD h
  · exact h

theorem queueRestated (hP : PortDFree P) (h : P s) : P (queueRestated s) := by
  unfold Machine.queueRestated; split
  · exact h
  · exact hP.kickD (hP.queue _ _ h)

theorem recompose (hP : PortDFree P) (hgov : ∀ (u : State) (g : Governor), P u → P { u with gov := g }) (h : P s) :
    P (recompose s) := by
  unfold Machine.recompose; dsimp only; split
  · exact hP.queueRestated (hgov _ _ h)
  · exact hgov _ _ h

theorem queueOrphan (hP : PortDFree P) (h : P s) : P (queueOrphan s) := by
  unfold Machine.queueOrphan; dsimp only; split
  · exact hP.queue _ _ h
  · exact hP.kickD (hP.queue _ _ h)

end PortDFree

/-! ### What SOFT RESET leaves quiet -/

/-- R148, R155: no report enable is set, the estimator is INVALID with no angle to leave it by, and Port C stands reset:
nothing makes a frame for Port C. -/
structure PortCQuiet (s : State) : Prop where
  report : s.events.report = 0
  est : s.est.state = .invalid
  angle : s.angleValid = false
  port : s.portC = PortC.reset

/-- R149: with no report enable set a latching makes no notice. -/
theorem latchKind_portC_of_report {s : State} (h : s.events.report = 0) (k : Kind) :
    (latchKind k s).portC = s.portC := by
  simp [latchKind, h]

theorem judgeLive_quiet {s : State} (h : PortCQuiet s) (k : Kind) : PortCQuiet (judgeLive k s) := by
  obtain ⟨hreport, hest, hangle, hport⟩ := h
  have hlatch : PortCQuiet (latchKind k
      { s with events := { s.events with live := setBit s.events.live k.number (s.condition k) } }) :=
    ⟨hreport, hest, hangle, (latchKind_portC_of_report (by exact hreport) k).trans hport⟩
  rcases offerLive_cases k (s.condition k) s with ⟨-, heq⟩ | ⟨-, heq⟩
  · rw [judgeLive, heq]; exact ⟨hreport, hest, hangle, hport⟩
  · rw [judgeLive, heq]; split
    · exact hlatch
    · exact ⟨hreport, hest, hangle, hport⟩

theorem portCQuiet_portDFree : PortDFree PortCQuiet where
  queue _ _ h := ⟨h.report, h.est, h.angle, h.port⟩
  sent _ _ _ h := ⟨h.report, h.est, h.angle, h.port⟩
  offer _ h := judgeLive_quiet h _

theorem Effect.quiet {s t : State} (h : Effect s t) (hs : PortCQuiet s) : PortCQuiet t := by
  have hinv := hs.est
  cases h with
  | latch k => exact ⟨hs.report, hs.est, hs.angle, (latchKind_portC_of_report hs.report k).trans hs.port⟩
  | report h => rw [hinv] at h; cases h
  | compose => exact portCQuiet_portDFree.recompose (fun _ _ h => ⟨h.report, h.est, h.angle, h.port⟩) hs
  | restate => exact portCQuiet_portDFree.queueRestated hs
  | lost => exact ⟨hs.report, rfl, hs.angle, hs.port⟩
  | primed _ hangle => rw [hs.angle] at hangle; cases hangle
  | thinned h => exact absurd hinv h
  | estimated a h => exact absurd hinv h
  | live | tally | count | envelope | weigh | session | ring | trip | cause =>
    exact ⟨hs.report, hs.est, hs.angle, hs.port⟩

theorem Effects.quiet {s t : State} (h : Effects s t) (hs : PortCQuiet s) : PortCQuiet t :=
  h.keeps (fun _ _ => Effect.quiet) hs

/-- R169: after SOFT RESET, its trip unit's part made, Port C stands reset. -/
theorem softReset_portC (ch : Choice) (s : State) : (softReset ch s).portC = PortC.reset := by
  have hquiet : PortCQuiet (resumeTrip (takeLive (judgeBleed (composeSilently (softValues s))))) := by
    unfold resumeTrip; split <;> exact ⟨rfl, rfl, rfl, rfl⟩
  exact ((judgeCauses_effects ch allCauses _).quiet hquiet).port

section

variable (c : Instr)

/-! ### Writing -/

/-- R164: what storing an element can do: each object has its own block to write to. -/
inductive StoreStep (obj : Byte) (i : Nat) (w : Word) (s : State) : State → Prop
  | classTable (h : obj = 0x01) : StoreStep obj i w s (storeClass i w s)
  | envelope (h : obj = 0x10) : StoreStep obj i w s
      { s with tables := { s.tables with envelope := put s.tables.envelope i (min 9999 w.toNat) } }
  | rampLimit (h : obj = 0x11) : StoreStep obj i w s
      { s with tables := { s.tables with rampLimit := put s.tables.rampLimit i (min 2000 w.toNat) } }
  | gain (h : obj = 0x12) : StoreStep obj i w s { s with tables := { s.tables with gain := put s.tables.gain i w.toNat } }
  | phase (h : obj = 0x13) : StoreStep obj i w s
      { s with tables := { s.tables with phase := put s.tables.phase i w.toNat } }
  | plateau (h : obj = 0x14) : StoreStep obj i w s
      { s with tables := { s.tables with plateau := put s.tables.plateau i (clampPlateau (i % 6) w.toNat) } }
  | weighThresh (h : obj = 0x15) : StoreStep obj i w s
      { s with tables := { s.tables with weighThresh := put s.tables.weighThresh i w.toNat } }
  | spin (h : obj = 0x20) : StoreStep obj i w s
      { s with spin := s.spin.set i (clampNat (spinRange i).1 (spinRange i).2 w.toNat) }
  | service (h : obj = 0x21) : StoreStep obj i w s (storeService i w.toNat s)
  | limit (h : obj = 0x30) : StoreStep obj i w s (storeLimit i w.toNat s)
  | contents (h : obj = 0x51) : StoreStep obj i w s
      { s with ring := { s.ring with contents := put s.ring.contents i (min s.spin.chamberCap w.toNat) } }
  | nothing : StoreStep obj i w s s

theorem storeElement_step (obj : Byte) (i : Nat) (w : Word) (s : State) :
    StoreStep obj i w s (storeElement obj i w s) := by
  unfold storeElement; dsimp only
  refine iteInduction (fun h => .classTable h) fun _ => ?_
  refine iteInduction (fun h => .envelope h) fun _ => ?_
  refine iteInduction (fun h => .rampLimit h) fun _ => ?_
  refine iteInduction (fun h => .gain h) fun _ => ?_
  refine iteInduction (fun h => .phase h) fun _ => ?_
  refine iteInduction (fun h => .plateau h) fun _ => ?_
  refine iteInduction (fun h => .weighThresh h) fun _ => ?_
  refine iteInduction (fun h => .spin h) fun _ => ?_
  refine iteInduction (fun h => .service h) fun _ => ?_
  refine iteInduction (fun h => .limit h) fun _ => ?_
  refine iteInduction (fun h => .contents h) fun _ => ?_
  exact .nothing

/-- R164: what no element stored, and none of a write's clamps, moves. -/
structure SameButStored (s t : State) : Prop where
  now : t.now = s.now
  held : t.held = s.held
  framerC : t.framerC = s.framerC
  framerD : t.framerD = s.framerD
  framerS : t.framerS = s.framerS
  rxC : t.rxC = s.rxC
  rxD : t.rxD = s.rxD
  requested : t.requested = s.requested
  drive : t.drive = s.drive
  silence : t.silence = s.silence
  portC : t.portC = s.portC
  portD : t.portD = s.portD
  standing : t.standing = s.standing
  intake : t.intake = s.intake
  lid : t.lid = s.lid
  strike : t.strike = s.strike
  tracker : t.tracker = s.tracker
  est : t.est = s.est
  weigh : t.weigh = s.weigh
  loadClass : t.loadClass = s.loadClass
  gov : t.gov = s.gov
  session : t.session = s.session
  trip : t.trip = s.trip
  requests : t.requests = s.requests
  pending : t.pending = s.pending

theorem SameButStored.refl (s : State) : SameButStored s s := by constructor <;> rfl

theorem SameButStored.trans {s t u : State} (h : SameButStored s t) (h' : SameButStored t u) : SameButStored s u where
  now := h'.now.trans h.now
  held := h'.held.trans h.held
  framerC := h'.framerC.trans h.framerC
  framerD := h'.framerD.trans h.framerD
  framerS := h'.framerS.trans h.framerS
  rxC := h'.rxC.trans h.rxC
  rxD := h'.rxD.trans h.rxD
  requested := h'.requested.trans h.requested
  drive := h'.drive.trans h.drive
  silence := h'.silence.trans h.silence
  portC := h'.portC.trans h.portC
  portD := h'.portD.trans h.portD
  standing := h'.standing.trans h.standing
  intake := h'.intake.trans h.intake
  lid := h'.lid.trans h.lid
  strike := h'.strike.trans h.strike
  tracker := h'.tracker.trans h.tracker
  est := h'.est.trans h.est
  weigh := h'.weigh.trans h.weigh
  loadClass := h'.loadClass.trans h.loadClass
  gov := h'.gov.trans h.gov
  session := h'.session.trans h.session
  trip := h'.trip.trans h.trip
  requests := h'.requests.trans h.requests
  pending := h'.pending.trans h.pending

theorem storeService_same (i v : Nat) (s : State) : SameButStored s (storeService i v s) := by
  unfold storeService; split <;> constructor <;> rfl

theorem storeLimit_same (i v : Nat) (s : State) : SameButStored s (storeLimit i v s) := by
  unfold storeLimit; split <;> constructor <;> rfl

theorem StoreStep.same {obj : Byte} {i : Nat} {w : Word} {s t : State} (h : StoreStep obj i w s t) :
    SameButStored s t := by
  cases h with
  | service => exact storeService_same _ _ s
  | limit => exact storeLimit_same _ _ s
  | _ => constructor <;> rfl

theorem storeElements_same (obj : Byte) (i : Nat) (ws : List Word) (s : State) :
    SameButStored s (storeElements obj i ws s) := by
  induction ws generalizing i s with
  | nil => exact .refl s
  | cons w ws ih => exact (storeElement_step obj i w s).same.trans (ih _ _)

theorem storeWrite_same (obj : Byte) (idx : Nat) (ws : List Word) (s : State) :
    SameButStored s (storeWrite obj idx ws s) := by
  have hweigh : ∀ t : State, SameButStored t (weighFix obj idx ws.length t) := by
    intro t; unfold weighFix; split <;> constructor <;> rfl
  have hcap : ∀ t : State, SameButStored t (capFix obj idx ws.length t) := by
    intro t; unfold capFix; split <;> constructor <;> rfl
  exact ((storeElements_same obj idx ws s).trans (hweigh _)).trans (hcap _)

/-! ### What an accepted write brings about -/

theorem judgeTail_effects (s : State) : Effects s (judgeTail s) := by
  unfold judgeTail; split
  · exact .single (.ring s _)
  · exact .refl

theorem spinWritten_effects (ch : Choice) (idx n : Nat) (s : State) : Effects s (spinWritten ch idx n s) := by
  refine Effects.inOrder .refl fun f hf u _ => ?_
  simp only [List.mem_cons, List.not_mem_nil, or_false] at hf
  rcases hf with rfl | rfl | rfl | rfl | rfl
  · exact onlyIf_effects _ (recompose_effects u)
  · exact onlyIf_effects _ (judgeBleed_effects u)
  · exact onlyIf_effects _ (judgeLive_effects _ u)
  · exact onlyIf_effects _ (judgeTail_effects u)
  · exact judgeCauses_effects _ _ u

/-- R36 to R38, R158: what a write of object 0x21 hands on. -/
theorem serviceReaders_effects {ch : Choice} {lid strike source : Bool} {f : State → State}
    (hf : f ∈ serviceReaders ch lid strike source) (u : State) : Effects u (f u) := by
  unfold serviceReaders at hf
  rcases List.mem_append.mp hf with hf | hf
  · rcases List.mem_append.mp hf with hf | hf
    · split at hf
      · exact levelReaders_effects hf u
      · cases hf
    · split at hf
      · exact levelReaders_effects hf u
      · cases hf
  · simp only [List.mem_cons, List.not_mem_nil, or_false] at hf
    rcases hf with rfl | rfl
    · exact onlyIf_effects _ (judgeLive_effects _ u)
    · exact judgeCauses_effects _ _ u

theorem serviceWritten_moves (ch : Choice) (idx n : Nat) (s : State) : Moves c s (serviceWritten ch idx n s) := by
  have hlevel : ∀ (b : Bool) (sw : Switch) (u : State), Moves c u (onlyIf b (takeLevel sw) u) := by
    intro b sw u
    unfold onlyIf; split
    · exact .single (.switch u sw _)
    · exact .refl
  refine Moves.inOrder ((hlevel _ _ s).trans (hlevel _ _ _)) fun f hf u => .ofEffects (serviceReaders_effects hf u)

theorem limitWritten_effects (ch : Choice) (idx n : Nat) (s : State) : Effects s (limitWritten ch idx n s) := by
  refine Effects.inOrder .refl fun f hf u _ => ?_
  simp only [List.mem_cons, List.not_mem_nil, or_false] at hf
  rcases hf with rfl | rfl
  · exact onlyIf_effects _ (recompose_effects u)
  · exact judgeCauses_effects _ _ u

theorem writeEffects_moves (ch : Choice) (obj : Byte) (idx n : Nat) (s : State) :
    Moves c s (writeEffects ch obj idx n s) := by
  unfold writeEffects
  split; · exact .ofEffects (envelopeRevised_effects s)
  split; · exact .ofEffects (spinWritten_effects _ _ _ s)
  split; · exact serviceWritten_moves c _ _ _ s
  split; · exact .ofEffects (limitWritten_effects _ _ _ s)
  split; · exact .ofEffects (judgeLive_effects _ s)
  exact .refl

end

/-! ### The agent -/

/-- R159: an operation of the agent that is a run of moves wherever there is room for its response. -/
theorem execute_moves {c : Instr} {isOp : Byte → Bool} {run : Request → State → State} (s : State)
    (h : ∀ (r : Request) (u : State), u.portC.localQ.length < Config.localCapacity → Moves c u (run r u)) :
    Moves c s (execute isOp run s) := by
  rcases execute_cases isOp run s with heq | ⟨r, rest, hr, -, hroom, heq⟩
  · rw [heq]
  · rw [heq]
    refine (Moves.single (.requests s rest fun hlen => ?_)).trans (h r _ hroom)
    rw [hr, List.length_cons] at hlen; omega

theorem runRead_moves {c : Instr} (r : Request) {s : State} (h : s.portC.localQ.length < Config.localCapacity) :
    Moves c s (runRead r s) := .single (.response s _ _ _ h)

theorem runWrite_moves (m : Moment) (ch : Choice) (r : Request) {s : State}
    (h : s.portC.localQ.length < Config.localCapacity) : Moves (.write m) s (runWrite ch r s) := by
  unfold runWrite; split
  · exact .single (.response s _ _ _ h)
  · have hstored : Moves (.write m) s (storeWrite r.object r.index.toNat r.words s) :=
      .single (.stored s m r rfl ‹_›)
    have hroom : (storeWrite r.object r.index.toNat r.words s).portC.localQ.length < Config.localCapacity := by
      rw [(storeWrite_same _ _ _ s).portC]; exact h
    exact (hstored.tail (.response _ _ _ _ hroom)).trans (writeEffects_moves _ _ _ _ _ _)

/-- R153: a word of the event unit written leaves ATTN as the latches and the enables give it. -/
theorem withElement_attn {s : State} (i : Nat) (f : Word → Word) (h : attnFollows s = true) :
    attnFollows { s with events := s.events.withElement i f } = true := by
  unfold Events.withElement; split
  · exact beq_self_eq_true _
  · exact h
  · exact beq_self_eq_true _
  · exact h
  · exact h

theorem changeBits_moves {c : Instr} (r : Request) (f : Word → Word) {s : State}
    (h : s.portC.localQ.length < Config.localCapacity) : Moves c s (changeBits r f s) :=
  (Moves.single (.events s _ (withElement_attn _ f))).tail (.response _ _ _ _ h)

theorem runSetBits_moves {c : Instr} (r : Request) {s : State} (h : s.portC.localQ.length < Config.localCapacity) :
    Moves c s (runSetBits r s) := by
  unfold runSetBits; split
  · exact changeBits_moves _ _ h
  · exact .single (.response s _ _ _ h)

theorem runClearBits_moves {c : Instr} (r : Request) {s : State} (h : s.portC.localQ.length < Config.localCapacity) :
    Moves c s (runClearBits r s) := by
  unfold runClearBits; split
  · exact changeBits_moves _ _ h
  · exact .single (.response s _ _ _ h)

theorem runAcknowledge_moves {c : Instr} (r : Request) {s : State}
    (h : s.portC.localQ.length < Config.localCapacity) : Moves c s (runAcknowledge r s) := by
  have hcleared : Moves c s (clearLatch r.kindNumber s) := .single (.events s _ fun _ => beq_self_eq_true _)
  unfold runAcknowledge; split
  · exact .single (.response s _ _ _ h)
  · split
    · exact .single (.response s _ _ _ h)
    · exact hcleared.tail (.response _ _ _ _ h)

theorem runTransfer_moves {c : Instr} (r : Request) {s : State}
    (h : s.portC.localQ.length < Config.localCapacity) : Moves c s (runTransfer r s) := by
  have hcopied : Moves c s { s with monitor := s.monitor.transferred } := .single (.monitor s _ transferred_sound)
  unfold runTransfer; split
  · exact .single (.response s _ _ _ h)
  · exact Moves.then_effects (hcopied.tail (.response _ _ _ _ h)) (judgeLive_effects _ _)

theorem handClearing_effects (ch : Choice) (s : State) : Effects s (handClearing ch s) := by
  refine Effects.inOrder .refl fun f hf u _ => ?_
  simp only [List.mem_cons, List.not_mem_nil, or_false] at hf
  rcases hf with rfl | rfl
  · dsimp only; split
    · exact enterIdle_effects _ u
    · exact recompose_effects u
  · exact judgeLive_effects _ u

theorem runClearTrip_moves (m : Moment) (ch : Choice) (r : Request) {s : State}
    (h : s.portC.localQ.length < Config.localCapacity) : Moves (.clearTrip m) s (runClearTrip ch r s) := by
  unfold runClearTrip; split
  · exact .single (.response s _ _ _ h)
  · split
    · exact .single (.response s _ _ _ h)
    · split
      · exact Moves.then_effects ((Moves.single (.cleared s m rfl)).tail (.response _ _ _ _ h))
          (handClearing_effects _ _)
      · exact .single (.response s _ _ _ h)

theorem runQuery_moves {c : Instr} (r : Request) {s : State} (h : s.portC.localQ.length < Config.localCapacity) :
    Moves c s (runQuery r s) := by
  rw [runQuery_eq_respond]; exact .single (.response s _ _ _ h)

theorem softReset_moves (m : Moment) (ch : Choice) (s : State) : Moves (.softReset m) s (softReset ch s) :=
  (Moves.single (.soft s m rfl)).then_effects (judgeCauses_effects _ _ _)

theorem runSoftReset_moves (m : Moment) (ch : Choice) (r : Request) {s : State}
    (h : s.portC.localQ.length < Config.localCapacity) : Moves (.softReset m) s (runSoftReset ch r s) := by
  unfold runSoftReset; split
  · exact .single (.response s _ _ _ h)
  · refine (softReset_moves m ch s).tail (.response _ _ _ _ ?_)
    rw [softReset_portC]; decide

theorem runUnknown_moves {c : Instr} (r : Request) {s : State} (h : s.portC.localQ.length < Config.localCapacity) :
    Moves c s (runUnknown r s) := .single (.response s _ _ _ h)

/-! ### Every command -/

/-- A command at its moment is a run of moves if its effect is. -/
theorem happen_moves {c : Instr} {m : Moment} {f : State → State} {s t : State} (h : ∀ u, Moves c u (f u))
    (ht : happen m f s = .next t) : Moves c s t := by
  cases hheld : s.held with
  | true => rw [happen_held hheld] at ht; cases ht; exact .refl
  | false => rw [happen_live hheld] at ht; cases ht; exact (tick_moves c m s).trans (h _)

/-- Every command is a run of its moves. -/
theorem exec_moves {c : Instr} {s t : State} (ht : exec c s = .next t) : Moves c s t := by
  cases c with
  | powerOnReset => cases ht; exact (Moves.single (.power s rfl)).then_effects (judgeCauses_effects _ _ _)
  | frameError m link byte => exact happen_moves (lineByte_moves _ _ _ _) ht
  | frameTimeout m link => exact happen_moves (framerTimeout_moves _ _) ht
  | speedDemandTaken => exact happen_moves (wholeFrame_moves _ _ _ _ _ _) ht
  | driveStatusTaken => exact happen_moves (wholeFrame_moves _ _ _ _ _ _) ht
  | managementRequestTaken => exact happen_moves (wholeFrame_moves _ _ _ _ _ _) ht
  | passFrameTaken => exact happen_moves (wholeFrame_moves _ _ _ _ _ _) ht
  | dropFrameTaken => exact happen_moves (wholeFrame_moves _ _ _ _ _ _) ht
  | sampleTaken => exact happen_moves (wholeFrame_moves _ _ _ _ _ _) ht
  | transmitEnd => exact happen_moves (endSend_moves _ _) ht
  | controllerSilent => exact happen_moves (controllerSilences_moves _ _) ht
  | orphanStopRepeat => exact happen_moves (orphanRepeats_moves _ _) ht
  | driveSilent => exact happen_moves (driveSilences_moves _ _) ht
  | sensorLoss m => exact happen_moves (sensorLost_moves m _) ht
  | switchRawChange m sw =>
    unfold exec execSwitchRawChange at ht; dsimp only at ht; split at ht
    · cases ht; exact .single (.switch s sw _)
    · exact happen_moves (rawChange_moves _ _ _) ht
  | debounceExpiry => exact happen_moves (debounceExpires_moves _ _ _) ht
  | indexPulse m => exact happen_moves (indexPulse_moves m _) ht
  | indexLost m => exact happen_moves (indexLost_moves m _) ht
  | valveWindowEdge => exact happen_moves (fun u => .ofEffects (judgeValve_effects u)) ht
  | flowPulse => exact happen_moves (flowPulse_moves _ _) ht
  | flowTimeout => exact happen_moves (fun u => .ofEffects (flowTimesOut_effects _ u)) ht
  | flowTailExpiry => exact happen_moves (fun u => .ofEffects (tailExpires_effects u)) ht
  | bleedPeriod => exact happen_moves (bleeds_moves _) ht
  | monitorPeriodExpiry => exact happen_moves (monitorExpires_moves _) ht
  | read => exact happen_moves (fun u => execute_moves u fun r _ h => runRead_moves r h) ht
  | write m => exact happen_moves (fun u => execute_moves u fun r _ h => runWrite_moves m _ r h) ht
  | setBits => exact happen_moves (fun u => execute_moves u fun r _ h => runSetBits_moves r h) ht
  | clearBits => exact happen_moves (fun u => execute_moves u fun r _ h => runClearBits_moves r h) ht
  | acknowledgeIf => exact happen_moves (fun u => execute_moves u fun r _ h => runAcknowledge_moves r h) ht
  | transfer => exact happen_moves (fun u => execute_moves u fun r _ h => runTransfer_moves r h) ht
  | clearTrip m => exact happen_moves (fun u => execute_moves u fun r _ h => runClearTrip_moves m _ r h) ht
  | query => exact happen_moves (fun u => execute_moves u fun r _ h => runQuery_moves r h) ht
  | softReset m => exact happen_moves (fun u => execute_moves u fun r _ h => runSoftReset_moves m _ r h) ht
  | unknownOp => exact happen_moves (fun u => execute_moves u fun r _ h => runUnknown_moves r h) ht
  | byteReceived m link byte => exact happen_moves (lineByte_moves _ _ _ _) ht
  | resetNLow => cases ht; exact .single (.hold s rfl)

end Sys2Proof.Machine
end

section
/-! SUPPORT. The step, the queues and the framers, the latch and the settings: what the moves keep (R4, R12 to R16, R138,
R159, R164). -/

namespace Sys2Proof.Machine

open Sys2Proof.Safety

/-! ### The step -/

/-- Settles O1: by the definition of the step. -/
theorem stepTakesFront : Obligations.StepTakesFront := fun _ _ _ => ⟨rfl, rfl⟩

/-- No command stops the part. -/
theorem exec_total (c : Instr) (s : State) : ∃ t, exec c s = .next t := by
  cases c with
  | switchRawChange m sw =>
    unfold exec execSwitchRawChange; dsimp only; split <;> exact ⟨_, rfl⟩
  | _ => exact ⟨_, rfl⟩

theorem Move.pending {c : Instr} {s t : State} (h : Move c s t) : t.pending = s.pending := by
  cases h with
  | effect h => exact h.sameInputs.pending
  | framer link => cases link <;> rfl
  | switch sw => cases sw <;> rfl
  | stored => exact (storeWrite_same _ _ _ s).pending
  | orphaned => exact PortDFree.queueOrphan (P := fun u => u.pending = s.pending) ⟨fun _ _ h => h, fun _ _ _ h => h, by simp⟩ rfl
  | soft => unfold resumeTrip; split <;> rfl
  | freedD | joinedD | demandJoined => simp [freeD]
  | _ => rfl

/-- Settles O2: no move touches the queue of commands. -/
theorem execKeepsQueue : Obligations.ExecKeepsQueue := by
  intro c s
  obtain ⟨t, ht⟩ := exec_total c s
  exact ⟨t, ht, (exec_moves ht).keeps (P := fun u => u.pending = s.pending) (fun _ _ hm hu => hm.pending.trans hu) rfl⟩

/-- A step is a run of the front command's moves, or nothing. -/
theorem step_moves {s t : State} (h : step s = .next t) :
    t = s ∨ ∃ (c : Instr) (rest : List Instr), s.pending = c :: rest ∧ Moves c { s with pending := rest } t := by
  unfold step at h; split at h
  · cases h; exact .inl rfl
  · rename_i c rest hp
    exact .inr ⟨c, rest, hp, exec_moves h⟩

/-- What every move keeps, whatever the command and whatever commands wait, every step keeps. -/
theorem step_keeps {P : State → Prop} (hpending : ∀ (s : State) (q : List Instr), P s → P { s with pending := q })
    (hmove : ∀ (c : Instr) (s t : State), Move c s t → P s → P t) {s t : State} (h : step s = .next t) (hs : P s) :
    P t := by
  rcases step_moves h with rfl | ⟨c, rest, -, hmoves⟩
  · exact hs
  · exact hmoves.keeps (hmove c) (hpending s rest hs)

/-! ### The framers -/

theorem withFramer_sound {s : State} {link : Link} {f : Framer} (hs : framersSound s = true)
    (hf : framerSound f = true) : framersSound (s.withFramer link f) = true := by
  simp only [framersSound, Bool.and_eq_true] at hs ⊢
  obtain ⟨⟨hc, hd⟩, hS⟩ := hs
  cases link
  · exact ⟨⟨hf, hd⟩, hS⟩
  · exact ⟨⟨hc, hf⟩, hS⟩
  · exact ⟨⟨hc, hd⟩, hf⟩

theorem framer_sound {s : State} (hs : framersSound s = true) (link : Link) : framerSound (s.framer link) = true := by
  simp only [framersSound, Bool.and_eq_true] at hs
  obtain ⟨⟨hc, hd⟩, hS⟩ := hs
  cases link
  · exact hc
  · exact hd
  · exact hS

theorem framersSound_portDFree : PortDFree fun s => framersSound s = true where
  queue _ _ h := h
  sent _ _ _ h := h
  offer u h := by simpa [framersSound] using h

theorem Move.framersSound {c : Instr} {s t : State} (h : Move c s t) (hs : framersSound s = true) :
    framersSound t = true := by
  cases h with
  | effect h =>
    have hsame := h.sameInputs
    simpa [Safety.framersSound, hsame.framerC, hsame.framerD, hsame.framerS] using hs
  | framer link f hf => exact withFramer_sound hs (hf (framer_sound hs link))
  | switch sw => cases sw <;> exact hs
  | stored =>
    have hsame := storeWrite_same ‹Request›.object ‹Request›.index.toNat ‹Request›.words s
    simpa [Safety.framersSound, hsame.framerC, hsame.framerD, hsame.framerS] using hs
  | orphaned => exact framersSound_portDFree.queueOrphan hs
  | freedD | joinedD | demandJoined => exact framersSound_portDFree.kickD hs
  | soft => unfold resumeTrip; split <;> rfl
  | power | hold => rfl
  | _ => exact hs

/-- R4: a framer that holds what its phase says holds at most 29 bytes. -/
theorem stored_length_le {f : Framer} (h : framerSound f = true) : f.stored.length ≤ 30 := by
  unfold framerSound at h
  split at h <;> simp only [Bool.and_eq_true, decide_eq_true_eq, List.isEmpty_iff] at h
  · simp [h]
  all_goals omega

/-! ### The queues of Port C -/

/-- R12, R14 to R16: what the Port C transmit side keeps but for an idle port's empty queues. -/
structure PortC.Bounded (p : PortC) : Prop where
  forwarded : p.forwardedQ.length ≤ 8
  localQ : p.localQ.length ≤ 4
  oneStatus : (ofClass driveStatusClass p.forwardedQ).length ≤ 1

/-- R16: while Port C is idle nothing waits. -/
def PortC.IdleEmpty (p : PortC) : Prop := p.sending = none → p.forwardedQ = [] ∧ p.localQ = []

/-- R12, R14 to R16: what the Port C transmit side keeps. -/
def PortC.Sound (p : PortC) : Prop := p.Bounded ∧ p.IdleEmpty

theorem PortC.startNext_bounded {p : PortC} (h : p.Bounded) (now : Time) : (p.startNext now).Bounded := by
  obtain ⟨hforwarded, hlocal, hstatus⟩ := h
  rcases PortC.startNext_cases now p with ⟨-, -, heq⟩ | ⟨f, rest, hq, -, heq⟩ | ⟨f, rest, hq, -, heq⟩
  · rw [heq]; exact ⟨hforwarded, hlocal, hstatus⟩
  · rw [heq]; rw [hq, List.length_cons] at hlocal
    exact ⟨hforwarded, by simp only [PortC.send]; omega, hstatus⟩
  · rw [heq]; rw [hq, List.length_cons] at hforwarded
    refine ⟨by simp only [PortC.send]; omega, hlocal, le_trans ?_ hstatus⟩
    simp only [PortC.send, ofClass, hq]
    exact ((List.sublist_cons_self f rest).filter _).length_le

/-- R16, R18: a port that is idle after it has looked at its queues has nothing waiting. -/
theorem PortC.kick_sound {p : PortC} (h : p.Bounded) (now : Time) : (p.kick now).Sound := by
  unfold PortC.kick; split
  · refine ⟨PortC.startNext_bounded h now, fun hidle => ?_⟩
    rcases PortC.startNext_cases now p with ⟨hl, hf, heq⟩ | ⟨f, rest, -, -, heq⟩ | ⟨f, rest, -, -, heq⟩
    · rw [heq]; exact ⟨hf, hl⟩
    · rw [heq] at hidle; cases hidle
    · rw [heq] at hidle; cases hidle
  · rename_i hbusy
    exact ⟨h, fun hidle => absurd (by simp [hidle]) hbusy⟩

theorem PortC.offerLocal_bounded {p : PortC} (h : p.Bounded) (same : QFrame → Bool) (f : QFrame) :
    (p.offerLocal same f).Bounded := by
  obtain ⟨hforwarded, hlocal, hstatus⟩ := h
  have hkept := (PortC.offerLocal_kept same f p).1
  exact ⟨by rw [hkept]; exact hforwarded, PortC.offerLocal_length hlocal same f, by rw [hkept]; exact hstatus⟩

theorem latchKind_portC_sound {s : State} (h : s.portC.Sound) (k : Kind) : (latchKind k s).portC.Sound := by
  unfold latchKind; dsimp only; split
  · exact PortC.kick_sound (PortC.offerLocal_bounded h.1 _ _) _
  · exact h

theorem portCSound_portDFree : PortDFree fun s => s.portC.Sound where
  queue _ _ h := h
  sent _ _ _ h := h
  offer u h := by
    rcases offerLive_cases .governing (u.condition .governing) u with ⟨-, heq⟩ | ⟨-, heq⟩
    · rw [judgeLive, heq]; exact h
    · rw [judgeLive, heq]; split
      · exact latchKind_portC_sound (by exact h) _
      · exact h

/-- R16: the port stands so after a reset. -/
theorem PortC.reset_sound : PortC.reset.Sound :=
  ⟨⟨by decide, by decide, by decide⟩, fun _ => ⟨rfl, rfl⟩⟩

theorem Effect.portCSound {s t : State} (h : Effect s t) (hs : s.portC.Sound) : t.portC.Sound := by
  cases h with
  | latch k => exact latchKind_portC_sound hs k
  | report => exact PortC.kick_sound (PortC.offerLocal_bounded hs.1 _ _) _
  | compose => exact portCSound_portDFree.recompose (fun _ _ h => h) hs
  | restate => exact portCSound_portDFree.queueRestated hs
  | _ => exact hs

theorem ofClass_append (c : Class) (q r : List QFrame) : ofClass c (q ++ r) = ofClass c q ++ ofClass c r :=
  List.filter_append ..

theorem ofClass_length_le (c : Class) (q : List QFrame) : (ofClass c q).length ≤ q.length := List.length_filter_le ..

/-- R12: a frame replaced by any other leaves no more of its class. -/
theorem ofClass_replaceFirst_le (c : Class) (f : QFrame) (q : List QFrame) :
    (ofClass c (replaceFirst (fun g => g.cls == c) f q)).length ≤ (ofClass c q).length := by
  induction q with
  | nil => rfl
  | cons g q ih =>
    by_cases hg : g.cls = c
    · simp only [replaceFirst, hg, beq_self_eq_true, if_true, ofClass, List.filter_cons]
      split <;> simp
    · simp only [replaceFirst, hg, beq_iff_eq, if_false, ofClass, List.filter_cons] at ih ⊢
      simpa [ofClass] using ih

theorem Move.portCSound {c : Instr} {s t : State} (h : Move c s t) (hs : s.portC.Sound) : t.portC.Sound := by
  obtain ⟨⟨hforwarded, hlocal, hstatus⟩, hidle⟩ := id hs
  cases h with
  | effect h => exact h.portCSound hs
  | overflow => exact latchKind_portC_sound hs _
  | framer link => cases link <;> exact hs
  | switch sw => cases sw <;> exact hs
  | stored => rw [(storeWrite_same _ _ _ s).portC]; exact hs
  | response r status data hroom =>
    apply PortC.kick_sound
    refine ⟨hforwarded, ?_, hstatus⟩
    simp only [List.length_append, List.length_cons, List.length_nil]
    exact hroom
  | freedC => dsimp only; apply PortC.kick_sound; exact ⟨hforwarded, hlocal, hstatus⟩
  | replacedC f =>
    refine ⟨⟨by simpa using hforwarded, hlocal, (ofClass_replaceFirst_le _ _ _).trans hstatus⟩, fun hnone => ?_⟩
    obtain ⟨hf, hl⟩ := hidle hnone
    exact ⟨by simp [hf, replaceFirst], hl⟩
  | joinedC f hroom hone =>
    dsimp only
    apply PortC.kick_sound
    refine ⟨?_, hlocal, ?_⟩
    · simp only [List.length_append, List.length_cons, List.length_nil]
      exact hroom
    · by_cases hf : f.cls = driveStatusClass
      · have hnone : ofClass driveStatusClass s.portC.forwardedQ = [] := by simpa [ofClass] using hone hf
        rw [ofClass_append, hnone]
        exact ofClass_length_le _ [f]
      · have hnone : ofClass driveStatusClass [f] = [] := by simp [ofClass, hf]
        simpa [ofClass_append, hnone] using hstatus
  | orphaned => exact portCSound_portDFree.queueOrphan hs
  | freedD | joinedD | demandJoined => exact portCSound_portDFree.kickD hs
  | soft => unfold resumeTrip; split <;> exact PortC.reset_sound
  | power | hold => exact PortC.reset_sound
  | _ => exact hs

/-! ### The queues of Port D -/

/-- R12, R13, R22, R24: what the Port D transmit side keeps but for an idle port's empty queues. -/
structure PortD.Bounded (p : PortD) : Prop where
  forwarded : p.forwardedQ.length ≤ 8
  localQ : p.localQ.length ≤ 4
  oneDemand : (ofClass speedDemandClass p.forwardedQ).length + (ofClass speedDemandClass p.localQ).length ≤ 1
  localRestated : ∀ f ∈ p.localQ, f.cls = speedDemandClass ∧ f.restated = true
  forwardedPlain : ∀ f ∈ p.forwardedQ, f.restated = false

/-- R16: while Port D is idle nothing waits. -/
def PortD.IdleEmpty (p : PortD) : Prop := p.sending = none → p.forwardedQ = [] ∧ p.localQ = []

/-- R12, R13, R16, R22, R24: what the Port D transmit side keeps. -/
def PortD.Sound (p : PortD) : Prop := p.Bounded ∧ p.IdleEmpty

/-- R17: Port D after the arbiter's pick stands on the queues that are left, or nothing waited. -/
theorem startD_portD (s : State) :
    ((startD s).portD = s.portD ∧ s.portD.localQ = [] ∧ s.portD.forwardedQ = []) ∨
      ((startD s).portD.sending ≠ none ∧ (startD s).portD.localQ = s.portD.localQ.tail ∧
        (startD s).portD.forwardedQ = if s.portD.localQ = [] then s.portD.forwardedQ.tail else s.portD.forwardedQ) := by
  cases hp : s.portD.pick with
  | none =>
    left
    rw [startD_nothing hp]
    unfold PortD.pick at hp; split at hp
    · cases hp
    · cases hp
    · exact ⟨rfl, ‹_›, ‹_›⟩
  | some fp =>
    obtain ⟨f, p⟩ := fp
    refine .inr ⟨?_, startD_queues s⟩
    by_cases hc : f.cls = speedDemandClass
    · simp [startD_demand hp hc, PortD.send]
    · simp [startD_plain hp hc, PortD.send]

/-- R12: a class counts no more in what is left of a queue. -/
theorem ofClass_tail_le (c : Class) (q : List QFrame) : (ofClass c q.tail).length ≤ (ofClass c q).length :=
  ((List.tail_sublist q).filter _).length_le

theorem startD_bounded {s : State} (h : s.portD.Bounded) : (startD s).portD.Bounded := by
  obtain ⟨hforwarded, hlocal, hdemand, hrestated, hplain⟩ := h
  rcases startD_portD s with ⟨heq, -, -⟩ | ⟨-, hl, hf⟩
  · rw [heq]; exact ⟨hforwarded, hlocal, hdemand, hrestated, hplain⟩
  · have hltail := ofClass_tail_le speedDemandClass s.portD.localQ
    have hftail := ofClass_tail_le speedDemandClass s.portD.forwardedQ
    refine ⟨?_, ?_, ?_, ?_, ?_⟩
    · rw [hf]; split
      · rw [List.length_tail]; omega
      · exact hforwarded
    · rw [hl, List.length_tail]; omega
    · rw [hl, hf]; split <;> omega
    · rw [hl]; exact fun f hmem => hrestated f (List.mem_of_mem_tail hmem)
    · rw [hf]; split
      · exact fun f hmem => hplain f (List.mem_of_mem_tail hmem)
      · exact hplain

/-- R16, R17: a port that is idle after it has looked at its queues has nothing waiting. -/
theorem kickD_sound {s : State} (h : s.portD.Bounded) : (kickD s).portD.Sound := by
  unfold kickD; split
  · refine ⟨startD_bounded h, fun hidle => ?_⟩
    rcases startD_portD s with ⟨heq, hl, hf⟩ | ⟨hbusy, -, -⟩
    · rw [heq]; exact ⟨hf, hl⟩
    · exact absurd hidle hbusy
  · rename_i hbusy
    exact ⟨h, fun hidle => absurd (by simp [hidle]) hbusy⟩

/-- R13, R22: a local queue that holds restated demands alone is empty while no SPEED DEMAND waits in it. -/
theorem PortD.Bounded.localQ_eq_nil {p : PortD} (h : p.Bounded) (hnone : ofClass speedDemandClass p.localQ = []) :
    p.localQ = [] := by
  have hall : ofClass speedDemandClass p.localQ = p.localQ :=
    List.filter_eq_self.mpr fun f hf => by simp [(h.localRestated f hf).1]
  rw [← hall, hnone]

/-- R13, R22: a local queue that holds restated demands alone is empty once these are removed. -/
theorem PortD.Bounded.filter_localQ {p : PortD} (h : p.Bounded) : (p.localQ.filter fun g => !g.restated) = [] :=
  List.filter_eq_nil_iff.mpr fun f hf => by simp [(h.localRestated f hf).2]

theorem queueRestated_sound {s : State} (h : s.portD.Sound) : (queueRestated s).portD.Sound := by
  unfold queueRestated; split
  · exact h
  · rename_i hnone
    simp only [PortD.demandWaits, Bool.or_eq_true, not_or, List.any_eq_true, not_exists, not_and, beq_iff_eq] at hnone
    have hf : ofClass speedDemandClass s.portD.forwardedQ = [] := by simpa [ofClass] using hnone.1
    have hl : s.portD.localQ = [] := h.1.localQ_eq_nil (by simpa [ofClass] using hnone.2)
    refine kickD_sound ⟨h.1.forwarded, ?_, ?_, ?_, h.1.forwardedPlain⟩
    · simp [hl]
    · dsimp only
      rw [hf, hl]; exact (Nat.zero_add _).trans_le (ofClass_length_le _ [_])
    · simp [hl, Standing.restatement]

theorem queueOrphan_sound {s : State} (h : s.portD.Sound) : (queueOrphan s).portD.Sound := by
  obtain ⟨⟨hforwarded, hlocal, hdemand, hrestated, hplain⟩, hidle⟩ := id h
  have hflen := List.length_filter_le (fun f : QFrame => f.cls != speedDemandClass) s.portD.forwardedQ
  have hfnone : ofClass speedDemandClass (s.portD.forwardedQ.filter fun f => f.cls != speedDemandClass) = [] := by
    simp [ofClass, List.filter_filter]
  have hfplain : ∀ f ∈ s.portD.forwardedQ.filter (fun f => f.cls != speedDemandClass), f.restated = false :=
    fun f hf => hplain f (List.mem_of_mem_filter hf)
  have hall : ∀ q : List QFrame, (∀ f ∈ q, f.cls = speedDemandClass ∧ f.restated = true) →
      ofClass speedDemandClass q = q := fun q hq => List.filter_eq_self.mpr fun f hf => by simp [(hq f hf).1]
  unfold queueOrphan; dsimp only; split
  · have hnew : ∀ f ∈ replaceFirst (fun f => f.restated) (orphanFrame s.spin.downRamp) s.portD.localQ,
        f.cls = speedDemandClass ∧ f.restated = true := by
      intro f hf
      rcases mem_replaceFirst hf with rfl | hf
      · exact ⟨rfl, rfl⟩
      · exact hrestated f hf
    refine ⟨⟨hflen.trans hforwarded, by simpa using hlocal, ?_, hnew, hfplain⟩, fun hnone => ?_⟩
    · dsimp only
      rw [hfnone, hall _ hnew, replaceFirst_length, ← hall _ hrestated]
      simp only [List.length_nil]; omega
    · obtain ⟨hf, hl⟩ := hidle hnone
      simp [hf, hl, replaceFirst]
  · rename_i hnone
    have hl : s.portD.localQ = [] := by
      rcases hq : s.portD.localQ with _ | ⟨f, rest⟩
      · rfl
      · rw [hq] at hnone hrestated
        simp [(hrestated f (by simp)).2] at hnone
    refine kickD_sound ⟨hflen.trans hforwarded, by simp [hl], ?_, ?_, hfplain⟩
    · dsimp only
      rw [hfnone]; simp [hl, ofClass, orphanFrame]
    · simp [hl, orphanFrame]

theorem Effect.portDSound {s t : State} (h : Effect s t) (hs : s.portD.Sound) : t.portD.Sound := by
  cases h with
  | compose =>
    unfold recompose; dsimp only; split
    · exact queueRestated_sound (by exact hs)
    · exact hs
  | restate => exact queueRestated_sound hs
  | _ => exact hs

theorem PortD.reset_sound : PortD.reset.Sound :=
  ⟨⟨by decide, by decide, by decide, by decide, by decide⟩, fun _ => ⟨rfl, rfl⟩⟩

theorem Move.portDSound {c : Instr} {s t : State} (h : Move c s t) (hs : s.portD.Sound) : t.portD.Sound := by
  obtain ⟨⟨hforwarded, hlocal, hdemand, hrestated, hplain⟩, hidle⟩ := id hs
  cases h with
  | effect h => exact h.portDSound hs
  | framer link => cases link <;> exact hs
  | switch sw => cases sw <;> exact hs
  | stored => rw [(storeWrite_same _ _ _ s).portD]; exact hs
  | occupiedD => exact ⟨⟨hforwarded, hlocal, hdemand, hrestated, hplain⟩, nofun⟩
  | freedD => exact kickD_sound ⟨hforwarded, hlocal, hdemand, hrestated, hplain⟩
  | joinedD f hroom hcls hf =>
    refine kickD_sound ⟨?_, hlocal, ?_, hrestated, ?_⟩
    · rw [List.length_append]; exact hroom
    · have hnone : ofClass speedDemandClass [f] = [] := by simp [ofClass, hcls]
      simpa [ofClass_append, hnone] using hdemand
    · simpa [or_imp, forall_and, hf] using hplain
  | demandReplaced f hcls hf hone =>
    have hl : (s.portD.localQ.filter fun g => !g.restated) = [] := hs.1.filter_localQ
    refine ⟨⟨by simpa using hforwarded, by simp [hl], ?_, by simp [hl], fun g hg => ?_⟩, fun hnone => ?_⟩
    · have hcount := ofClass_replaceFirst_le speedDemandClass f s.portD.forwardedQ
      simp only [hl, ofClass, List.filter_nil, List.length_nil] at hcount ⊢
      simp only [ofClass] at hdemand; omega
    · rcases mem_replaceFirst hg with rfl | hg
      · exact hf
      · exact hplain g hg
    · simp [(hidle hnone).1] at hone
  | demandJoined f hcls hf hone hroom =>
    have hl : (s.portD.localQ.filter fun g => !g.restated) = [] := hs.1.filter_localQ
    have hnone : ofClass speedDemandClass s.portD.forwardedQ = [] := by simpa [ofClass] using hone
    refine kickD_sound ⟨by rw [List.length_append]; exact hroom, by simp [hl], ?_, by simp [hl], ?_⟩
    · dsimp only
      rw [hl, ofClass_append, hnone]; exact ofClass_length_le _ [f]
    · simpa [or_imp, forall_and, hf] using hplain
  | orphaned => exact queueOrphan_sound hs
  | soft => unfold resumeTrip; split <;> exact PortD.reset_sound
  | power | hold => exact PortD.reset_sound
  | _ => exact hs

/-! ### The request queue -/

theorem requests_portDFree : PortDFree fun s => s.requests.length ≤ 2 where
  queue _ _ h := h
  sent _ _ _ h := h
  offer u h := by simpa using h

theorem Move.requestsBounded {c : Instr} {s t : State} (h : Move c s t) (hs : s.requests.length ≤ 2) :
    t.requests.length ≤ 2 := by
  cases h with
  | effect h => rw [h.sameInputs.requests]; exact hs
  | framer link => cases link <;> exact hs
  | switch sw => cases sw <;> exact hs
  | requests q hq => exact hq hs
  | stored => rw [(storeWrite_same _ _ _ s).requests]; exact hs
  | orphaned => exact requests_portDFree.queueOrphan hs
  | freedD | joinedD | demandJoined => exact requests_portDFree.kickD hs
  | soft => unfold resumeTrip; split <;> exact Nat.zero_le _
  | power | hold => exact Nat.zero_le _
  | _ => exact hs

/-! ### The queues together -/

/-- R12 to R16, R159: the tests of the queues, port by port. -/
theorem queuesSound_iff (s : State) :
    (queuesBounded s = true ∧ oneDemand s = true ∧ oneStatus s = true ∧ idleEmpty s = true) ↔
      s.portC.Sound ∧ s.portD.Sound ∧ s.requests.length ≤ 2 := by
  have hidle : ∀ (snd : Option Sending) (q r : List QFrame),
      (snd.isSome || (q.isEmpty && r.isEmpty)) = true ↔ (snd = none → q = [] ∧ r = []) := by
    intro snd q r; cases snd <;> simp
  constructor
  · rintro ⟨hbounded, hdemand, hstatus, hempty⟩
    simp only [queuesBounded, Bool.and_eq_true, decide_eq_true_eq] at hbounded
    simp only [Safety.oneDemand, Bool.and_eq_true, decide_eq_true_eq, List.all_eq_true, beq_iff_eq,
      Bool.not_eq_true'] at hdemand
    simp only [Safety.oneStatus, decide_eq_true_eq] at hstatus
    simp only [idleEmpty, Bool.and_eq_true (_ || _), hidle] at hempty
    obtain ⟨⟨⟨⟨hcf, hcl⟩, hdf⟩, hdl⟩, hreq⟩ := hbounded
    obtain ⟨⟨hone, hrestated⟩, hplain⟩ := hdemand
    exact ⟨⟨⟨hcf, hcl, hstatus⟩, hempty.1⟩, ⟨⟨hdf, hdl, hone, hrestated, hplain⟩, hempty.2⟩, hreq⟩
  · rintro ⟨⟨⟨hcf, hcl, hstatus⟩, hc⟩, ⟨⟨hdf, hdl, hone, hrestated, hplain⟩, hd⟩, hreq⟩
    refine ⟨?_, ?_, ?_, ?_⟩
    · simp only [queuesBounded, Bool.and_eq_true, decide_eq_true_eq]
      exact ⟨⟨⟨⟨hcf, hcl⟩, hdf⟩, hdl⟩, hreq⟩
    · simp only [Safety.oneDemand, Bool.and_eq_true, decide_eq_true_eq, List.all_eq_true, beq_iff_eq,
        Bool.not_eq_true']
      exact ⟨⟨hone, hrestated⟩, hplain⟩
    · simpa [Safety.oneStatus] using hstatus
    · simp only [idleEmpty, Bool.and_eq_true (_ || _), hidle]
      exact ⟨hc, hd⟩

/-- Settles O53: each move keeps the framers, and the transmit side of each port with the request queue. -/
theorem framersAndQueuesKept : Obligations.FramersAndQueuesKept := by
  refine ⟨fun s t hs hstep => ?_, fun s t hbounded hdemand hstatus hidle hstep => ?_⟩
  · have ht : framersSound t = true :=
      step_keeps (P := fun u => framersSound u = true) (fun _ _ h => h) (fun _ _ _ => Move.framersSound) hstep hs
    exact ⟨ht, fun link => stored_length_le (framer_sound ht link)⟩
  · obtain ⟨hC, hD, hR⟩ := (queuesSound_iff s).mp ⟨hbounded, hdemand, hstatus, hidle⟩
    exact (queuesSound_iff t).mpr
      ⟨step_keeps (P := fun u => u.portC.Sound) (fun _ _ h => h) (fun _ _ _ => Move.portCSound) hstep hC,
        step_keeps (P := fun u => u.portD.Sound) (fun _ _ h => h) (fun _ _ _ => Move.portDSound) hstep hD,
        step_keeps (P := fun u => u.requests.length ≤ 2) (fun _ _ h => h) (fun _ _ _ => Move.requestsBounded) hstep hR⟩

end Sys2Proof.Machine
end

section
/-! SUPPORT. The trip latch and the settings: what the moves of a command keep (R8, R33, R87, R94, R138, R143, R145). -/

namespace Sys2Proof.Machine

open Sys2Proof.Safety

/-! ### The trip latch -/

/-- R138, R143: the latch of `s` is set in `t` too, with its record, and its causes are among those of `t`. -/
structure LatchStands (s t : State) : Prop where
  latch : t.trip.latch = true
  first : t.trip.first = s.trip.first
  speed : t.trip.speed = s.trip.speed
  source : t.trip.source = s.trip.source
  u : t.trip.u = s.trip.u
  causes : ∀ x, s.trip.causes.has x = true → t.trip.causes.has x = true

/-- R143: a cause added leaves those of the set. -/
theorem CauseSet.has_add {cs : CauseSet} {x : Cause} (c : Cause) (h : cs.has x = true) : (cs.add c).has x = true := by
  cases c <;> cases x <;> first | exact h | rfl

/-- R143: a cause added is of the set. -/
theorem CauseSet.has_add_self (cs : CauseSet) (c : Cause) : (cs.add c).has c = true := by cases c <;> rfl

theorem LatchStands.of_trip_eq {s t u : State} (h : LatchStands s t) (heq : u.trip = t.trip) : LatchStands s u := by
  obtain ⟨hlatch, hfirst, hspeed, hsource, hu, hcauses⟩ := h
  constructor <;> rw [heq] <;> assumption

theorem latchStands_portDFree (s : State) : PortDFree (LatchStands s) where
  queue _ _ h := h.of_trip_eq rfl
  sent _ _ _ h := h.of_trip_eq rfl
  offer u h := h.of_trip_eq (by simp)

/-- R142, R143: no shared effect takes a set latch or its record back. -/
theorem Effect.latchStands {s t u : State} (h : Effect t u) (hs : LatchStands s t) : LatchStands s u := by
  cases h with
  | trip c hclear => rw [hs.latch] at hclear; cases hclear
  | cause c =>
    obtain ⟨hlatch, hfirst, hspeed, hsource, hu, hcauses⟩ := hs
    exact ⟨hlatch, hfirst, hspeed, hsource, hu, fun x hx => CauseSet.has_add c (hcauses x hx)⟩
  | compose => exact (latchStands_portDFree s).recompose (fun _ _ h => h.of_trip_eq rfl) hs
  | restate => exact (latchStands_portDFree s).queueRestated hs
  | _ => exact hs.of_trip_eq rfl

theorem Move.latchStands {c : Instr} {s t u : State} (hclear : ∀ m, c ≠ .clearTrip m) (hpower : c ≠ .powerOnReset)
    (hlow : c ≠ .resetNLow) (h : Move c t u) (hs : LatchStands s t) : LatchStands s u := by
  cases h with
  | effect h => exact h.latchStands hs
  | framer link => cases link <;> exact hs.of_trip_eq rfl
  | switch sw => cases sw <;> exact hs.of_trip_eq rfl
  | stored => exact hs.of_trip_eq (storeWrite_same _ _ _ t).trip
  | orphaned => exact (latchStands_portDFree s).queueOrphan hs
  | freedD | joinedD | demandJoined => exact hs.of_trip_eq (by simp [freeD])
  | cleared m hc => exact absurd hc (hclear m)
  | soft =>
    obtain ⟨hlatch, hfirst, hspeed, hsource, hu, hcauses⟩ := hs
    unfold resumeTrip; split <;> exact ⟨hlatch, hfirst, hspeed, hsource, hu, hcauses⟩
  | power hc => exact absurd hc hpower
  | hold hc => exact absurd hc hlow
  | _ => exact hs.of_trip_eq rfl

/-- Settles O56: no move of the other commands takes a set latch or its record back. -/
theorem latchOutlasts : Obligations.LatchOutlasts := by
  intro c s t hlatch hexec hpower hlow hclear
  obtain ⟨hlatch', hfirst, hspeed, hsource, hu, hcauses⟩ : LatchStands s t :=
    (exec_moves hexec).keeps (fun _ _ => Move.latchStands hclear hpower hlow)
      ⟨hlatch, rfl, rfl, rfl, rfl, fun _ h => h⟩
  exact ⟨hlatch', hfirst, hspeed, hsource, hu, hcauses⟩

/-! ### The settings -/

/-- R8, R33, R87, R94, R140: what a WRITE alone can change. -/
structure SameSettings (s t : State) : Prop where
  classTable : t.classTable = s.classTable
  tables : t.tables = s.tables
  spin : t.spin = s.spin
  service : t.service = s.service
  limits : t.limits = s.limits

theorem SameSettings.refl (s : State) : SameSettings s s := ⟨rfl, rfl, rfl, rfl, rfl⟩

theorem SameSettings.trans {s t u : State} (h : SameSettings s t) (h' : SameSettings t u) : SameSettings s u :=
  ⟨h'.classTable.trans h.classTable, h'.tables.trans h.tables, h'.spin.trans h.spin, h'.service.trans h.service,
    h'.limits.trans h.limits⟩

theorem sameSettings_portDFree (s : State) : PortDFree (SameSettings s) where
  queue _ _ h := ⟨h.classTable, h.tables, h.spin, h.service, h.limits⟩
  sent _ _ _ h := ⟨h.classTable, h.tables, h.spin, h.service, h.limits⟩
  offer u h := h.trans (by constructor <;> simp)

theorem Move.sameSettings {c : Instr} {s t : State} (hwrite : ∀ m, c ≠ .write m) (hpower : c ≠ .powerOnReset)
    (hlow : c ≠ .resetNLow) (h : Move c s t) : SameSettings s t := by
  cases h with
  | effect h =>
    have hsame := h.sameInputs
    exact ⟨hsame.classTable, hsame.tables, hsame.spin, hsame.service, hsame.limits⟩
  | framer link => cases link <;> exact ⟨rfl, rfl, rfl, rfl, rfl⟩
  | switch sw => cases sw <;> exact ⟨rfl, rfl, rfl, rfl, rfl⟩
  | stored m _ hc => exact absurd hc (hwrite m)
  | orphaned => exact (sameSettings_portDFree s).queueOrphan (.refl s)
  | freedD | joinedD | demandJoined => constructor <;> simp [freeD]
  | soft => unfold resumeTrip; split <;> exact ⟨rfl, rfl, rfl, rfl, rfl⟩
  | power hc => exact absurd hc hpower
  | hold hc => exact absurd hc hlow
  | _ => exact ⟨rfl, rfl, rfl, rfl, rfl⟩

/-- A run of moves of a command that is neither a WRITE nor a power-on reset leaves the settings. -/
theorem Moves.sameSettings {c : Instr} {s t : State} (hwrite : ∀ m, c ≠ .write m) (hpower : c ≠ .powerOnReset)
    (hlow : c ≠ .resetNLow) (h : Moves c s t) : SameSettings s t :=
  h.keeps (P := SameSettings s) (fun _ _ hm hs => hs.trans (hm.sameSettings hwrite hpower hlow)) (.refl s)

/-- R164: what an accepted write brings about leaves what it stored. -/
theorem writeEffects_sameSettings (ch : Choice) (obj : Byte) (idx n : Nat) (s : State) :
    SameSettings s (writeEffects ch obj idx n s) :=
  (writeEffects_moves (.read ⟨0, ch⟩) ch obj idx n s).sameSettings (by simp) (by simp) (by simp)

/-! ### What a write stores -/

/-- R164: the objects of the tables and of the spin settings are written in IDLE alone. -/
theorem StoreStep.tables_spin {obj : Byte} {i : Nat} {w : Word} {s t : State} (h : StoreStep obj i w s t)
    (hobj : idleOnly obj = false) : t.tables = s.tables ∧ t.spin = s.spin := by
  cases h with
  | service => unfold storeService; split <;> exact ⟨rfl, rfl⟩
  | limit => unfold storeLimit; split <;> exact ⟨rfl, rfl⟩
  | classTable | contents | nothing => exact ⟨rfl, rfl⟩
  | _ h => subst h; simp [idleOnly] at hobj

theorem storeElements_tables_spin {obj : Byte} (hobj : idleOnly obj = false) (i : Nat) (ws : List Word) (s : State) :
    (storeElements obj i ws s).tables = s.tables ∧ (storeElements obj i ws s).spin = s.spin := by
  induction ws generalizing i s with
  | nil => exact ⟨rfl, rfl⟩
  | cons w ws ih =>
    obtain ⟨htables, hspin⟩ := (storeElement_step obj i w s).tables_spin hobj
    obtain ⟨htables', hspin'⟩ := ih (i + 1) (storeElement obj i w s)
    exact ⟨htables'.trans htables, hspin'.trans hspin⟩

/-- R74, R121: the clamps after a write touch the spin settings and the contents, and those for object 0x20 alone. -/
theorem storeWrite_eq_storeElements {obj : Byte} (hobj : obj ≠ 0x20) (idx : Nat) (ws : List Word) (s : State) :
    storeWrite obj idx ws s = storeElements obj idx ws s := by
  unfold storeWrite capFix weighFix
  rw [if_neg fun h => hobj h.1, if_neg fun h => hobj h.1]

theorem storeWrite_tables_spin {obj : Byte} (hobj : idleOnly obj = false) (idx : Nat) (ws : List Word) (s : State) :
    (storeWrite obj idx ws s).tables = s.tables ∧ (storeWrite obj idx ws s).spin = s.spin := by
  rw [storeWrite_eq_storeElements (by rintro rfl; simp [idleOnly] at hobj)]
  exact storeElements_tables_spin hobj idx ws s

/-- R87, R140: a write of object 0x30 that does not address a limit leaves it, and no other write does. -/
theorem StoreStep.limits {obj : Byte} {i : Nat} {w : Word} {s t : State} (h : StoreStep obj i w s t) :
    (¬(obj = 0x30 ∧ i = 0) → t.limits.abs = s.limits.abs) ∧ (¬(obj = 0x30 ∧ i = 1) → t.limits.mass = s.limits.mass) := by
  cases h with
  | service => unfold storeService; split <;> exact ⟨fun _ => rfl, fun _ => rfl⟩
  | limit h =>
    unfold storeLimit; split
    · exact ⟨fun hne => absurd ⟨h, rfl⟩ hne, fun _ => rfl⟩
    · exact ⟨fun _ => rfl, fun hne => absurd ⟨h, rfl⟩ hne⟩
    · exact ⟨fun _ => rfl, fun _ => rfl⟩
  | _ => exact ⟨fun _ => rfl, fun _ => rfl⟩

theorem storeElements_limits (obj : Byte) (i : Nat) (ws : List Word) (s : State) :
    (¬(obj = 0x30 ∧ touches i ws.length 0 = true) → (storeElements obj i ws s).limits.abs = s.limits.abs) ∧
      (¬(obj = 0x30 ∧ touches i ws.length 1 = true) → (storeElements obj i ws s).limits.mass = s.limits.mass) := by
  induction ws generalizing i s with
  | nil => exact ⟨fun _ => rfl, fun _ => rfl⟩
  | cons w ws ih =>
    obtain ⟨habs, hmass⟩ := (storeElement_step obj i w s).limits
    obtain ⟨habs', hmass'⟩ := ih (i + 1) (storeElement obj i w s)
    have hstep : ∀ e, ¬(obj = 0x30 ∧ touches i (w :: ws).length e = true) →
        ¬(obj = 0x30 ∧ i = e) ∧ ¬(obj = 0x30 ∧ touches (i + 1) ws.length e = true) := by
      intro e hne
      simp only [touches, List.length_cons, Bool.and_eq_true, decide_eq_true_eq] at hne ⊢
      constructor <;> rintro ⟨hobj, hi⟩ <;> exact hne ⟨hobj, by omega⟩
    exact ⟨fun hne => (habs' (hstep 0 hne).2).trans (habs (hstep 0 hne).1),
      fun hne => (hmass' (hstep 1 hne).2).trans (hmass (hstep 1 hne).1)⟩

theorem storeWrite_limits (obj : Byte) (idx : Nat) (ws : List Word) (s : State) :
    (storeWrite obj idx ws s).limits = (storeElements obj idx ws s).limits := by
  unfold storeWrite capFix weighFix; (repeat' split) <;> rfl

/-! ### A WRITE -/

/-- R164: what an accepted WRITE satisfies: it is not of an object of IDLE outside IDLE, and of no limit that is set. -/
theorem writeFailure_none {r : Request} {s : State} (h : writeFailure r s = none) :
    (idleOnly r.object = true → s.session.state = .idle) ∧
      limitLocked s r.object r.index.toNat r.words.length = false := by
  unfold writeFailure at h; split at h
  · cases h
  · dsimp only at h
    split_ifs at h with hlen hindex hread hbusy hlock
    refine ⟨fun hidle => ?_, by simpa using hlock⟩
    simpa [hidle] using hbusy

/-- R164: an accepted WRITE ends with the settings as it stored them. -/
theorem runAccepted_sameSettings (ch : Choice) (r : Request) (s : State) :
    SameSettings (storeWrite r.object r.index.toNat r.words s) (runAccepted ch r s) := by
  have hanswered : ∀ (u : State) (status : Byte) (data : List Word), SameSettings u (respond r status data u) :=
    fun _ _ _ => ⟨rfl, rfl, rfl, rfl, rfl⟩
  exact (hanswered _ _ _).trans (writeEffects_sameSettings ch _ _ _ _)

/-- R87, R140, R164: what a WRITE leaves of the settings: the tables and the spin settings outside IDLE, and a limit that
is set. -/
theorem runWrite_settings (ch : Choice) (r : Request) (s : State) :
    (s.session.state ≠ .idle → (runWrite ch r s).tables = s.tables ∧ (runWrite ch r s).spin = s.spin) ∧
      (s.limits.abs.isSome = true → (runWrite ch r s).limits.abs = s.limits.abs) ∧
      (s.limits.mass.isSome = true → (runWrite ch r s).limits.mass = s.limits.mass) := by
  unfold runWrite; split
  · exact ⟨fun _ => ⟨rfl, rfl⟩, fun _ => rfl, fun _ => rfl⟩
  · rename_i hok
    obtain ⟨hidle, hlock⟩ := writeFailure_none hok
    have hend := runAccepted_sameSettings ch r s
    obtain ⟨habs, hmass⟩ := storeElements_limits r.object r.index.toNat r.words s
    simp only [limitLocked, Bool.and_eq_false_iff, Bool.or_eq_false_iff, beq_eq_false_iff_ne] at hlock
    rw [hend.tables, hend.spin, hend.limits, storeWrite_limits]
    refine ⟨fun hne => ?_, fun hset => habs ?_, fun hset => hmass ?_⟩
    · exact storeWrite_tables_spin (by simpa using mt hidle hne) _ _ _
    · rintro ⟨hobj, htouch⟩
      simp [hobj, htouch, hset] at hlock
    · rintro ⟨hobj, htouch⟩
      simp [hobj, htouch, hset] at hlock

/-- Settles O60: no move but a store touches the settings, and a WRITE stores as `runWrite_settings` says. -/
theorem settingsStand : Obligations.SettingsStand := by
  intro c s t hexec hpower hlow
  by_cases hwrite : ∀ m, c ≠ .write m
  · obtain ⟨hclass, htables, hspin, hservice, hlimits⟩ := (exec_moves hexec).sameSettings hwrite hpower hlow
    rw [hclass, htables, hspin, hservice, hlimits]
    exact ⟨fun _ => ⟨rfl, rfl⟩, fun _ => ⟨rfl, rfl, rfl⟩, fun _ h => h, fun _ h => h⟩
  · obtain ⟨m, rfl⟩ : ∃ m, c = .write m := by simpa using hwrite
    have hsettings : (s.session.state ≠ .idle → t.tables = s.tables ∧ t.spin = s.spin) ∧
        (s.limits.abs.isSome = true → t.limits.abs = s.limits.abs) ∧
        (s.limits.mass.isSome = true → t.limits.mass = s.limits.mass) := by
      cases hheld : s.held with
      | true => cases (happen_held hheld m _).symm.trans hexec; simp
      | false =>
        cases (happen_live hheld m _).symm.trans hexec
        rcases execute_cases (· == 2) (runWrite m.choice) (tick m s) with heq | ⟨r, rest, -, -, -, heq⟩
        · rw [heq]; simp
        · rw [heq]; simpa using runWrite_settings m.choice r { tick m s with requests := rest }
    obtain ⟨hidle, habs, hmass⟩ := hsettings
    exact ⟨fun h => hidle (h.resolve_left hwrite), fun h => absurd h hwrite, fun a ha => (habs (by simp [ha])).trans ha,
      fun a ha => (hmass (by simp [ha])).trans ha⟩

end Sys2Proof.Machine
end

section
/-! SUPPORT. The ranges: what a write stores, and that every move keeps the settings, the tables, the limits, the contents,
the counter and the records in their ranges (R10, R11, R21, R33, R74, R77, R87, R92, R94, R121, R156). -/

namespace Sys2Proof.Machine

open Sys2Proof.Safety

/-! ### The spin settings as a list -/

/-- Table 10-3: a spin setting stored is its element of the list stored. -/
theorem SpinSettings.list_set (p : SpinSettings) (i v : Nat) : (p.set i v).list = p.list.set i v := by
  unfold SpinSettings.set
  split
  case h_22 =>
    refine (List.set_eq_of_length_le ?_).symm
    refine Nat.le_of_not_lt fun hlt => ?_
    change i < 21 at hlt
    interval_cases i <;> contradiction
  all_goals rfl

@[simp] theorem SpinSettings.list_length (p : SpinSettings) : p.list.length = 21 := rfl

/-- R164: the value of an element of object 0x20 as it is stored. -/
def spinStored (i : Nat) (w : Word) : Nat := clampNat (spinRange i).1 (spinRange i).2 w.toNat

theorem storeElement_spin (i : Nat) (w : Word) (s : State) :
    storeElement 0x20 i w s = { s with spin := s.spin.set i (spinStored i w) } := by
  rfl

/-- R164: a write of object 0x20 moves the spin settings alone. -/
theorem storeElements_spin_frame (i : Nat) (ws : List Word) (s : State) :
    storeElements 0x20 i ws s = { s with spin := (storeElements 0x20 i ws s).spin } := by
  induction ws generalizing i s with
  | nil => rfl
  | cons w ws ih =>
    rw [storeElements, storeElement_spin, ih]

/-- R164: after a write of object 0x20 each element addressed is the value given, clamped, and every other stands. -/
theorem storeElements_spin_getD (i : Nat) (ws : List Word) (s : State) {j : Nat} (hj : j < 21) :
    (storeElements 0x20 i ws s).spin.list.getD j 0 =
      if touches i ws.length j then spinStored j (ws.getD (j - i) 0) else s.spin.list.getD j 0 := by
  induction ws generalizing i s with
  | nil =>
    have hnone : touches i 0 j = false := by simp [touches]
    rw [List.length_nil, hnone]; rfl
  | cons w ws ih =>
    rw [storeElements, storeElement_spin, ih]
    simp only [touches, List.length_cons, Bool.and_eq_true, decide_eq_true_eq, SpinSettings.list_set]
    by_cases hij : j = i
    · subst hij
      rw [if_neg (by omega), if_pos (by omega)]
      simp [List.getD_eq_getElem?_getD, hj]
    · by_cases hin : i + 1 ≤ j ∧ j < i + 1 + ws.length
      · rw [if_pos hin, if_pos (by omega)]
        obtain ⟨k, rfl⟩ : ∃ k, j = i + 1 + k := ⟨j - (i + 1), by omega⟩
        rw [show i + 1 + k - (i + 1) = k by omega, show i + 1 + k - i = k + 1 by omega, List.getD_cons_succ]
      · rw [if_neg hin, if_neg (by omega)]
        simp [List.getD_eq_getElem?_getD, List.getElem?_set_ne (Ne.symm hij)]

/-! ### The ranges of the spin settings -/

/-- R92: the settings each in its range. -/
theorem spinInRange_iff (p : SpinSettings) :
    spinInRange p = true ↔
      (∀ i < 21, (spinRange i).1 ≤ p.list.getD i 0 ∧ p.list.getD i 0 ≤ (spinRange i).2) ∧ p.weighLo + 20 ≤ p.weighHi := by
  simp only [spinInRange, within, Bool.and_eq_true, List.all_eq_true, List.mem_range, decide_eq_true_eq, Nat.cast_le]

/-- The ranges of the table are not empty. -/
theorem spinRange_le {i : Nat} (h : i < 21) : (spinRange i).1 ≤ (spinRange i).2 := by
  revert i; decide

theorem spinStored_mem {i : Nat} (h : i < 21) (w : Word) :
    (spinRange i).1 ≤ spinStored i w ∧ spinStored i w ≤ (spinRange i).2 :=
  clampNat_mem (spinRange_le h) _

/-- R74: WEIGH_HI raised to WEIGH_LO + 20 stays in its range. -/
theorem weighClamp_inRange {p : SpinSettings}
    (h : ∀ i < 21, (spinRange i).1 ≤ p.list.getD i 0 ∧ p.list.getD i 0 ≤ (spinRange i).2) :
    spinInRange p.weighClamp = true := by
  unfold SpinSettings.weighClamp; split
  · rw [spinInRange_iff]
    refine ⟨fun i hi => ?_, le_refl _⟩
    have hlo : 30 ≤ p.weighLo ∧ p.weighLo ≤ 400 := h 8 (by decide)
    have hset : ({ p with weighHi := p.weighLo + 20 } : SpinSettings).list = p.list.set 9 (p.weighLo + 20) := rfl
    rw [hset]
    by_cases h9 : i = 9
    · subst h9
      show 50 ≤ p.weighLo + 20 ∧ p.weighLo + 20 ≤ 600
      omega
    · simpa [List.getD_eq_getElem?_getD, List.getElem?_set_ne (Ne.symm h9)] using h i hi
  · rw [spinInRange_iff]; exact ⟨h, by omega⟩

/-! ### What a write stores is in range -/

/-- Every element of a table after one was stored. -/
theorem mem_put {n : Nat} {v : Vector Nat n} {i x y : Nat} (h : y ∈ (put v i x).toList) : y ∈ v.toList ∨ y = x := by
  unfold put at h
  rw [Vector.toList_setIfInBounds] at h
  exact List.mem_or_eq_of_mem_set h

theorem all_le_put {n b : Nat} {v : Vector Nat n} (h : (v.toList.all fun y => decide (y ≤ b)) = true) {x : Nat}
    (hx : x ≤ b) (i : Nat) : ((put v i x).toList.all fun y => decide (y ≤ b)) = true := by
  simp only [List.all_eq_true, decide_eq_true_eq] at h ⊢
  intro y hy
  rcases mem_put hy with hy | rfl
  · exact h y hy
  · exact hx

/-- R94: a clamped plateau field is not moved by the clamp. -/
theorem clampPlateau_clampPlateau (f v : Nat) : clampPlateau f (clampPlateau f v) = clampPlateau f v := by
  match f with
  | 0 =>
    by_cases hv : v = 0
    · simp [clampPlateau, hv]
    · obtain ⟨hlo, hhi⟩ := clampNat_mem (show 30 ≤ 1200 by decide) v
      simp only [clampPlateau]
      rw [if_neg hv, if_neg (by omega), clampNat_of_mem hlo hhi]
  | 1 =>
    obtain ⟨hlo, hhi⟩ := clampNat_mem (show 1 ≤ 255 by decide) v
    simp only [clampPlateau]
    rw [clampNat_of_mem hlo hhi]
  | 2 | 3 | 4 | n + 5 => simp only [clampPlateau]; omega

theorem plateauInRange_clamp (i v : Nat) : plateauInRange i (clampPlateau (i % 6) v) = true := by
  simp [plateauInRange, clampPlateau_clampPlateau]

theorem tablesInRange_iff (t : Tables) :
    tablesInRange t = true ↔
      (t.envelope.toList.all fun v => decide (v ≤ 9999)) = true ∧ (t.rampLimit.toList.all fun v => decide (v ≤ 2000)) = true ∧
      (t.gain.toList.all fun v => decide (v ≤ 65535)) = true ∧ (t.phase.toList.all fun v => decide (v ≤ 65535)) = true ∧
      (t.weighThresh.toList.all fun v => decide (v ≤ 65535)) = true ∧
      ∀ i < 36, plateauInRange i (look t.plateau i 0) = true := by
  simp only [tablesInRange, Bool.and_eq_true, and_assoc]
  rw [List.all_eq_true (l := List.range 36)]
  simp only [List.mem_range]

/-- R33, R62, R77, R78, R87, R94, R121, R155, R156: what a write stores, but for the spin settings, is in range. -/
structure StoredInRange (s : State) : Prop where
  service : serviceInRange s = true
  tables : tablesInRange s.tables = true
  monitor : monitorSound s = true

theorem storeService_inRange (i v : Nat) {s : State} (h : StoredInRange s) : StoredInRange (storeService i v s) := by
  obtain ⟨hservice, htables, hmonitor⟩ := h
  have h1 : (1 : Nat) ≤ 255 := by decide
  have hservice' := hservice
  simp only [serviceInRange, within, Bool.and_eq_true, decide_eq_true_eq] at hservice'
  obtain ⟨⟨⟨⟨hevery, hlid⟩, hstrike⟩, habs⟩, hmass⟩ := hservice'
  have hmonitor' := hmonitor
  simp only [monitorSound, Bool.and_eq_true, decide_eq_true_eq, beq_iff_eq] at hmonitor'
  obtain ⟨⟨hcount, hholding⟩, htimer⟩ := hmonitor'
  have hset : ∀ m : Monitor, m.count ≤ 65535 → m.holding ≤ 65535 → m.timer.isSome = m.auto →
      StoredInRange { s with monitor := m } := by
    intro m hc hh ht
    exact ⟨hservice, htables, by simp [monitorSound, hc, hh, ht]⟩
  unfold storeService; split
  · refine ⟨?_, htables, hmonitor⟩
    simp only [serviceInRange, within, Bool.and_eq_true, decide_eq_true_eq]
    exact ⟨⟨⟨⟨by omega, hlid⟩, hstrike⟩, habs⟩, hmass⟩
  · refine ⟨?_, htables, hmonitor⟩
    have := clampNat_mem h1 v
    simp only [serviceInRange, within, Bool.and_eq_true, decide_eq_true_eq]
    exact ⟨⟨⟨⟨hevery, by omega⟩, hstrike⟩, habs⟩, hmass⟩
  · refine ⟨?_, htables, hmonitor⟩
    simp only [serviceInRange, within, Bool.and_eq_true, decide_eq_true_eq]
    exact ⟨⟨⟨⟨hevery, hlid⟩, by omega⟩, habs⟩, hmass⟩
  · unfold Monitor.setSource; split
    · exact hset _ hcount hholding htimer
    · exact hset _ (Nat.zero_le _) (Nat.zero_le _) (by dsimp only; split <;> simp_all)
  · unfold Monitor.setMode; split
    · exact hset _ hcount hholding htimer
    · exact hset _ hcount hholding (by dsimp only; split <;> simp_all)
  · exact ⟨hservice, htables, hmonitor⟩

theorem storeLimit_inRange (i v : Nat) {s : State} (h : StoredInRange s) : StoredInRange (storeLimit i v s) := by
  obtain ⟨hservice, htables, hmonitor⟩ := h
  have habsRange := clampNat_mem (show 300 ≤ 1500 by decide) v
  have hmassRange := clampNat_mem (show 100 ≤ 9999 by decide) v
  simp only [serviceInRange, Bool.and_eq_true] at hservice
  obtain ⟨⟨hrest, habs⟩, hmass⟩ := hservice
  unfold storeLimit; split
  · refine ⟨?_, htables, hmonitor⟩
    simp only [serviceInRange, Bool.and_eq_true]
    refine ⟨⟨hrest, ?_⟩, hmass⟩
    change within 300 1500 (clampNat 300 1500 v : Nat) = true
    simp only [within, Bool.and_eq_true, decide_eq_true_eq]; omega
  · refine ⟨?_, htables, hmonitor⟩
    simp only [serviceInRange, Bool.and_eq_true]
    refine ⟨⟨hrest, habs⟩, ?_⟩
    change within 100 9999 (clampNat 100 9999 v : Nat) = true
    simp only [within, Bool.and_eq_true, decide_eq_true_eq]; omega
  · exact ⟨by simp only [serviceInRange, Bool.and_eq_true]; exact ⟨⟨hrest, habs⟩, hmass⟩, htables, hmonitor⟩

theorem StoreStep.inRange {obj : Byte} {i : Nat} {w : Word} {s t : State} (h : StoreStep obj i w s t)
    (hs : StoredInRange s) : StoredInRange t := by
  obtain ⟨hservice, htables, hmonitor⟩ := id hs
  obtain ⟨henvelope, hramp, hgain, hphase, hweigh, hplateau⟩ := (tablesInRange_iff _).mp htables
  have hw : w.toNat ≤ 65535 := by have := w.isLt; omega
  cases h with
  | classTable => exact ⟨hservice, htables, hmonitor⟩
  | envelope =>
    exact ⟨hservice, (tablesInRange_iff _).mpr
      ⟨all_le_put henvelope (Nat.min_le_left _ _) i, hramp, hgain, hphase, hweigh, hplateau⟩, hmonitor⟩
  | rampLimit =>
    exact ⟨hservice, (tablesInRange_iff _).mpr
      ⟨henvelope, all_le_put hramp (Nat.min_le_left _ _) i, hgain, hphase, hweigh, hplateau⟩, hmonitor⟩
  | gain =>
    exact ⟨hservice, (tablesInRange_iff _).mpr
      ⟨henvelope, hramp, all_le_put hgain hw i, hphase, hweigh, hplateau⟩, hmonitor⟩
  | phase =>
    exact ⟨hservice, (tablesInRange_iff _).mpr
      ⟨henvelope, hramp, hgain, all_le_put hphase hw i, hweigh, hplateau⟩, hmonitor⟩
  | plateau =>
    refine ⟨hservice, (tablesInRange_iff _).mpr ⟨henvelope, hramp, hgain, hphase, hweigh, fun j hj => ?_⟩, hmonitor⟩
    by_cases hij : i = j
    · subst hij
      rw [look_put_same _ _ _ _ hj]; exact plateauInRange_clamp i _
    · rw [look_put_other _ _ _ _ _ hij]; exact hplateau j hj
  | weighThresh =>
    exact ⟨hservice, (tablesInRange_iff _).mpr
      ⟨henvelope, hramp, hgain, hphase, all_le_put hweigh hw i, hplateau⟩, hmonitor⟩
  | service => exact storeService_inRange i _ hs
  | limit => exact storeLimit_inRange i _ hs
  | spin | contents | nothing => exact ⟨hservice, htables, hmonitor⟩

theorem storeElements_inRange (obj : Byte) (i : Nat) (ws : List Word) {s : State} (hs : StoredInRange s) :
    StoredInRange (storeElements obj i ws s) := by
  induction ws generalizing i s with
  | nil => exact hs
  | cons w ws ih => exact ih _ ((storeElement_step obj i w s).inRange hs)

/-- R92, R121: the spin settings in their ranges, and the contents within CHAMBER_CAP. -/
structure RingInRange (s : State) : Prop where
  spin : spinInRange s.spin = true
  contents : contentsInRange s = true

theorem StoreStep.ringInRange {obj : Byte} {i : Nat} {w : Word} {s t : State} (h : StoreStep obj i w s t)
    (hobj : obj ≠ 0x20) (hs : RingInRange s) : RingInRange t := by
  obtain ⟨hspin, hcontents⟩ := id hs
  cases h with
  | spin h => exact absurd h hobj
  | service => unfold storeService; split <;> exact ⟨hspin, hcontents⟩
  | limit => unfold storeLimit; split <;> exact ⟨hspin, hcontents⟩
  | contents => exact ⟨hspin, all_le_put hcontents (Nat.min_le_left _ _) i⟩
  | _ => exact ⟨hspin, hcontents⟩

theorem storeElements_ringInRange {obj : Byte} (hobj : obj ≠ 0x20) (i : Nat) (ws : List Word) {s : State}
    (hs : RingInRange s) : RingInRange (storeElements obj i ws s) := by
  induction ws generalizing i s with
  | nil => exact hs
  | cons w ws ih => exact ih _ ((storeElement_step obj i w s).ringInRange hobj hs)

/-- R92: after the elements of object 0x20 are stored each setting is in its own range; R74's rule comes after. -/
theorem storeElements_spin_mem (idx : Nat) (ws : List Word) {s : State} (hs : spinInRange s.spin = true) :
    ∀ i < 21, (spinRange i).1 ≤ (storeElements 0x20 idx ws s).spin.list.getD i 0 ∧
      (storeElements 0x20 idx ws s).spin.list.getD i 0 ≤ (spinRange i).2 := by
  intro i hi
  rw [storeElements_spin_getD idx ws s hi]; split
  · exact spinStored_mem hi _
  · exact ((spinInRange_iff _).mp hs).1 i hi

/-- R74: after a write of object 0x20 the spin settings are in their ranges again. -/
theorem weighFix_inRange (idx : Nat) (ws : List Word) {s : State} (hs : spinInRange s.spin = true) :
    spinInRange (weighFix 0x20 idx ws.length (storeElements 0x20 idx ws s)).spin = true := by
  have hmem := storeElements_spin_mem idx ws hs
  unfold weighFix; split
  · exact weighClamp_inRange hmem
  · rename_i hnone
    simp only [true_and, Bool.or_eq_true, not_or, Bool.not_eq_true] at hnone
    have hlo : (storeElements 0x20 idx ws s).spin.weighLo = s.spin.weighLo :=
      (storeElements_spin_getD idx ws s (j := 8) (by decide)).trans (if_neg (by simp [hnone.1]))
    have hhi : (storeElements 0x20 idx ws s).spin.weighHi = s.spin.weighHi :=
      (storeElements_spin_getD idx ws s (j := 9) (by decide)).trans (if_neg (by simp [hnone.2]))
    exact (spinInRange_iff _).mpr ⟨hmem, by rw [hlo, hhi]; exact ((spinInRange_iff _).mp hs).2⟩

theorem weighFix_ring (obj : Byte) (idx n : Nat) (s : State) : (weighFix obj idx n s).ring = s.ring := by
  unfold weighFix; split <;> rfl

theorem weighFix_chamberCap (obj : Byte) (idx n : Nat) (s : State) :
    (weighFix obj idx n s).spin.chamberCap = s.spin.chamberCap := by
  unfold weighFix SpinSettings.weighClamp; (repeat' split) <;> rfl

/-- R74, R121: a write of object 0x20, its two rules followed, leaves the settings and the contents in range. -/
theorem storeWrite_spin_inRange (idx : Nat) (ws : List Word) {s : State} (hs : RingInRange s) :
    RingInRange (storeWrite 0x20 idx ws s) := by
  have hspin := weighFix_inRange idx ws hs.spin
  unfold storeWrite capFix; split
  · refine ⟨hspin, (contentsInRange_iff _).mpr fun g hg => ?_⟩
    rw [mapAll_toList] at hg
    obtain ⟨x, -, rfl⟩ := List.mem_map.mp hg
    exact Nat.min_le_left _ _
  · rename_i hnone
    have hcap : (storeElements 0x20 idx ws s).spin.chamberCap = s.spin.chamberCap :=
      (storeElements_spin_getD idx ws s (j := 11) (by decide)).trans (if_neg (by simpa using hnone))
    refine ⟨hspin, (contentsInRange_iff _).mpr ?_⟩
    rw [weighFix_ring, weighFix_chamberCap, hcap, storeElements_spin_frame]
    exact (contentsInRange_iff s).mp hs.contents

theorem storeWrite_ringInRange (obj : Byte) (idx : Nat) (ws : List Word) {s : State} (hs : RingInRange s) :
    RingInRange (storeWrite obj idx ws s) := by
  by_cases hobj : obj = 0x20
  · subst hobj; exact storeWrite_spin_inRange idx ws hs
  · rw [storeWrite_eq_storeElements hobj]; exact storeElements_ringInRange hobj idx ws hs

theorem storeWrite_inRange (obj : Byte) (idx : Nat) (ws : List Word) {s : State} (hs : StoredInRange s) :
    StoredInRange (storeWrite obj idx ws s) := by
  obtain ⟨hservice, htables, hmonitor⟩ := storeElements_inRange obj idx ws hs
  unfold storeWrite capFix weighFix
  (repeat' split) <;> exact ⟨hservice, htables, hmonitor⟩

/-! ### The ranges together -/

/-- R10, R11, R21, R33, R54, R62, R74, R77, R78, R83, R86, R87, R92, R94, R121, R140, R156: everything in its range. -/
structure InRange (s : State) : Prop where
  stored : StoredInRange s
  ring : RingInRange s
  records : recordsInRange s = true
  spin : s.gov.spin ≤ 1500
  agitate : s.gov.agitate ≤ 1500

theorem recordsInRange_iff (s : State) :
    recordsInRange s = true ↔
      within (-1500) 1500 s.requested.target = true ∧ within (-1500) 1500 s.drive.speed = true ∧
        s.standing.target.natAbs ≤ 1500 ∧ 1 ≤ s.standing.ramp ∧ s.standing.ramp ≤ 2000 := by
  simp only [recordsInRange, within, Bool.and_eq_true, decide_eq_true_eq]
  omega

/-- R62, R77: an entry of a table that is in range. -/
theorem look_le {n b : Nat} {v : Vector Nat n} (h : (v.toList.all fun y => decide (y ≤ b)) = true) (i : Nat) :
    look v i 0 ≤ b := by
  simp only [List.all_eq_true, decide_eq_true_eq] at h
  unfold look
  by_cases hi : i < n
  · rw [Vector.getElem?_eq_getElem hi]
    exact h _ (by simp)
  · rw [Vector.getElem?_eq_none (by omega)]; exact Nat.zero_le _

/-- R19, R22: a governed target is within the ceiling of its mode. -/
theorem governTarget_natAbs_le (g : Governor) (mode : Mode) (target : Int) :
    (governTarget g mode target).natAbs ≤ g.ceiling mode := by
  cases mode with
  | stop | coast => exact Nat.le_refl _
  | agitate => simp only [governTarget, Governor.ceiling]; split_ifs <;> omega
  | spin => simp only [governTarget, Governor.ceiling]; split_ifs <;> omega

/-- R19: with the trip latch set a SPEED DEMAND leaves as STOP, target 0. -/
theorem govern_target_natAbs_le (s : State) (f : QFrame) :
    (govern s f).target.natAbs ≤ s.gov.ceiling (govern s f).mode := by
  unfold govern
  cases s.trip.latch with
  | true => exact Nat.zero_le _
  | false => exact governTarget_natAbs_le _ _ _

theorem Governor.ceiling_le {g : Governor} (hspin : g.spin ≤ 1500) (hagitate : g.agitate ≤ 1500) (mode : Mode) :
    g.ceiling mode ≤ 1500 := by
  cases mode <;> simp [Governor.ceiling, hspin, hagitate]

/-- R19: a governed ramp lies in 1..2000. -/
theorem govern_ramp_mem {s : State} (h : InRange s) (f : QFrame) : 1 ≤ (govern s f).ramp ∧ (govern s f).ramp ≤ 2000 := by
  have htrip : 100 ≤ s.spin.tripRamp ∧ s.spin.tripRamp ≤ 2000 :=
    ((spinInRange_iff _).mp h.ring.spin).1 20 (by decide)
  obtain ⟨-, hramp, -⟩ := (tablesInRange_iff _).mp h.stored.tables
  have hlimit := look_le hramp s.speedBand
  unfold govern
  cases s.trip.latch with
  | true => exact ⟨by simp only [if_true]; omega, htrip.2⟩
  | false =>
    simp only [Bool.false_eq_true, if_false, governRamp]
    split
    · exact clampNat_mem (by decide) _
    · have hmem := clampNat_mem (lo := 1) (hi := look s.tables.rampLimit s.speedBand 0) (by omega)
        (demandRamp f.payload)
      omega

theorem inRange_portDFree : PortDFree InRange where
  queue _ _ h := ⟨⟨h.stored.service, h.stored.tables, h.stored.monitor⟩, ⟨h.ring.spin, h.ring.contents⟩, h.records,
    h.spin, h.agitate⟩
  sent u p f h := by
    refine ⟨⟨h.stored.service, h.stored.tables, h.stored.monitor⟩, ⟨h.ring.spin, h.ring.contents⟩, ?_, h.spin, h.agitate⟩
    obtain ⟨hrequested, hdrive, -, -⟩ := (recordsInRange_iff _).mp h.records
    exact (recordsInRange_iff _).mpr ⟨hrequested, hdrive,
      (govern_target_natAbs_le u f).trans (Governor.ceiling_le h.spin h.agitate _), govern_ramp_mem h f⟩
  offer u h := by
    obtain ⟨⟨hservice, htables, hmonitor⟩, ⟨hspin, hcontents⟩, hrecords, hspinCeiling, hagitate⟩ := h
    exact ⟨⟨by simpa [serviceInRange] using hservice, by simpa using htables, by simpa [monitorSound] using hmonitor⟩,
      ⟨by simpa using hspin, by simpa [contentsInRange] using hcontents⟩, by simpa [recordsInRange] using hrecords,
      by simpa using hspinCeiling, by simpa using hagitate⟩

/-- R86: the AGITATE ceiling is at most AGITATE_LIMIT. -/
theorem agitateCeiling_le (s : State) : s.agitateCeiling ≤ s.spin.agitateLimit := by
  unfold State.agitateCeiling; repeat' split
  · exact Nat.zero_le _
  · exact Nat.min_le_left _ _
  · exact le_rfl

theorem agitateLimit_le {s : State} (h : spinInRange s.spin = true) : s.spin.agitateLimit ≤ 300 :=
  (((spinInRange_iff _).mp h).1 1 (by decide)).2

/-- R83, R86: composed ceilings are in range. -/
theorem InRange.composed {s : State} (h : InRange s) :
    InRange { s with gov := { s.gov with spin := s.spinCeiling, agitate := s.agitateCeiling } } :=
  ⟨⟨h.stored.service, h.stored.tables, h.stored.monitor⟩, ⟨h.ring.spin, h.ring.contents⟩, h.records, spinCeiling_le s,
    ((agitateCeiling_le s).trans (agitateLimit_le h.ring.spin)).trans (by decide)⟩

/-- R121: contents in range stay so where neither they nor CHAMBER_CAP move. -/
theorem contentsInRange_congr {s t : State} (h : contentsInRange s = true) (hcontents : t.ring.contents = s.ring.contents)
    (hspin : t.spin = s.spin) : contentsInRange t = true := by
  simpa only [contentsInRange, hcontents, hspin] using h

theorem Effect.inRange {s t : State} (h : Effect s t) (hs : InRange s) : InRange t := by
  obtain ⟨⟨hservice, htables, hmonitor⟩, ⟨hspin, hcontents⟩, hrecords, hspinCeiling, hagitate⟩ := id hs
  cases h with
  | count =>
    refine ⟨⟨hservice, htables, ?_⟩, ⟨hspin, hcontents⟩, hrecords, hspinCeiling, hagitate⟩
    simp only [monitorSound, Bool.and_eq_true, decide_eq_true_eq] at hmonitor ⊢
    exact ⟨⟨by omega, hmonitor.1.2⟩, hmonitor.2⟩
  | compose =>
    unfold recompose; dsimp only; split
    · exact inRange_portDFree.queueRestated hs.composed
    · exact hs.composed
  | restate => exact inRange_portDFree.queueRestated hs
  | ring r h =>
    exact ⟨⟨hservice, htables, hmonitor⟩, ⟨hspin, contentsInRange_congr hcontents h rfl⟩, hrecords, hspinCeiling, hagitate⟩
  | _ => exact ⟨⟨hservice, htables, hmonitor⟩, ⟨hspin, hcontents⟩, hrecords, hspinCeiling, hagitate⟩

theorem tablesInRange_reset : tablesInRange Tables.reset = true := by decide

theorem spinInRange_reset : spinInRange SpinSettings.reset = true := by decide

/-- R10, R21, R77, R83, R92: the values of power-on reset are in range. -/
theorem powerOnValues_inRange (s : State) : InRange (powerOnValues s) :=
  ⟨⟨rfl, tablesInRange_reset, rfl⟩, ⟨spinInRange_reset, rfl⟩, rfl, show 100 ≤ 1500 by decide, show 180 ≤ 1500 by decide⟩

theorem softValues_inRange {s : State} (h : InRange s) : InRange (softValues s) :=
  ⟨⟨h.stored.service, h.stored.tables, rfl⟩, ⟨h.ring.spin, h.ring.contents⟩, rfl, h.spin, h.agitate⟩

theorem Move.inRange {c : Instr} {s t : State} (h : Move c s t) (hs : InRange s) : InRange t := by
  obtain ⟨⟨hservice, htables, hmonitor⟩, ⟨hspin, hcontents⟩, hrecords, hspinCeiling, hagitate⟩ := id hs
  obtain ⟨hrequested, hdrive, hstanding⟩ := (recordsInRange_iff _).mp hrecords
  cases h with
  | effect h => exact h.inRange hs
  | framer link =>
    cases link <;> exact ⟨⟨hservice, htables, hmonitor⟩, ⟨hspin, hcontents⟩, hrecords, hspinCeiling, hagitate⟩
  | switch sw =>
    cases sw <;> exact ⟨⟨hservice, htables, hmonitor⟩, ⟨hspin, hcontents⟩, hrecords, hspinCeiling, hagitate⟩
  | drive d hd =>
    exact ⟨⟨hservice, htables, hmonitor⟩, ⟨hspin, hcontents⟩, (recordsInRange_iff _).mpr ⟨hrequested, hd, hstanding⟩,
      hspinCeiling, hagitate⟩
  | requested r hr =>
    exact ⟨⟨hservice, htables, hmonitor⟩, ⟨hspin, hcontents⟩, (recordsInRange_iff _).mpr ⟨hr, hdrive, hstanding⟩,
      hspinCeiling, hagitate⟩
  | contents r hr => exact ⟨⟨hservice, htables, hmonitor⟩, ⟨hspin, hr hcontents⟩, hrecords, hspinCeiling, hagitate⟩
  | monitor m hm => exact ⟨⟨hservice, htables, hm hmonitor⟩, ⟨hspin, hcontents⟩, hrecords, hspinCeiling, hagitate⟩
  | stored m r =>
    have hsame := storeWrite_same r.object r.index.toNat r.words s
    refine ⟨storeWrite_inRange _ _ _ hs.stored, storeWrite_ringInRange _ _ _ hs.ring, ?_, ?_, ?_⟩
    · simpa [recordsInRange, hsame.requested, hsame.drive, hsame.standing] using hrecords
    · rw [hsame.gov]; exact hspinCeiling
    · rw [hsame.gov]; exact hagitate
  | orphaned => exact inRange_portDFree.queueOrphan hs
  | freedD => exact inRange_portDFree.kickD (inRange_portDFree.queue s _ hs)
  | joinedD => exact inRange_portDFree.kickD (inRange_portDFree.queue s _ hs)
  | demandJoined => exact inRange_portDFree.kickD (inRange_portDFree.queue s _ hs)
  | soft =>
    obtain ⟨⟨hservice, htables, hmonitor⟩, ⟨hspin, hcontents⟩, hrecords, hspinCeiling, hagitate⟩ :=
      (softValues_inRange hs).composed
    unfold resumeTrip
    split <;> exact ⟨⟨hservice, htables, hmonitor⟩, ⟨hspin, hcontents⟩, hrecords, hspinCeiling, hagitate⟩
  | power => exact powerOnValues_inRange s
  | hold =>
    obtain ⟨⟨hservice, htables, hmonitor⟩, ⟨hspin, hcontents⟩, hrecords, hspinCeiling, hagitate⟩ := powerOnValues_inRange s
    exact ⟨⟨hservice, htables, hmonitor⟩, ⟨hspin, hcontents⟩, hrecords, hspinCeiling, hagitate⟩
  | _ => exact ⟨⟨hservice, htables, hmonitor⟩, ⟨hspin, hcontents⟩, hrecords, hspinCeiling, hagitate⟩

/-- Settles O59: every move keeps everything in its range. -/
theorem rangesKept : Obligations.RangesKept := by
  intro s t hspin hservice htables hcontents hmonitor hrecords hspinCeiling hagitate hstep
  obtain ⟨⟨hservice', htables', hmonitor'⟩, ⟨hspin', hcontents'⟩, hrecords', hspinCeiling', hagitate'⟩ : InRange t :=
    step_keeps (fun _ _ h => ⟨⟨h.stored.service, h.stored.tables, h.stored.monitor⟩, ⟨h.ring.spin, h.ring.contents⟩,
        h.records, h.spin, h.agitate⟩) (fun _ _ _ => Move.inRange) hstep
      ⟨⟨hservice, htables, hmonitor⟩, ⟨hspin, hcontents⟩, hrecords, hspinCeiling, hagitate⟩
  exact ⟨hspin', hservice', htables', hcontents', hmonitor', hrecords', hspinCeiling', hagitate'⟩

/-- Settles O4: each test evaluated at the reset state. -/
theorem resetIsSafe : Obligations.ResetIsSafe := by
  unfold Obligations.ResetIsSafe
  decide +kernel

end Sys2Proof.Machine
end

section
/-! SUPPORT. The tracker and the estimator: that every step keeps them sound, in their ranges, and INVALID without an angle
or a sensor (R39, R53, R56, R60, R61, R63). -/

namespace Sys2Proof.Machine

open Sys2Proof.Safety

/-! ### The terms of a sample -/

theorem sineQuarter_getD_le (i : Nat) : sineQuarter.getD i 0 ≤ 16384 := by
  have hall : ∀ x ∈ sineQuarter, x ≤ 16384 := by decide +kernel
  rw [List.getD_eq_getElem?_getD]
  rcases h : sineQuarter[i]? with _ | x
  · exact Nat.zero_le _
  · exact hall x (List.mem_of_getElem? h)

/-- R51: an entry of the table lies within ±16384. -/
theorem sineEntry_natAbs_le (k : Nat) : (sineEntry k).natAbs ≤ 16384 := by
  unfold sineEntry
  split_ifs
  · exact (Int.natAbs_natCast _).trans_le (sineQuarter_getD_le _)
  · exact (Int.natAbs_natCast _).trans_le (sineQuarter_getD_le _)
  · exact ((Int.natAbs_neg _).trans (Int.natAbs_natCast _)).trans_le (sineQuarter_getD_le _)
  · exact ((Int.natAbs_neg _).trans (Int.natAbs_natCast _)).trans_le (sineQuarter_getD_le _)

theorem mul_sine_natAbs_le {a : Int} (ha : a.natAbs ≤ 8000) (k : Nat) : (a * sineEntry k).natAbs ≤ 131072000 := by
  rw [Int.natAbs_mul]
  exact (Nat.mul_le_mul ha (sineEntry_natAbs_le k)).trans (by decide)

theorem within_iff {lo hi v : Int} : within lo hi v = true ↔ lo ≤ v ∧ v ≤ hi := by
  simp [within]

/-- R56: a sample's terms keep the sums within what so many samples can bring. -/
theorem Accumulation.take_inRange {ax ay : Int} (hax : ax.natAbs ≤ 8000) (hay : ay.natAbs ≤ 8000) (theta : Nat)
    {a : Accumulation} (hi : within (-(262144000 * a.n)) (262144000 * a.n) a.i = true)
    (hq : within (-(262144000 * a.n)) (262144000 * a.n) a.q = true) :
    within (-(262144000 * (a.take ax ay theta).n)) (262144000 * (a.take ax ay theta).n) (a.take ax ay theta).i = true ∧
      within (-(262144000 * (a.take ax ay theta).n)) (262144000 * (a.take ax ay theta).n) (a.take ax ay theta).q = true := by
  have hxc := mul_sine_natAbs_le hax ((theta / 64 + 256) % 1024)
  have hys := mul_sine_natAbs_le hay (theta / 64)
  have hyc := mul_sine_natAbs_le hay ((theta / 64 + 256) % 1024)
  have hxs := mul_sine_natAbs_le hax (theta / 64)
  rw [within_iff] at hi hq
  rw [within_iff, within_iff]
  simp only [Accumulation.take, cosAu, sinAu, Nat.cast_add, Nat.cast_one]
  constructor <;> constructor <;> omega

/-! ### The ranges of the estimator -/

/-- R53, R56, R60, R61: the ranges of Table 4-1. -/
structure EstInRange (e : Estimator) : Prop where
  fx : e.fx.natAbs ≤ 32767
  fy : e.fy.natAbs ≤ 32767
  m16 : e.m16 ≤ 46339
  band : e.band ≤ 31
  u : e.u ≤ 9999
  thin : e.thin ≤ 255
  priming : e.priming ≤ 15
  acc : ∀ a, e.acc = some a → a.n ≤ 2047 ∧ within (-(262144000 * a.n)) (262144000 * a.n) a.i = true ∧
    within (-(262144000 * a.n)) (262144000 * a.n) a.q = true

theorem estimateInRange_iff (e : Estimator) : estimateInRange e = true ↔ EstInRange e := by
  have hacc : (e.acc.all fun a => decide (a.n ≤ 2047) && within (-(262144000 * a.n)) (262144000 * a.n) a.i &&
      within (-(262144000 * a.n)) (262144000 * a.n) a.q) = true ↔
      ∀ a, e.acc = some a → a.n ≤ 2047 ∧ within (-(262144000 * a.n)) (262144000 * a.n) a.i = true ∧
        within (-(262144000 * a.n)) (262144000 * a.n) a.q = true := by
    cases e.acc <;> simp [and_assoc]
  have hvector : ∀ z : Int, within (-32767) 32767 z = true ↔ z.natAbs ≤ 32767 := by
    intro z; simp only [within, Bool.and_eq_true, decide_eq_true_eq]; omega
  simp only [estimateInRange, Bool.and_eq_true, hacc, hvector, decide_eq_true_eq]
  constructor
  · rintro ⟨⟨⟨⟨⟨⟨⟨hx, hy⟩, hm⟩, hb⟩, hu⟩, ht⟩, hp⟩, ha⟩; exact ⟨hx, hy, hm, hb, hu, ht, hp, ha⟩
  · rintro ⟨hx, hy, hm, hb, hu, ht, hp, ha⟩; exact ⟨⟨⟨⟨⟨⟨⟨hx, hy⟩, hm⟩, hb⟩, hu⟩, ht⟩, hp⟩, ha⟩

theorem emptyAccumulation_inRange {e : Estimator} (h : e.acc = some Accumulation.empty) :
    ∀ a, e.acc = some a → a.n ≤ 2047 ∧ within (-(262144000 * a.n)) (262144000 * a.n) a.i = true ∧
      within (-(262144000 * a.n)) (262144000 * a.n) a.q = true := by
  intro a ha
  rw [h] at ha; cases ha
  decide

theorem bandOf_le (v : Int) : bandOf v ≤ 31 := Nat.min_le_left _ _

theorem massOf_le (m16 gain : Nat) : massOf m16 gain ≤ 9999 := Nat.min_le_left _ _

/-- R58 to R61: an estimate is in range. -/
theorem estimate_inRange {e : Estimator} (h : EstInRange e) (shift : Nat) (gain : Vector Nat 32) (v : Int)
    (a : Accumulation) : EstInRange (e.estimate shift gain (bandOf v) a) := by
  have hfx := estimate_fx_natAbs_le (k := shift) (gain := gain) (b := bandOf v) (a := a) h.fx
  have hfy := estimate_fy_natAbs_le (k := shift) (gain := gain) (b := bandOf v) (a := a) h.fy
  refine ⟨hfx, hfy, ?_, bandOf_le v, massOf_le _ _, h.thin, h.priming, h.acc⟩
  rw [estimate_m16]
  exact (magnitude_bounds hfx hfy).2.2

/-- R65, R66: what the step of the state leaves. -/
theorem advance_kept (n : Nat) (e : Estimator) :
    (e.advance n).fx = e.fx ∧ (e.advance n).fy = e.fy ∧ (e.advance n).m16 = e.m16 ∧ (e.advance n).band = e.band ∧
      (e.advance n).u = e.u ∧ (e.advance n).thin = e.thin ∧ (e.advance n).seed = e.seed := by
  unfold Estimator.advance; split <;> exact ⟨rfl, rfl, rfl, rfl, rfl, rfl, rfl⟩

theorem advance_priming_le {n : Nat} {e : Estimator} (h : e.priming ≤ 15) : (e.advance n).priming ≤ 15 := by
  unfold Estimator.advance; split
  · exact Nat.min_le_left _ _
  · exact h

/-- R65, R66: a counted revolution does not bring INVALID. -/
theorem advance_state_ne {n : Nat} {e : Estimator} (h : e.state ≠ .invalid) : (e.advance n).state ≠ .invalid := by
  unfold Estimator.advance; split
  · dsimp only; split <;> simp
  · exact h

theorem countedClose_inRange {e : Estimator} (h : EstInRange e) (s : State) (a : Accumulation) :
    EstInRange (e.countedClose s a) := by
  have hestimate := estimate_inRange h s.spin.filterShift s.tables.gain s.indexSpeed a
  obtain ⟨hfx, hfy, hm16, hband, hu, hthin, -⟩ := advance_kept s.spin.primeRevs
    (e.estimate s.spin.filterShift s.tables.gain (bandOf s.indexSpeed) a)
  exact ⟨hfx ▸ hestimate.fx, hfy ▸ hestimate.fy, hm16 ▸ hestimate.m16, hband ▸ hestimate.band, hu ▸ hestimate.u,
    hthin ▸ hestimate.thin, advance_priming_le hestimate.priming, emptyAccumulation_inRange rfl⟩

theorem accumulate_inRange {ax ay : Int} (hax : ax.natAbs ≤ 8000) (hay : ay.natAbs ≤ 8000) (theta : Nat)
    {e : Estimator} (h : EstInRange e) : EstInRange (e.accumulate ax ay theta) := by
  unfold Estimator.accumulate; split
  · exact h
  · exact h
  · rename_i a ha _
    split
    · obtain ⟨-, hi, hq⟩ := h.acc a ‹_›
      refine ⟨h.fx, h.fy, h.m16, h.band, h.u, h.thin, h.priming, fun b hb => ?_⟩
      cases hb
      obtain ⟨hi', hq'⟩ := Accumulation.take_inRange hax hay theta hi hq
      exact ⟨by simp only [Accumulation.take]; omega, hi', hq'⟩
    · exact h

/-! ### The accumulation and the state -/

theorem accumulate_sound (ax ay : Int) (theta : Nat) {e : Estimator} (h : estimatorSound e = true) :
    estimatorSound (e.accumulate ax ay theta) = true ∧ (e.accumulate ax ay theta).state = e.state := by
  unfold Estimator.accumulate; split
  · exact ⟨h, rfl⟩
  · exact ⟨h, rfl⟩
  · rename_i hne
    split
    · refine ⟨?_, rfl⟩
      unfold estimatorSound; split
      · exact absurd ‹_› hne
      all_goals rfl
    · exact ⟨h, rfl⟩

/-- R53: outside INVALID an open accumulation is all that is asked. -/
theorem estimatorSound_of_acc {e : Estimator} (hne : e.state ≠ .invalid) (hacc : e.acc.isSome = true) :
    estimatorSound e = true := by
  unfold estimatorSound; split
  · exact absurd ‹_› hne
  all_goals exact hacc

/-! ### What the moves keep -/

/-- R53, R56, R60, R61, R63: the estimator sound and in range, and the sample fields that reach it in range. -/
structure EstKept (s : State) : Prop where
  sound : estimatorSound s.est = true
  range : EstInRange s.est
  ax : s.intake.last.ax.natAbs ≤ 8000
  ay : s.intake.last.ay.natAbs ≤ 8000

theorem EstKept.of_eq {s t : State} (h : EstKept s) (hest : t.est = s.est) (hintake : t.intake = s.intake) :
    EstKept t := by
  obtain ⟨hsound, hrange, hax, hay⟩ := h
  constructor <;> simpa only [hest, hintake]

theorem Effect.estKept {s t : State} (h : Effect s t) (hs : EstKept s) : EstKept t := by
  obtain ⟨hsound, hrange, hax, hay⟩ := id hs
  cases h with
  | lost =>
    exact ⟨rfl, ⟨hrange.fx, hrange.fy, hrange.m16, hrange.band, Nat.zero_le _, hrange.thin, Nat.zero_le _, nofun⟩, hax, hay⟩
  | primed =>
    exact ⟨rfl, ⟨hrange.fx, hrange.fy, hrange.m16, hrange.band, hrange.u, hrange.thin, Nat.zero_le _,
      emptyAccumulation_inRange rfl⟩, hax, hay⟩
  | thinned h =>
    exact ⟨estimatorSound_of_acc h rfl, ⟨hrange.fx, hrange.fy, hrange.m16, hrange.band, hrange.u, Nat.min_le_left _ _,
      hrange.priming, emptyAccumulation_inRange rfl⟩, hax, hay⟩
  | estimated a h =>
    exact ⟨estimatorSound_of_acc (advance_state_ne (by exact h)) rfl, countedClose_inRange hrange s a, hax, hay⟩
  | compose => exact hs.of_eq (by simp) (by simp)
  | restate => exact hs.of_eq (by simp) (by simp)
  | _ => exact hs.of_eq rfl rfl

/-- R27: a clamped field lies within ±8000. -/
theorem clampSample_natAbs_le (w : Word) : (clampSample w).natAbs ≤ 8000 := by
  have := clampInt_mem (show (-8000 : Int) ≤ 8000 by decide) w.toInt
  unfold clampSample; omega

theorem estKept_portDFree : PortDFree EstKept where
  queue _ _ h := h.of_eq rfl rfl
  sent _ _ _ h := h.of_eq rfl rfl
  offer _ h := h.of_eq (by simp) (by simp)

/-- R28, R53: the estimator and the sample record stand so after a reset. -/
theorem estKept_reset {s : State} (hest : s.est = Estimator.reset) (hlast : s.intake.last = SampleRecord.reset) :
    EstKept s := by
  constructor
  · rw [hest]; rfl
  · rw [hest]; exact (estimateInRange_iff _).mp rfl
  · rw [hlast]; exact Nat.zero_le _
  · rw [hlast]; exact Nat.zero_le _

theorem Move.estKept {c : Instr} {s t : State} (h : Move c s t) (hs : EstKept s) : EstKept t := by
  obtain ⟨hsound, hrange, hax, hay⟩ := id hs
  cases h with
  | effect h => exact h.estKept hs
  | framer link => cases link <;> exact hs.of_eq rfl rfl
  | switch sw => cases sw <;> exact hs.of_eq rfl rfl
  | intake x h =>
    rcases h with h | ⟨payload, h⟩
    · exact ⟨hsound, hrange, by rw [h]; exact hax, by rw [h]; exact hay⟩
    · exact ⟨hsound, hrange, by rw [h]; exact clampSample_natAbs_le _, by rw [h]; exact clampSample_natAbs_le _⟩
  | accumulated theta =>
    exact ⟨(accumulate_sound _ _ theta hsound).1, accumulate_inRange hax hay theta hrange, hax, hay⟩
  | stored m r =>
    have hsame := storeWrite_same r.object r.index.toNat r.words s
    exact hs.of_eq hsame.est hsame.intake
  | orphaned => exact (estKept_portDFree).queueOrphan hs
  | freedD | joinedD | demandJoined => exact hs.of_eq (by simp [freeD]) (by simp [freeD])
  | soft => unfold resumeTrip; split <;> exact estKept_reset rfl rfl
  | power | hold => exact estKept_reset rfl rfl
  | _ => exact hs.of_eq rfl rfl

/-! ### The trust in the estimate -/

/-- R63: the estimator is INVALID, or the angle is valid and the sensor heard. -/
def Trusted (s : State) : Prop := s.est.state = .invalid ∨ (s.angleValid = true ∧ s.intake.loss = false)

theorem estimateTrusted_iff (s : State) : estimateTrusted s = true ↔ Trusted s := by
  simp [estimateTrusted, Trusted]

theorem Trusted.of_eq {s t : State} (h : Trusted s) (hest : t.est = s.est) (htracker : t.tracker = s.tracker)
    (hintake : t.intake = s.intake) : Trusted t := by
  simpa only [Trusted, State.angleValid, hest, htracker, hintake] using h

theorem trusted_portDFree : PortDFree Trusted where
  queue _ _ h := h.of_eq rfl rfl rfl
  sent _ _ _ h := h.of_eq rfl rfl rfl
  offer _ h := h.of_eq (by simp) (by simp) (by simp)

theorem Effect.trusted {s t : State} (h : Effect s t) (hs : Trusted s) : Trusted t := by
  cases h with
  | lost => exact .inl rfl
  | primed _ hangle hmay =>
    refine .inr ⟨hangle, ?_⟩
    simp only [State.mayPrime, Bool.and_eq_true, Bool.not_eq_true'] at hmay
    exact hmay.1
  | thinned h => exact .inr (hs.resolve_left h)
  | estimated a h => exact .inr (hs.resolve_left h)
  | compose => exact trusted_portDFree.recompose (fun _ _ h => h.of_eq rfl rfl rfl) hs
  | restate => exact trusted_portDFree.queueRestated hs
  | _ => exact hs.of_eq rfl rfl rfl

theorem Effects.trusted {s t : State} (h : Effects s t) (hs : Trusted s) : Trusted t :=
  h.keeps (fun _ _ => Effect.trusted) hs

/-- R63: no move but the tracker's and the loss of the sensor takes the trust away. -/
theorem Move.trusted {c : Instr} {s t : State} (hpulse : ∀ m, c ≠ .indexPulse m) (hlost : ∀ m, c ≠ .indexLost m)
    (hsensor : ∀ m, c ≠ .sensorLoss m) (h : Move c s t) (hs : Trusted s) : Trusted t := by
  cases h with
  | effect h => exact h.trusted hs
  | framer link => cases link <;> exact hs.of_eq rfl rfl rfl
  | switch sw => cases sw <;> exact hs.of_eq rfl rfl rfl
  | tracker _ _ hc =>
    rcases hc with ⟨m, hc⟩ | ⟨m, hc⟩
    · exact absurd hc (hpulse m)
    · exact absurd hc (hlost m)
  | intake x _ hloss =>
    refine hs.imp id fun ⟨hangle, hheard⟩ => ⟨hangle, ?_⟩
    rcases hx : x.loss with _ | _
    · rfl
    · rcases hloss hx with h | ⟨m, hc⟩
      · rw [hheard] at h; cases h
      · exact absurd hc (hsensor m)
  | accumulated theta =>
    refine hs.imp (fun h => ?_) id
    rw [← h]
    unfold Estimator.accumulate; repeat' split
    all_goals rfl
  | stored m r =>
    have hsame := storeWrite_same r.object r.index.toNat r.words s
    exact hs.of_eq hsame.est hsame.tracker hsame.intake
  | orphaned => exact trusted_portDFree.queueOrphan hs
  | freedD => exact trusted_portDFree.kickD (trusted_portDFree.queue s _ hs)
  | joinedD => exact trusted_portDFree.kickD (trusted_portDFree.queue s _ hs)
  | demandJoined => exact trusted_portDFree.kickD (trusted_portDFree.queue s _ hs)
  | soft => unfold resumeTrip; split <;> exact .inl rfl
  | power | hold => exact .inl rfl
  | _ => exact hs.of_eq rfl rfl rfl

/-! ### The estimator INVALID -/

/-- R63: the estimator enters INVALID, whatever follows it. -/
theorem estimatorInvalid_state (ch : Choice) (s : State) : (estimatorInvalid ch s).est.state = .invalid := by
  unfold estimatorInvalid; split
  · assumption
  · rfl
  · refine inOrder_keeps (fun t => t.est.state = .invalid) rfl fun f hf t ht => ?_
    simp only [List.mem_cons, List.not_mem_nil, or_false] at hf
    rcases hf with rfl | rfl | rfl <;> simpa using ht

/-- R47: with the angle the estimate is lost. -/
theorem angleLost_state (ch : Choice) (s : State) : (angleLost ch s).est.state = .invalid := by
  refine inOrder_brings (fun t => t.est.state = .invalid) (fun f hf t ht => ?_)
    ⟨estimatorInvalid ch, by simp, estimatorInvalid_state ch⟩
  simp only [List.mem_cons, List.not_mem_nil, or_false] at hf
  rcases hf with rfl | rfl | rfl | rfl
  · exact estimatorInvalid_state ch t
  all_goals simpa using ht

/-- R40 to R45, R47: a pulse that does not lose the angle leaves a tracker as it was, or invalid before, or LOCKED. -/
theorem Tracker.pulse_not_lost {now : Time} {driveSpeed : Option Int} {t : Tracker} (hsound : trackerSound t = true)
    (h : (t.pulse now driveSpeed).2 ≠ .lost) :
    (t.pulse now driveSpeed).1 = t ∨ t.state ≠ .locked ∨ (t.pulse now driveSpeed).1.state = .locked := by
  by_cases hlocked : t.state = .locked
  swap; · exact .inr (.inl hlocked)
  revert h
  unfold Tracker.pulse; split
  · simp_all
  · rename_i hnone _
    simp [trackerSound, hlocked, hnone] at hsound
  · split
    · exact fun _ => .inl rfl
    · unfold Tracker.accept; split
      · simp [hlocked]
      · dsimp only
        generalize Tracker.timed now _ _ = t'
        rw [hlocked]
        cases hstate : t'.state <;> simp [timedOutcome]

theorem indexPulse_trusted (ch : Choice) {s : State} (hsound : trackerSound s.tracker = true) (hs : Trusted s) : Trusted (indexPulse ch s) := by
  unfold indexPulse; dsimp only
  by_cases hlost : (s.tracker.pulse s.now s.driveSpeed).2 = .lost
  · rw [hlost]; exact .inl (angleLost_state ch _)
  · have hangle : (s.tracker.pulse s.now s.driveSpeed).2 = .closed ∨ (s.tracker.pulse s.now s.driveSpeed).2 = .gained →
        (judgeValve { s with tracker := (s.tracker.pulse s.now s.driveSpeed).1 }).angleValid = true := fun h => by
      simp [State.angleValid, Tracker.pulse_locked h]
    refine (handPulse_effects ch hangle).trusted ?_
    rcases hs with hinv | ⟨hvalid, hheard⟩
    · exact .inl (by simpa using hinv)
    · refine .inr ⟨?_, by simpa using hheard⟩
      simp only [State.angleValid, beq_iff_eq] at hvalid
      rcases Tracker.pulse_not_lost hsound hlost with heq | hne | hlocked
      · simp [State.angleValid, heq, hvalid]
      · exact absurd hvalid hne
      · simp [State.angleValid, hlocked]

theorem indexLost_trusted (ch : Choice) {s : State} (hs : Trusted s) : Trusted (indexLost ch s) := by
  unfold indexLost; split
  · dsimp only; split
    · exact .inl (angleLost_state ch _)
    · rename_i hangle
      exact .inl (hs.resolve_right fun h => hangle h.1)
  · exact hs

theorem sensorLost_trusted (ch : Choice) {s : State} (hs : Trusted s) : Trusted (sensorLost ch s) := by
  unfold sensorLost; split
  · refine .inl (inOrder_brings (fun t => t.est.state = .invalid) (fun f hf t ht => ?_)
      ⟨estimatorInvalid ch, by simp, estimatorInvalid_state ch⟩)
    simp only [List.mem_cons, List.not_mem_nil, or_false] at hf
    rcases hf with rfl | rfl
    · simpa using ht
    · exact estimatorInvalid_state ch t
  · exact hs

/-- What a command's effect keeps at its moment the command keeps. -/
theorem happen_keeps {P : State → Prop} {m : Moment} {f : State → State} {s t : State} (hs : P s)
    (hf : P (tick m s) → P (f (tick m s))) (htick : P s → P (tick m s)) (ht : happen m f s = .next t) : P t := by
  cases hheld : s.held with
  | true => rw [happen_held hheld] at ht; cases ht; exact hs
  | false => rw [happen_live hheld] at ht; cases ht; exact hf (htick hs)

theorem exec_trusted {c : Instr} {s t : State} (ht : exec c s = .next t) (hsound : trackerSound s.tracker = true)
    (hs : Trusted s) : Trusted t := by
  have htick : ∀ m, Trusted s → Trusted (tick m s) := fun m h => h.of_eq (by simp) (by simp) (by simp)
  cases c with
  | indexPulse m => exact happen_keeps hs (indexPulse_trusted _ (by simpa using hsound)) (htick m) ht
  | indexLost m => exact happen_keeps hs (indexLost_trusted _) (htick m) ht
  | sensorLoss m => exact happen_keeps hs (sensorLost_trusted _) (htick m) ht
  | _ => exact (exec_moves ht).keeps (fun _ _ => Move.trusted (by simp) (by simp) (by simp)) hs

/-! ### The tracker -/

theorem Move.trackerSound {c : Instr} {s t : State} (h : Move c s t) (hs : trackerSound s.tracker = true) :
    trackerSound t.tracker = true := by
  cases h with
  | effect h => rw [h.sameInputs.tracker]; exact hs
  | framer link => cases link <;> exact hs
  | switch sw => cases sw <;> exact hs
  | tracker x h => exact h hs
  | stored => rw [(storeWrite_same _ _ _ s).tracker]; exact hs
  | orphaned =>
    exact PortDFree.queueOrphan (P := fun u => Safety.trackerSound u.tracker = true)
      ⟨fun _ _ h => h, fun _ _ _ h => h, fun _ h => by simpa using h⟩ hs
  | freedD | joinedD | demandJoined => simpa [freeD] using hs
  | soft => unfold resumeTrip; split <;> rfl
  | power | hold => rfl
  | _ => exact hs

theorem step_trackerSound {s t : State} (hstep : step s = .next t) (hs : trackerSound s.tracker = true) :
    trackerSound t.tracker = true :=
  step_keeps (P := fun u => trackerSound u.tracker = true) (fun _ _ h => h) (fun _ _ _ => Move.trackerSound) hstep hs

/-- What every command keeps every step keeps. -/
theorem step_keeps_of_exec {P : State → Prop} (hpending : ∀ (s : State) (q : List Instr), P s → P { s with pending := q })
    (hexec : ∀ (c : Instr) (s t : State), exec c s = .next t → P s → P t) {s t : State} (h : step s = .next t)
    (hs : P s) : P t := by
  unfold step at h; split at h
  · cases h; exact hs
  · exact hexec _ _ _ h (hpending _ _ hs)

/-- Settles O58: each move keeps the tracker and the estimator, and every command the trust in the estimate. -/
theorem estimateKept : Obligations.EstimateKept := by
  intro s t htracker hsound hrange htrusted hax hay hstep
  have hfield : ∀ z : Int, within (-8000) 8000 z = true ↔ z.natAbs ≤ 8000 := fun z => by rw [within_iff]; omega
  have hest : EstKept t :=
    step_keeps (fun _ _ h => ⟨h.sound, h.range, h.ax, h.ay⟩) (fun _ _ _ => Move.estKept) hstep
      ⟨hsound, (estimateInRange_iff _).mp hrange, (hfield _).mp hax, (hfield _).mp hay⟩
  have htrust : trackerSound t.tracker = true ∧ Trusted t :=
    step_keeps_of_exec (P := fun u => trackerSound u.tracker = true ∧ Trusted u)
      (fun _ _ h => ⟨h.1, h.2.of_eq rfl rfl rfl⟩)
      (fun _ _ _ hexec h => ⟨(exec_moves hexec).keeps
        (P := fun u => trackerSound u.tracker = true) (fun _ _ => Move.trackerSound) h.1,
        exec_trusted hexec h.1 h.2⟩)
      hstep ⟨htracker, (estimateTrusted_iff s).mp htrusted⟩
  exact ⟨step_trackerSound hstep htracker, hest.sound, (estimateInRange_iff _).mpr hest.range,
    (estimateTrusted_iff t).mpr htrust.2, (hfield _).mpr hest.ax, (hfield _).mpr hest.ay⟩

end Sys2Proof.Machine
end

section
/-! SUPPORT. The pins and the ring: VALVE at a moment, the flow pulse in each state of the injection context, the timers of the ring and of the monitor counter (chapters 3, 7, 9). -/

namespace Sys2Proof.Machine
open Sys2Proof.Safety

/-! ### The state, field by field -/

/-- Two states with the same fields are the same. -/
theorem State.eq_of_fields {s t : State} (now : s.now = t.now) (held : s.held = t.held)
    (framerC : s.framerC = t.framerC) (framerD : s.framerD = t.framerD) (framerS : s.framerS = t.framerS)
    (rxC : s.rxC = t.rxC) (rxD : s.rxD = t.rxD) (classTable : s.classTable = t.classTable)
    (requested : s.requested = t.requested) (drive : s.drive = t.drive) (silence : s.silence = t.silence)
    (portC : s.portC = t.portC) (portD : s.portD = t.portD) (standing : s.standing = t.standing)
    (intake : s.intake = t.intake) (lid : s.lid = t.lid) (strike : s.strike = t.strike)
    (tracker : s.tracker = t.tracker) (est : s.est = t.est) (weigh : s.weigh = t.weigh)
    (loadClass : s.loadClass = t.loadClass) (gov : s.gov = t.gov) (tables : s.tables = t.tables)
    (spin : s.spin = t.spin) (service : s.service = t.service) (limits : s.limits = t.limits)
    (session : s.session = t.session) (ring : s.ring = t.ring) (trip : s.trip = t.trip)
    (events : s.events = t.events) (monitor : s.monitor = t.monitor) (requests : s.requests = t.requests)
    (pending : s.pending = t.pending) : s = t := by
  cases s; cases t
  simp only [State.mk.injEq]
  exact ⟨now, held, framerC, framerD, framerS, rxC, rxD, classTable, requested, drive, silence, portC, portD, standing,
    intake, lid, strike, tracker, est, weigh, loadClass, gov, tables, spin, service, limits, session, ring, trip, events,
    monitor, requests, pending⟩

/-! ### VALVE at a moment -/

/-- R126: VALVE is not among what VALVE is judged by. -/
theorem judgeValve_judgeValve (s : State) : judgeValve (judgeValve s) = judgeValve s := rfl

/-- R126: the window of a chamber, as a range of nozzle angles taken modulo one revolution. -/
theorem inWindow_iff {guard : Nat} (hguard : guard ≤ 4096) (chamber : Fin 4) (phi : Nat) :
    inWindow chamber guard (phi % Config.turn) = true ↔
      ∃ k : Int, (chamber.val : Int) * 16384 - 8192 + guard ≤ (phi : Int) + k * 65536 ∧
        (phi : Int) + k * 65536 < (chamber.val : Int) * 16384 + 8192 - guard := by
  have hchamber := chamber.isLt
  rw [inWindow, decide_eq_true_iff]
  simp only [Config.turn]
  constructor
  · intro h
    refine ⟨-(((phi : Int) - ((chamber.val : Int) * 16384 - 8192 + guard)) / 65536), ?_, ?_⟩ <;> omega
  · rintro ⟨k, hlo, hhi⟩
    omega

/-- R50: the angle of this moment, and what it takes to have one. -/
theorem thetaNow_eq_some_iff {s : State} {theta : Nat} :
    s.thetaNow = some theta ↔
      ∃ since p, s.tracker.state = .locked ∧ s.tracker.lastIndex = some since ∧ s.tracker.period = some p ∧
        angleAt (elapsed s.now since) p = theta := by
  unfold State.thetaNow
  split
  next since p hstate hlast hperiod => simp [hstate, hlast, hperiod]
  next hnone =>
    simp only [reduceCtorEq, false_iff]
    rintro ⟨since, p, hstate, hlast, hperiod, -⟩
    exact hnone _ _ hstate hlast hperiod

/-- R126: the three conditions for VALVE to be open. -/
theorem valveOpen_iff {s : State} (hguard : s.spin.guardAngle ≤ 4096) :
    s.valveOpen = true ↔ s.ring.ctx.state = .active ∧ ∃ theta, s.thetaNow = some theta ∧
      ∃ k : Int, (s.ring.ctx.chamber.val : Int) * 16384 - 8192 + s.spin.guardAngle ≤
          ((theta + s.spin.nozzleOffset + s.ring.lead : Nat) : Int) + k * 65536 ∧
        ((theta + s.spin.nozzleOffset + s.ring.lead : Nat) : Int) + k * 65536 <
          (s.ring.ctx.chamber.val : Int) * 16384 + 8192 - s.spin.guardAngle := by
  unfold State.valveOpen State.nozzleAngle
  cases hangle : s.thetaNow with
  | none => simp
  | some theta => simp [inWindow_iff hguard]

/-- R126: VALVE_WINDOW_EDGE does nothing but what every moment does. -/
theorem exec_valveWindowEdge {s : State} (hheld : s.held = false) (m : Moment) :
    exec (.valveWindowEdge m) s = .next (tick m s) :=
  happen_live hheld m judgeValve

/-- Settles O3: VALVE at the moment is `valveOpen` of the state with the timebase advanced. -/
theorem valveWindow : Obligations.ValveWindow := by
  intro m s hheld hguard
  refine ⟨tick m s, exec_valveWindowEdge hheld m, ?_, rfl, rfl⟩
  have hopen := valveOpen_iff (s := { s with now := s.now + m.elapsed }) hguard
  simp only [thetaNow_eq_some_iff] at hopen
  rw [show (tick m s).ring.valve = State.valveOpen { s with now := s.now + m.elapsed } from rfl, hopen]
  simp only [angleAt, Config.turn, Nat.cast_add]
  refine and_congr_right fun _ => ⟨?_, ?_⟩
  · rintro ⟨theta, ⟨since, p, hstate, hlast, hperiod, htheta⟩, k, hk⟩
    exact ⟨since, p, theta, k, hstate, hlast, hperiod, htheta.symm, hk⟩
  · rintro ⟨since, p, theta, k, hstate, hlast, hperiod, htheta, hk⟩
    exact ⟨theta, ⟨since, p, hstate, hlast, hperiod, htheta.symm⟩, k, hk⟩

/-! ### The event unit -/

/-- R149: a kind judged again has its condition as its live value. -/
@[simp] theorem judgeLive_live (k : Kind) (s : State) :
    (judgeLive k s).events.live.getLsbD k.number.val = s.condition k := offerLive_live ..

/-- R149: a kind judged again moves the event unit and, by its notice, Port C alone. -/
theorem judgeLive_frame (k : Kind) (s : State) :
    judgeLive k s = { s with events := (judgeLive k s).events, portC := (judgeLive k s).portC } := offerLive_frame ..

/-- R149, step 1. -/
theorem latched_latch (k : Fin 16) (e : Events) : (e.latched k).latch.getLsbD k.val = true := setBit_same ..

/-- R149, step 2. -/
theorem latched_counts (k : Fin 16) (e : Events) : (e.latched k).counts[k] = e.counts[k] + 1 := by
  simp [Events.latched]

/-! ### The tail, the bleed and the stray run -/

/-- R132: the tail that has run its time closes, and nothing else moves. -/
theorem tailExpires_due {s : State} (h : s.tailDue = true) :
    tailExpires s = { s with ring := { s.ring with ctx := { s.ring.ctx with state := .closed } } } := if_pos h

theorem tailDue_iff (s : State) :
    s.tailDue = true ↔ s.ring.ctx.state = .tail ∧ s.spin.flowTail * 1000 ≤ elapsed s.now s.ring.ctx.endTime := by
  simp only [State.tailDue, Bool.and_eq_true, beq_iff_eq, decide_eq_true_eq]
  rfl

theorem bleedDue_iff (s : State) :
    s.bleedDue = true ↔ ∃ since, s.ring.bleed = some since ∧ 100000 ≤ elapsed s.now since := by
  unfold State.bleedDue
  cases s.ring.bleed with
  | none => simp
  | some since => simp only [decide_eq_true_eq, Option.some.injEq, exists_eq_left']; rfl

/-- R127: the chamber of the context is credited, held at CHAMBER_CAP. -/
theorem creditedContents_same (s : State) :
    (creditedContents s)[s.ring.ctx.chamber] =
      min s.spin.chamberCap (s.ring.contents[s.ring.ctx.chamber] + s.spin.flowGrams) := by
  simp [creditedContents]

/-- R127: the other chambers stand. -/
theorem creditedContents_other (s : State) {d : Fin 4} (h : d ≠ s.ring.ctx.chamber) :
    (creditedContents s)[d] = s.ring.contents[d] := by
  have hne : s.ring.ctx.chamber.val ≠ d.val := fun heq => h (Fin.ext heq.symm)
  simp [creditedContents, Vector.getElem_set_ne _ _ hne]

/-- R135: each content falls by BLEED_RATE. -/
theorem bledContents (rate : Nat) (v : Vector Nat 4) (d : Fin 4) :
    (mapAll (fun g => g - rate) v)[d] = v[d] - rate := by
  simp [mapAll]

/-- Settles O43: each of the three is one assignment to the ring, with RING_FULL judged after a credit or a bleed. -/
theorem tailAndBleed : Obligations.TailAndBleed := by
  refine ⟨fun m s hheld htail hdue => ?_, fun m s since hheld hbleed hdue => ?_, fun m s hheld htail => ?_⟩
  · have htailDue : (tick m s).tailDue = true := (tailDue_iff _).mpr ⟨htail, hdue⟩
    exact ⟨_, happen_live hheld m _, tailExpires_due htailDue⟩
  · have hbleedDue : (tick m s).bleedDue = true := (bleedDue_iff _).mpr ⟨since, hbleed, hdue⟩
    refine ⟨_, (happen_live hheld m bleeds).trans (congrArg _ (if_pos hbleedDue)), ?_⟩
    unfold bleedOnce
    refine ⟨fun d => ?_, ?_, ?_, ?_, ?_⟩
    · simp only [judgeLive_kept, tick_ring, tick_kept, bledContents]
      omega
    · simp
    · simp
    · simp
    · conv_lhs => rw [judgeLive_frame]
      simp
  · have hpulse : flowPulse m.choice (tick m s) = creditTail (tick m s) := by simp [flowPulse, htail]
    refine ⟨_, (happen_live hheld m _).trans (congrArg _ hpulse), ⟨?_, fun d hd => ?_⟩, ?_, ?_⟩
    · simpa [creditTail] using creditedContents_same (tick m s)
    · simpa [creditTail] using creditedContents_other (tick m s) (by simpa using hd)
    · simp [creditTail]
    · unfold creditTail
      conv_lhs => rw [judgeLive_frame]
      simp

/-- R133: the stray run goes on. -/
theorem strayExtends_iff (s : State) :
    strayExtends s = true ↔ s.ring.strayCount = 0 ∨ elapsed s.now s.ring.strayTime ≤ 1000000 := by
  simp only [strayExtends, Bool.or_eq_true, beq_iff_eq, decide_eq_true_eq]
  rfl

/-- R134: the fifth pulse of a run. -/
theorem strayPulse_fifth {s : State} (h : strayExtends s = true) (hcount : 4 ≤ s.ring.strayCount) :
    strayPulse s = latchKind .injectionFault
      { s with ring := { s.ring with available := false, strayCount := 0, strayTime := s.now } } := by
  simp [strayPulse, h, hcount]

/-- R133: a pulse that is not the fifth of a run. -/
theorem strayPulse_counts {s : State} (h : ¬(strayExtends s = true ∧ 4 ≤ s.ring.strayCount)) :
    strayPulse s = { s with ring :=
      { s.ring with strayCount := if strayExtends s then s.ring.strayCount + 1 else 1, strayTime := s.now } } := by
  simp [strayPulse, h]

/-- Settles O41: the fifth pulse within the gap against every other one. -/
theorem strayRun : Obligations.StrayRun := by
  intro m s hheld hctx hcount
  have hpulse : flowPulse m.choice (tick m s) = strayPulse (tick m s) := by
    rcases hctx with h | h <;> simp [flowPulse, h]
  have hextends := strayExtends_iff (tick m s)
  simp only [tick_now, tick_ring] at hextends
  refine ⟨_, (happen_live hheld m _).trans (congrArg _ hpulse), ?_⟩
  by_cases hfifth : strayExtends (tick m s) = true ∧ 4 ≤ (tick m s).ring.strayCount
  · obtain ⟨hrun, hfour⟩ := hfifth
    rw [strayPulse_fifth hrun hfour]
    simp only [tick_ring] at hfour
    have hgap := (hextends.mp hrun).resolve_left (by omega)
    refine ⟨by simp, by simp, by simp, by omega, by omega, by omega, fun _ _ => ⟨by simp, by simp, ?_, ?_⟩,
      fun hnot => absurd ⟨by omega, hgap⟩ hnot⟩
    · exact latched_latch 5 _
    · exact latched_counts 5 _
  · rw [strayPulse_counts hfifth]
    simp only [tick_ring, hextends] at hfifth
    simp only [hextends]
    refine ⟨by simp, by simp, by simp, fun h => by simp [h], fun h hgap => by simp; omega, fun h hlt hgap => by simp; omega, fun h hgap => ?_,
      fun _ => by simp⟩
    exact absurd ⟨.inr hgap, by omega⟩ hfifth

end Sys2Proof.Machine
end

section
/-! SUPPORT. The management agent's answers that need no more than the event unit: TRANSFER, SET BITS and CLEAR BITS, ACKNOWLEDGE IF, CLEAR TRIP and the refusals, and the expiry of the monitor period (chapters 9, 10). -/

namespace Sys2Proof.Machine
open Sys2Proof.Safety

/-! ### A response that waits -/

/-- Log 9: the response `f` waits at place `n` of the local queue of a transmitting Port C. -/
def AnswerStands (n : Nat) (f : QFrame) (s : State) : Prop := s.portC.sending ≠ none ∧ s.portC.localQ[n]? = some f

/-- R12: a frame of another property is not replaced. -/
theorem replaceFirst_getElem? {same : QFrame → Bool} {f g : QFrame} {q : List QFrame} {n : Nat} (h : q[n]? = some f)
    (hsame : same f = false) : (replaceFirst same g q)[n]? = some f := by
  induction q generalizing n with
  | nil => simp at h
  | cons x q ih =>
    unfold replaceFirst
    cases n with
    | zero =>
      obtain rfl : x = f := by simpa using h
      simp [hsame]
    | succ n =>
      split
      · simpa using h
      · simpa using ih (by simpa using h)

/-- R154: a notice or a report offered leaves a frame of another property where it waits. -/
theorem PortC.offerLocal_getElem? {p : PortC} {same : QFrame → Bool} {f g : QFrame} {n : Nat}
    (h : p.localQ[n]? = some f) (hsame : same f = false) : (p.offerLocal same g).localQ[n]? = some f := by
  unfold PortC.offerLocal
  split
  · exact replaceFirst_getElem? h hsame
  · split
    · obtain ⟨hn, -⟩ := List.getElem?_eq_some_iff.mp h
      dsimp only
      rw [List.getElem?_append_left hn, h]
    · exact h

/-- R16: a port that transmits picks nothing. -/
theorem PortC.kick_busy {p : PortC} (h : p.sending ≠ none) (now : Time) : p.kick now = p := by
  simp [PortC.kick, Option.isNone_iff_eq_none, h]

section

variable {n : Nat} {f : QFrame}

theorem offered_answerStands {s : State} {same : QFrame → Bool} (g : QFrame) (h : AnswerStands n f s)
    (hsame : same f = false) (e : Events) :
    AnswerStands n f { s with events := e, portC := (s.portC.offerLocal same g).kick s.now } := by
  obtain ⟨hbusy, hwaits⟩ := h
  have hbusy' : (s.portC.offerLocal same g).sending ≠ none := by simpa using hbusy
  refine ⟨?_, ?_⟩ <;> dsimp only <;> rw [PortC.kick_busy hbusy']
  · exact hbusy'
  · exact PortC.offerLocal_getElem? hwaits hsame

theorem latchKind_answerStands {s : State} (hf : f.cls = responseClass) (h : AnswerStands n f s) (k : Kind) :
    AnswerStands n f (latchKind k s) := by
  unfold latchKind
  split
  · exact offered_answerStands _ h (by rw [sameNotice, hf]; rfl) _
  · exact h

theorem judgeLive_answerStands {s : State} (hf : f.cls = responseClass) (h : AnswerStands n f s) (k : Kind) :
    AnswerStands n f (judgeLive k s) := by
  rcases offerLive_cases k (s.condition k) s with ⟨-, heq⟩ | ⟨-, heq⟩
  · rw [judgeLive, heq]; exact h
  · rw [judgeLive, heq]; split
    · exact latchKind_answerStands hf (by exact h) k
    · exact h

theorem answerStands_portDFree (hf : f.cls = responseClass) : PortDFree (AnswerStands n f) where
  queue _ _ h := h
  sent _ _ _ h := h
  offer _ h := judgeLive_answerStands hf h _

theorem Effect.answerStands {s t : State} (hf : f.cls = responseClass) (h : Effect s t) (hs : AnswerStands n f s) :
    AnswerStands n f t := by
  cases h with
  | latch k => exact latchKind_answerStands hf hs k
  | report => exact offered_answerStands _ hs (by rw [isReport, hf]; rfl) _
  | compose => exact (answerStands_portDFree hf).recompose (fun _ _ h => h) hs
  | restate => exact (answerStands_portDFree hf).queueRestated hs
  | _ => exact hs

/-- Log 9: the response keeps its place before the notices of the same moment. -/
theorem Effects.answerStands {s t : State} (hf : f.cls = responseClass) (h : Effects s t) (hs : AnswerStands n f s) :
    AnswerStands n f t := h.keeps (P := AnswerStands n f) (fun _ _ => Effect.answerStands hf) hs

end

/-- R159: the response that has just joined stands behind what waited. -/
theorem respond_answerStands {s : State} (h : s.portC.sending ≠ none) (r : Request) (status : Byte) (data : List Word) :
    AnswerStands s.portC.localQ.length (responseFrame r status data) (respond r status data s) := by
  rw [respond_busy h]
  exact ⟨h, by simp⟩

/-! ### The monitor counter -/

theorem monitorDue_iff (s : State) :
    s.monitorDue = true ↔ s.monitor.auto = true ∧ ∃ since, s.monitor.timer = some since ∧ 1000000 ≤ elapsed s.now since := by
  unfold State.monitorDue
  cases s.monitor.timer with
  | none => simp
  | some since => simp only [Bool.and_eq_true, decide_eq_true_eq, Option.some.injEq, exists_eq_left']; rfl

/-- R158: after a transfer COUNTER_SATURATED is false. -/
theorem saturated_live_of_zero {s : State} (h : s.monitor.count = 0) :
    (judgeLive .counterSaturated s).events.live.getLsbD 15 = false :=
  (judgeLive_live .counterSaturated s).trans (by simp [State.condition, h])

/-- R167: the front request of TRANSFER is run at its moment. -/
theorem exec_transfer {s : State} {r : Request} {rest : List Request} (m : Moment) (hheld : s.held = false)
    (hr : s.requests = r :: rest) (hop : r.op = 6) (hroom : s.portC.localQ.length < 4) :
    exec (.transfer m) s = .next (runTransfer r { tick m s with requests := rest }) :=
  happen_execute m runTransfer hheld hr (by simp [hop]) hroom

/-- R160, R167: a TRANSFER that fails is only answered. -/
theorem runTransfer_refused {r : Request} {status : Byte} (h : bareFailure r 0x60 = some status) (s : State) :
    runTransfer r s = respond r status [] s := by simp only [runTransfer, h]

/-- R160, R167: the failures of a request that takes one object and no data. -/
theorem bareFailure_of_bad {r : Request} {obj : Byte} (h : r.object ≠ obj ∨ r.data ≠ []) :
    bareFailure r obj = some (if r.object ≠ obj then stUnknownObject else stBadLength) := by
  unfold bareFailure
  split_ifs with hobject hdata
  · rfl
  · rfl
  · exact absurd h (by tauto)

/-- Settles O44: a transfer at an expiry, one at a request, and the refusals, which only answer. -/
theorem monitorTransfers : Obligations.MonitorTransfers := by
  refine ⟨fun m s since hheld hauto htimer hdue => ?_, fun m s tag index rest hheld hr hroom hbusy => ?_,
    fun m s r rest hheld hr hop hroom hbusy hbad => ?_⟩
  · have hdue' : (tick m s).monitorDue = true := (monitorDue_iff _).mpr ⟨hauto, since, htimer, hdue⟩
    refine ⟨_, (happen_live hheld m monitorExpires).trans (congrArg _ (if_pos hdue')), ?_, ?_, ?_⟩
    · simp [monitorTransfer, Monitor.transferred]
    · exact saturated_live_of_zero rfl
    · rw [monitorTransfer]
      conv_lhs => rw [judgeLive_frame]
      simp
  · refine ⟨_, exec_transfer m hheld hr rfl hroom, ?_⟩
    have hrun : ∀ u : State, runTransfer { tag := tag, op := 6, object := 0x60, index := index, data := [] } u =
        judgeLive .counterSaturated (respond { tag := tag, op := 6, object := 0x60, index := index, data := [] } stOk
          [0, uWord u.monitor.count] { u with monitor := u.monitor.transferred }) := fun u => rfl
    rw [hrun]
    refine ⟨?_, ?_, ?_, ?_⟩
    · simp [respond, Monitor.transferred]
    · exact saturated_live_of_zero rfl
    · have hstands := (judgeLive_effects .counterSaturated _).answerStands rfl
        (respond_answerStands (s := { tick m s with requests := rest, monitor := s.monitor.transferred })
          (by simpa using hbusy) { tag := tag, op := 6, object := 0x60, index := index, data := [] } stOk
          [0, uWord s.monitor.count])
      exact hstands.2
    · conv_lhs => rw [judgeLive_frame]
      simp [respond, Monitor.transferred]
  · refine ⟨_, exec_transfer m hheld hr hop hroom, ?_⟩
    rw [runTransfer_refused (bareFailure_of_bad hbad), respond_taken_busy hbusy, responseFrame, responsePayload, hop]
    rfl

/-! ### Elements as data bytes -/

/-- R3: the two bytes of an element give it back. -/
theorem be16_append (w : Word) : w.extractLsb' 8 8 ++ w.extractLsb' 0 8 = w := by
  ext i hi
  simp only [BitVec.getElem_append, BitVec.getElem_extractLsb']
  split <;> grind

theorem dataWords_be16 (w : Word) (rest : List Byte) : dataWords (be16 w ++ rest) = w :: dataWords rest := by
  simp [be16, dataWords, be16_append]

@[simp] theorem dataWords_be16_one (w : Word) : dataWords (be16 w) = [w] := by
  simpa [dataWords] using dataWords_be16 w []

/-! ### SET BITS and CLEAR BITS -/

theorem Events.attnDue_eq (e : Events) : e.attnDue = decide (e.latch &&& e.attention ≠ 0) := by
  unfold Events.attnDue
  rw [bne_eq, decide_not, ← beq_eq_decide]

theorem attnFollows_iff (s : State) :
    attnFollows s = true ↔ s.events.attn = decide (s.events.latch &&& s.events.attention ≠ 0) := by
  rw [attnFollows, beq_iff_eq, Events.attnDue_eq]

/-- R165: the front request of SET BITS is run at its moment. -/
theorem exec_setBits {s : State} {r : Request} {rest : List Request} (m : Moment) (hheld : s.held = false)
    (hr : s.requests = r :: rest) (hop : r.op = 3) (hroom : s.portC.localQ.length < 4) :
    exec (.setBits m) s = .next (runSetBits r { tick m s with requests := rest }) :=
  happen_execute m runSetBits hheld hr (by simp [hop]) hroom

/-- R165: the front request of CLEAR BITS is run at its moment. -/
theorem exec_clearBits {s : State} {r : Request} {rest : List Request} (m : Moment) (hheld : s.held = false)
    (hr : s.requests = r :: rest) (hop : r.op = 4) (hroom : s.portC.localQ.length < 4) :
    exec (.clearBits m) s = .next (runClearBits r { tick m s with requests := rest }) :=
  happen_execute m runClearBits hheld hr (by simp [hop]) hroom

/-- R165: the request's data is one element of the event state that its operation may change. -/
theorem bitsStatus_ok {r : Request} {low : Nat} (hobject : r.object = 0x40) (hdata : r.data.length = 2)
    (hlow : low ≤ r.index.toNat) (hhigh : r.index.toNat ≤ 4) : bitsStatus r low = stOk := by
  unfold bitsStatus
  rw [if_neg (by simp [hobject]), if_neg (by simp [Request.hasWords, hdata]), if_neg (by omega), if_neg (by omega)]

/-- R160, R165: the failures of SET BITS and CLEAR BITS. -/
theorem bitsStatus_of_bad {r : Request} {low : Nat}
    (h : r.object ≠ 0x40 ∨ r.data.length ≠ 2 ∨ r.index.toNat < low ∨ 4 < r.index.toNat) :
    bitsStatus r low = (if r.object ≠ 0x40 then 3 else if r.data.length ≠ 2 then 5
      else if 20 < r.index.toNat then 4 else 6) ∧ bitsStatus r low ≠ stOk := by
  have hwords : (!r.hasWords 1) = true ↔ r.data.length ≠ 2 := by simp [Request.hasWords]
  unfold bitsStatus
  simp only [hwords]
  split_ifs with hobject hdata hindex hrange
  · exact ⟨rfl, by decide⟩
  · exact ⟨rfl, by decide⟩
  · exact ⟨rfl, by decide⟩
  · exact ⟨rfl, by decide⟩
  · exact absurd h (by tauto)

theorem runSetBits_ok {r : Request} {w : Word} (h : bitsStatus r 2 = stOk) (hwords : r.words = [w]) (s : State) :
    runSetBits r s = changeBits r (fun v => v ||| w) s := by
  simp [runSetBits, h, hwords]

theorem runSetBits_refused {r : Request} (h : bitsStatus r 2 ≠ stOk) (s : State) :
    runSetBits r s = respond r (bitsStatus r 2) [] s := if_neg h

theorem runClearBits_ok {r : Request} {w : Word} (h : bitsStatus r 1 = stOk) (hwords : r.words = [w]) (s : State) :
    runClearBits r s = changeBits r (fun v => v &&& ~~~w) s := by
  simp [runClearBits, h, hwords]

theorem runClearBits_refused {r : Request} (h : bitsStatus r 1 ≠ stOk) (s : State) :
    runClearBits r s = respond r (bitsStatus r 1) [] s := if_neg h

theorem byte_cases {b : Byte} (h : b.toNat ≤ 4) : b = 0 ∨ b = 1 ∨ b = 2 ∨ b = 3 ∨ b = 4 := by bv_omega

/-- R165: the words of the event unit that an element change moves. -/
theorem withElement_eq (e : Events) (f : Word → Word) {i : Byte} (hlow : 1 ≤ i.toNat) (hhigh : i.toNat ≤ 4) :
    e.withElement i.toNat f = { e with
      latch := if i = 1 then f e.latch else e.latch
      report := if i = 2 then f e.report else e.report
      attention := if i = 3 then f e.attention else e.attention
      edge := if i = 4 then f e.edge else e.edge
      attn := (e.withElement i.toNat f).attn } := by
  rcases byte_cases hhigh with rfl | rfl | rfl | rfl | rfl
  · exact absurd hlow (by decide)
  all_goals rfl

/-- R153, R165: an element changed moves the event unit and, by the answer, Port C; ATTN follows. -/
theorem changeBits_frame {s : State} (h : attnFollows s = true) (r : Request) (f : Word → Word)
    (hlow : 1 ≤ r.index.toNat) (hhigh : r.index.toNat ≤ 4) :
    (changeBits r f s).events = { s.events with
        latch := if r.index = 1 then f s.events.latch else s.events.latch
        report := if r.index = 2 then f s.events.report else s.events.report
        attention := if r.index = 3 then f s.events.attention else s.events.attention
        edge := if r.index = 4 then f s.events.edge else s.events.edge
        attn := (changeBits r f s).events.attn } ∧
      (changeBits r f s).events.attn =
        decide ((changeBits r f s).events.latch &&& (changeBits r f s).events.attention ≠ 0) ∧
      changeBits r f s = { s with
        portC := (changeBits r f s).portC, events := (changeBits r f s).events } :=
  ⟨withElement_eq _ f hlow hhigh, (attnFollows_iff _).mp (withElement_attn r.index.toNat f h), rfl⟩

/-- Table 10-4: elements 1 to 4 of object 0x40. -/
theorem readWords_element (s : State) {i : Byte} (hlow : 1 ≤ i.toNat) (hhigh : i.toNat ≤ 4) :
    s.readWords 0x40 i.toNat 1 =
      [if i = 1 then s.events.latch else if i = 2 then s.events.report
        else if i = 3 then s.events.attention else s.events.edge] := by
  rcases byte_cases hhigh with rfl | rfl | rfl | rfl | rfl
  · exact absurd hlow (by decide)
  all_goals rfl

/-- R160, R165: while Port C transmits the answer carries the element as it stands after the change. -/
theorem changeBits_portC {s : State} (hbusy : s.portC.sending ≠ none) (r : Request) (f : Word → Word)
    (hlow : 1 ≤ r.index.toNat) (hhigh : r.index.toNat ≤ 4) :
    (changeBits r f s).portC = { s.portC with
      localQ := s.portC.localQ ++
        [responseFrame r stOk
          [if r.index = 1 then (changeBits r f s).events.latch else if r.index = 2 then (changeBits r f s).events.report
            else if r.index = 3 then (changeBits r f s).events.attention else (changeBits r f s).events.edge]] } := by
  have hread := readWords_element { s with events := s.events.withElement r.index.toNat f } hlow hhigh
  unfold changeBits
  dsimp only at hread ⊢
  rw [hread]
  exact congrArg State.portC (respond_busy (by exact hbusy) _ _ _)

/-- Settles O49: the accepted changes element by element, and the refusals. -/
theorem bitsChanged : Obligations.BitsChanged := by
  refine ⟨fun m s tag index w rest hheld hr hroom hlow hhigh hattn => ?_,
    fun m s tag index w rest hheld hr hroom hlow hhigh hattn => ?_,
    fun m s r rest hheld hr hop hroom hbusy hbad => ?_, fun m s r rest hheld hr hop hroom hbusy hbad => ?_⟩
  · let r : Request := { tag := tag, op := 3, object := 0x40, index := index, data := be16 w }
    let u : State := { tick m s with requests := rest }
    have hne : index ≠ 1 := by rintro rfl; exact absurd hlow (by decide)
    have hone : 1 ≤ index.toNat := by omega
    have hrun := runSetBits_ok (r := r) (bitsStatus_ok rfl rfl hlow hhigh) (dataWords_be16_one w) u
    obtain ⟨hevents, hfollows, hframe⟩ :=
      changeBits_frame (s := u) (by exact hattn) r (fun v => v ||| w) hone hhigh
    simp only [r, hne, if_false] at hevents
    refine ⟨_, (exec_setBits m hheld hr rfl hroom).trans (congrArg _ hrun), hevents, hfollows, fun hbusy => ?_, hframe⟩
    have hportC := changeBits_portC (s := u) (by exact hbusy) r (fun v => v ||| w) hone hhigh
    simp only [r, hne, if_false] at hportC
    exact hportC
  · let r : Request := { tag := tag, op := 4, object := 0x40, index := index, data := be16 w }
    let u : State := { tick m s with requests := rest }
    have hrun := runClearBits_ok (r := r) (bitsStatus_ok rfl rfl hlow hhigh) (dataWords_be16_one w) u
    obtain ⟨hevents, hfollows, hframe⟩ :=
      changeBits_frame (s := u) (by exact hattn) r (fun v => v &&& ~~~w) hlow hhigh
    exact ⟨_, (exec_clearBits m hheld hr rfl hroom).trans (congrArg _ hrun), hevents, hfollows,
      fun hbusy => changeBits_portC (s := u) (by exact hbusy) r (fun v => v &&& ~~~w) hlow hhigh, hframe⟩
  · obtain ⟨hstatus, hnot⟩ := bitsStatus_of_bad (low := 2) hbad
    refine ⟨_, (exec_setBits m hheld hr hop hroom).trans (congrArg _ (runSetBits_refused hnot _)), ?_⟩
    rw [respond_taken_busy hbusy, hstatus, responseFrame, responsePayload, hop]
    rfl
  · obtain ⟨hstatus, hnot⟩ := bitsStatus_of_bad (low := 1) hbad
    refine ⟨_, (exec_clearBits m hheld hr hop hroom).trans (congrArg _ (runClearBits_refused hnot _)), ?_⟩
    rw [respond_taken_busy hbusy, hstatus, responseFrame, responsePayload, hop]
    rfl

/-! ### ACKNOWLEDGE IF -/

/-- R166: the front request of ACKNOWLEDGE IF is run at its moment. -/
theorem exec_acknowledgeIf {s : State} {r : Request} {rest : List Request} (m : Moment) (hheld : s.held = false)
    (hr : s.requests = r :: rest) (hop : r.op = 5) (hroom : s.portC.localQ.length < 4) :
    exec (.acknowledgeIf m) s = .next (runAcknowledge r { tick m s with requests := rest }) :=
  happen_execute m runAcknowledge hheld hr (by simp [hop]) hroom

theorem runAcknowledge_refused {r : Request} {status : Byte} (h : ackFailure r = some status) (s : State) :
    runAcknowledge r s = respond r status [] s := by simp only [runAcknowledge, h]

/-- R160, R166: the failures of ACKNOWLEDGE IF. -/
theorem ackFailure_of_bad {r : Request}
    (h : r.object ≠ 0x40 ∨ r.data.length ≠ 4 ∨ 15 < (r.words.getD 0 0).toNat) :
    ackFailure r = some (if r.object ≠ 0x40 then stUnknownObject else if r.data.length ≠ 4 then stBadLength
      else stBadIndex) := by
  have hwords : (!r.hasWords 2) = true ↔ r.data.length ≠ 4 := by simp [Request.hasWords]
  unfold ackFailure
  simp only [hwords]
  split_ifs with hobject hdata hkind
  · rfl
  · rfl
  · rfl
  · exact absurd h (by tauto)

/-- R166: a request of a kind and an expected count has no failure. -/
theorem ackFailure_eq_none {r : Request} (hobject : r.object = 0x40) (hdata : r.data.length = 4)
    (hkind : (r.words.getD 0 0).toNat ≤ 15) : ackFailure r = none := by
  unfold ackFailure
  rw [if_neg (by simp [hobject]), if_neg (by simp [Request.hasWords, hdata]), if_neg (by omega)]

/-- R166: the elements of a request for kind `k`. -/
theorem kindNumber_eq {r : Request} {k : Fin 16} (h : r.words.getD 0 0 = BitVec.ofNat 16 k.val) : r.kindNumber = k := by
  have hk := k.isLt
  apply Fin.ext
  simp only [Request.kindNumber, h, BitVec.toNat_ofNat]
  omega

/-- R151, R166: the latch of kind `k` is set and its count is not the one expected. -/
def AckDiffers (k : Fin 16) (expected : Word) (e : Events) : Prop :=
  e.latch.getLsbD k.val = true ∧ (e.counts[k]).toNat ≠ expected.toNat

/-- R151, R166: an ACKNOWLEDGE IF of kind `k` and an expected count. -/
structure Acknowledges (r : Request) (k : Fin 16) (expected : Word) : Prop where
  object : r.object = 0x40
  data : r.data.length = 4
  words : r.words = [BitVec.ofNat 16 k.val, expected]

section

variable {r : Request} {k : Fin 16} {expected : Word} (h : Acknowledges r k expected)

include h

theorem Acknowledges.kindNumber : r.kindNumber = k := kindNumber_eq (by simp [h.words])

theorem Acknowledges.failure : ackFailure r = none := by
  have hk := k.isLt
  refine ackFailure_eq_none h.object h.data ?_
  simp only [h.words, List.getD_cons_zero, BitVec.toNat_ofNat]
  omega

theorem Acknowledges.differs (e : Events) : ackDiffers r e = true ↔ AckDiffers k expected e := by
  simp [ackDiffers, AckDiffers, h.kindNumber, h.words]

/-- R151, R166: a count that is not the one expected leaves the latch. -/
theorem Acknowledges.run_differs {s : State} (hdiffers : AckDiffers k expected s.events) :
    runAcknowledge r s = respond r stMismatch [(s.events.counts[k]).setWidth 16] s := by
  simp only [runAcknowledge, h.failure, (h.differs _).mpr hdiffers, h.kindNumber, if_true]

/-- R151, R166: the latch clears at the count expected, and stays clear. -/
theorem Acknowledges.run_clears {s : State} (hclears : ¬AckDiffers k expected s.events) :
    runAcknowledge r s = respond r stOk [(s.events.counts[k]).setWidth 16] (clearLatch k s) := by
  simp only [runAcknowledge, h.failure, mt (h.differs _).mp hclears, h.kindNumber, if_false, Bool.false_eq_true]

end

/-- Settles O50: the latch that differs from the count expected, the one that does not, and the refusals. -/
theorem acknowledgeIf : Obligations.AcknowledgeIf := by
  refine ⟨fun m s tag index k expected rest hheld hr hroom hbusy => ?_,
    fun m s r rest hheld hr hop hroom hbusy hbad => ?_⟩
  · have hack : Acknowledges { tag := tag, op := 5, object := 0x40, index := index
                               data := be16 (BitVec.ofNat 16 k.val) ++ be16 expected } k expected :=
      ⟨rfl, rfl, by rw [Request.words, dataWords_be16, dataWords_be16_one]⟩
    refine ⟨_, exec_acknowledgeIf m hheld hr rfl hroom, ?_⟩
    by_cases hit : AckDiffers k expected s.events
    · rw [hack.run_differs (by exact hit), respond_busy (by exact hbusy)]
      unfold AckDiffers at hit
      simp only [hit, ne_eq, not_false_eq_true, and_self, not_true_eq_false, and_false, if_false, if_true,
        false_implies]
      exact ⟨⟨fun _ => rfl, rfl, rfl, trivial, rfl⟩, trivial⟩
    · rw [hack.run_clears (by exact hit), respond_busy (by exact hbusy)]
      unfold AckDiffers at hit
      simp only [hit, not_false_eq_true, and_true, if_false, true_implies]
      refine ⟨⟨fun j => ?_, rfl, rfl, Events.attnDue_eq _, rfl⟩, rfl⟩
      split
      next heq => rw [heq]; exact setBit_same ..
      next hne => exact setBit_other _ _ fun heq => hne (Fin.ext heq)
  · refine ⟨_, exec_acknowledgeIf m hheld hr hop hroom, ?_⟩
    rw [runAcknowledge_refused (ackFailure_of_bad hbad), respond_taken_busy hbusy, responseFrame, responsePayload, hop]
    rfl

end Sys2Proof.Machine
end

section
/-! SUPPORT. The event unit through the shared operations: which kinds an operation can touch; and the session controller's operations one by one: what each leaves in the session, the weighing and the ceilings (chapters 6, 9). -/

namespace Sys2Proof.Machine
open Sys2Proof.Safety

/-! ### The kinds an operation can touch -/

/-- Table 9-1: no two kinds have one number. -/
theorem Kind.number_injective {j k : Kind} (h : j.number = k.number) : j = k := by
  have hlist : ∀ i : Kind, allKinds[i.number.val]? = some i := fun i => by cases i <;> rfl
  have := hlist j
  rw [h, hlist k] at this
  exact (Option.some.inj this).symm

theorem Kind.number_ne {j k : Kind} (h : j ≠ k) : j.number.val ≠ k.number.val := fun heq =>
  h (Kind.number_injective (Fin.ext heq))

/-- R148, R149, R154, R155: the kinds outside `K` stand, their live values, latches and counts; so do the revolution
number, the report count and the report enables; and with no report enable set the local queue of a transmitting Port C
does. -/
structure KindsStand (K : List Kind) (s t : State) : Prop where
  live : ∀ k, k ∉ K → t.events.live.getLsbD k.number.val = s.events.live.getLsbD k.number.val
  latch : ∀ k, k ∉ K → t.events.latch.getLsbD k.number.val = s.events.latch.getLsbD k.number.val
  counts : ∀ k, k ∉ K → t.events.counts[k.number] = s.events.counts[k.number]
  revNumber : t.events.revNumber = s.events.revNumber
  reportCount : t.events.reportCount = s.events.reportCount
  report : t.events.report = s.events.report
  localQ : s.events.report = 0 → s.portC.sending ≠ none →
    t.portC.localQ = s.portC.localQ ∧ t.portC.sending ≠ none

namespace KindsStand

variable {K L : List Kind} {s t u : State}

theorem of_localQ (h : t.events = s.events)
    (hport : s.portC.sending ≠ none → t.portC.localQ = s.portC.localQ ∧ t.portC.sending ≠ none) : KindsStand K s t where
  live _ _ := by rw [h]
  latch _ _ := by rw [h]
  counts _ _ := by rw [h]
  revNumber := by rw [h]
  reportCount := by rw [h]
  report := by rw [h]
  localQ _ := hport

theorem of_events (h : t.events = s.events) (hport : t.portC = s.portC := by rfl) : KindsStand K s t :=
  of_localQ h fun hbusy => by rw [hport]; exact ⟨rfl, hbusy⟩

theorem refl (K : List Kind) (s : State) : KindsStand K s s := .of_events rfl

theorem trans (h : KindsStand K s t) (h' : KindsStand K t u) : KindsStand K s u where
  live k hk := (h'.live k hk).trans (h.live k hk)
  latch k hk := (h'.latch k hk).trans (h.latch k hk)
  counts k hk := (h'.counts k hk).trans (h.counts k hk)
  revNumber := h'.revNumber.trans h.revNumber
  reportCount := h'.reportCount.trans h.reportCount
  report := h'.report.trans h.report
  localQ hnone hbusy := by
    obtain ⟨hqueue, hbusy'⟩ := h.localQ hnone hbusy
    obtain ⟨hqueue', hbusy''⟩ := h'.localQ (h.report.trans hnone) hbusy'
    exact ⟨hqueue'.trans hqueue, hbusy''⟩

theorem mono (h : KindsStand K s t) (hKL : K ⊆ L := by decide) : KindsStand L s t :=
  { h with
    live := fun k hk => h.live k fun hmem => hk (hKL hmem)
    latch := fun k hk => h.latch k fun hmem => hk (hKL hmem)
    counts := fun k hk => h.counts k fun hmem => hk (hKL hmem) }

/-- What a later state's kinds stand by, an earlier one with the same event unit and Port C does too. -/
theorem after (h : KindsStand K t u) (hevents : t.events = s.events := by rfl) (hport : t.portC = s.portC := by rfl) :
    KindsStand K s u :=
  (of_events hevents hport).trans h

/-- Log 5: effects of one moment touch what each of them touches. -/
theorem inOrder {code : List Nat} {fs : List (State → State)} (h0 : KindsStand K s t)
    (h : ∀ f ∈ fs, ∀ u, KindsStand K u (f u)) : KindsStand K s (inOrder code fs t) :=
  inOrder_keeps (KindsStand K s) h0 fun f hf u hu => hu.trans (h f hf u)

end KindsStand

theorem latchKind_kinds (k : Kind) (s : State) : KindsStand [k] s (latchKind k s) where
  live _ _ := by simp
  latch j hj := by
    have hne : j ≠ k := by simpa using hj
    exact setBit_other _ _ (Kind.number_ne hne)
  counts j hj := by
    have hne : j ≠ k := by simpa using hj
    have := Kind.number_ne hne.symm
    simp [Events.latched, Vector.getElem_set_ne _ _ this]
  revNumber := rfl
  reportCount := rfl
  report := rfl
  localQ hnone hbusy := by
    rw [latchKind_portC_of_report hnone]
    exact ⟨rfl, hbusy⟩

theorem judgeLive_kinds (k : Kind) (s : State) : KindsStand [k] s (judgeLive k s) := by
  rcases offerLive_cases k (s.condition k) s with ⟨-, heq⟩ | ⟨-, heq⟩
  · rw [judgeLive, heq]; exact .refl _ _
  · rw [judgeLive, heq]
    refine .trans (t := { s with events := { s.events with live := setBit s.events.live k.number (s.condition k) } })
      ⟨fun j hj => ?_, fun _ _ => rfl, fun _ _ => rfl, rfl, rfl, rfl, fun _ hbusy => ⟨rfl, hbusy⟩⟩ ?_
    · have hne : j ≠ k := by simpa using hj
      exact setBit_other _ _ (Kind.number_ne hne)
    · split
      · exact latchKind_kinds _ _
      · exact .refl _ _

theorem countSource_kinds (src : Source) (s : State) : KindsStand [.counterSaturated] s (countSource src s) := by
  unfold countSource; split
  · exact (judgeLive_kinds .counterSaturated _).after
  · exact .refl _ _

theorem kindsStand_portDFree {K : List Kind} (h : [.governing] ⊆ K) (s : State) : PortDFree (KindsStand K s) where
  queue _ _ hs := hs.trans (.of_events rfl)
  sent _ _ _ hs := hs.trans (.of_events rfl)
  offer _ hs := hs.trans ((judgeLive_kinds _ _).mono h)

theorem recompose_kinds (s : State) : KindsStand [.governing] s (recompose s) :=
  (kindsStand_portDFree (List.Subset.refl _) s).recompose (fun _ _ h => h.trans (.of_events rfl)) (.refl _ _)

theorem queueRestated_kinds (s : State) : KindsStand [.governing] s (queueRestated s) :=
  (kindsStand_portDFree (List.Subset.refl _) s).queueRestated (.refl _ _)

theorem kickD_kinds (s : State) : KindsStand [.governing] s (kickD s) :=
  (kindsStand_portDFree (List.Subset.refl _) s).kickD (.refl _ _)

theorem envelopeRevised_kinds (s : State) : KindsStand [.governing] s (envelopeRevised s) := by
  unfold envelopeRevised; split
  · exact (recompose_kinds _).after
  · exact .refl _ _

theorem setLoadClass_kinds (c : Nat) (s : State) : KindsStand [.governing] s (setLoadClass c s) := by
  unfold setLoadClass; split
  · exact .refl _ _
  · exact (envelopeRevised_kinds _).after

theorem armWeighing_kinds (s : State) : KindsStand [.governing] s (armWeighing s) :=
  (setLoadClass_kinds _ _).after

theorem failWeighing_kinds (s : State) : KindsStand [.governing] s (failWeighing s) :=
  (setLoadClass_kinds _ _).after

theorem endWeighing_kinds (s : State) : KindsStand [.governing] s (endWeighing s) := by
  unfold endWeighing; split
  · split
    · exact failWeighing_kinds s
    · exact (setLoadClass_kinds _ _).after
  · exact .refl _ _

theorem abandonWeighing_kinds (s : State) : KindsStand [.governing] s (abandonWeighing s) := by
  unfold abandonWeighing; split
  · exact failWeighing_kinds s
  · exact .refl _ _

/-- R116, R117: the kinds that an entry to a session state can touch. -/
abbrev sessionKinds : List Kind := [.governing, .redistribute, .limited]

theorem setSession_kinds (ch : Choice) (st : SessionState) (s : State) : KindsStand sessionKinds s (setSession ch st s) := by
  refine .inOrder (.of_events rfl) fun f hf u => ?_
  simp only [sessionEvents, List.cons_append, List.nil_append, List.mem_cons, List.not_mem_nil, or_false] at hf
  rcases hf with rfl | rfl | rfl
  · exact (judgeLive_kinds _ _).mono
  · exact (judgeLive_kinds _ _).mono
  · exact (recompose_kinds _).mono

theorem enterIdle_kinds (ch : Choice) (s : State) : KindsStand sessionKinds s (enterIdle ch s) :=
  (setSession_kinds _ _ _).after

theorem retainCheck_kinds (ch : Choice) (s : State) : KindsStand sessionKinds s (retainCheck ch s) := by
  unfold retainCheck; split
  · split
    · exact (enterIdle_kinds _ _).after
    · exact enterIdle_kinds _ _
    · exact .refl _ _
  · exact .refl _ _

theorem enterDwell_kinds (ch : Choice) (s : State) : KindsStand sessionKinds s (enterDwell ch s) :=
  ((setSession_kinds ch .dwell _).after).trans (endWeighing_kinds _).mono

theorem climbCheck_kinds (ch : Choice) (s : State) : KindsStand sessionKinds s (climbCheck ch s) := by
  unfold climbCheck; split
  · split
    · split
      · exact enterDwell_kinds ch s
      · exact .refl _ _
    · exact .refl _ _
  · exact .refl _ _

theorem enterClimb_kinds (ch : Choice) (s : State) : KindsStand sessionKinds s (enterClimb ch s) := by
  refine .inOrder (.of_events rfl) fun f hf u => ?_
  simp only [sessionEvents, List.cons_append, List.nil_append, List.mem_cons, List.not_mem_nil, or_false] at hf
  rcases hf with rfl | rfl | rfl | rfl
  · exact (judgeLive_kinds _ _).mono
  · exact (judgeLive_kinds _ _).mono
  · exact (recompose_kinds _).mono
  · exact climbCheck_kinds ch u

theorem enterOpen_kinds (ch : Choice) (s : State) : KindsStand sessionKinds s (enterOpen ch s) :=
  (setSession_kinds _ _ _).after

theorem enterClimbOrOpen_kinds (ch : Choice) (s : State) : KindsStand sessionKinds s (enterClimbOrOpen ch s) := by
  unfold enterClimbOrOpen; split
  · exact enterClimb_kinds ch s
  · exact enterOpen_kinds ch s

theorem settleCheck_kinds (ch : Choice) (s : State) : KindsStand sessionKinds s (settleCheck ch s) := by
  unfold settleCheck; split
  · split
    · split
      · exact enterDwell_kinds ch s
      · exact .refl _ _
    · exact .refl _ _
  · exact .refl _ _

/-! ### The weighing -/

/-- R72: a weighing that fails. -/
theorem failWeighing_weigh (s : State) :
    (failWeighing s).weigh = { s.weigh with state := .failed, j := 0 } ∧
      (failWeighing s).loadClass = s.spin.defaultClass := by
  simp [failWeighing]

/-- R71: no weighing is left ARMED at its end. -/
theorem endWeighing_not_armed (s : State) : (endWeighing s).weigh.state ≠ .armed := by
  unfold endWeighing
  split
  · split
    · simp [failWeighing_weigh]
    · simp
  · assumption

/-- R71: only an ARMED weighing ends. -/
theorem endWeighing_of_not_armed {s : State} (h : s.weigh.state ≠ .armed) : endWeighing s = s := if_neg h

/-- R72: an ARMED weighing is abandoned, and no other. -/
theorem abandonWeighing_weigh (s : State) :
    (abandonWeighing s).weigh =
      if s.weigh.state = .armed then { s.weigh with state := .failed, j := 0 } else s.weigh := by
  unfold abandonWeighing
  split
  · exact (failWeighing_weigh s).1
  · rfl

/-! ### Entering a state -/

/-- R97: the current plateau is a matter of the program, the request and the marks. -/
theorem currentPlateau_congr {s t : State} (htables : t.tables = s.tables) (hrequested : t.requested = s.requested)
    (hprogress : t.session.progress = s.session.progress) : t.currentPlateau = s.currentPlateau := by
  simp only [State.currentPlateau, State.applies, htables, hrequested, hprogress]

/-- Log 5: what one of the effects brings about from wherever the others lead, and none undoes there, holds at the end. -/
theorem inOrder_brings_under (I P : State → Prop) {code : List Nat} {fs : List (State → State)} {s : State} (h0 : I s)
    (hI : ∀ f ∈ fs, ∀ t, I t → I (f t)) (hP : ∀ f ∈ fs, ∀ t, I t → P t → P (f t))
    (hg : ∃ g ∈ fs, ∀ t, I t → P (g t)) : P (inOrder code fs s) := by
  have hall : ∀ (l : List (State → State)) (u : State), I u → (∀ f ∈ l, f ∈ fs) → (P u ∨ ∃ g ∈ l, ∀ t, I t → P (g t)) →
      P (inTurn l u) := by
    intro l
    induction l with
    | nil => exact fun u _ _ h => h.resolve_right (by simp)
    | cons f l ih =>
      intro u hu hmem h
      have hf := hmem f (by simp)
      refine ih (f u) (hI f hf u hu) (fun g hgl => hmem g (by simp [hgl])) ?_
      rcases h with h | ⟨g, hgl, hbrings⟩
      · exact .inl (hP f hf u hu h)
      · rcases List.mem_cons.mp hgl with rfl | hgl
        · exact .inl (hbrings u hu)
        · exact .inr ⟨g, hgl, hbrings⟩
  obtain ⟨g, hgl, hbrings⟩ := hg
  exact hall _ _ h0 (fun f hf => (arrange_perm code fs).mem_iff.mp hf)
    (.inr ⟨g, (arrange_perm code fs).mem_iff.mpr hgl, hbrings⟩)

/-- R114: what an entry to IDLE leaves in the session. -/
@[simp] theorem enterIdle_session (ch : Choice) (s : State) :
    (enterIdle ch s).session = { s.session with
      state := .idle
      progress := mapAll (fun p => { p with passed := false }) s.session.progress
      failed := none, dwell := 0, settle := 0 } := by
  simp [enterIdle]

/-- R100: what an entry to DWELL leaves in the session. -/
@[simp] theorem enterDwell_session (ch : Choice) (s : State) :
    (enterDwell ch s).session = { s.session with state := .dwell, dwell := 0, midRev := true } := by
  simp [enterDwell]

/-- R111: what an entry to OPEN leaves in the session. -/
@[simp] theorem enterOpen_session (ch : Choice) (s : State) :
    (enterOpen ch s).session = { s.session with state := .opened, redist := 0 } := by
  simp [enterOpen]

/-- R100: in CLIMB, below the plateau's speed less 10 nothing moves, and from there on DWELL is entered. -/
theorem climbCheck_eq {s : State} (ch : Choice) {e : Fin 6} (hstate : s.session.state = .climb)
    (he : s.currentPlateau = some e) :
    climbCheck ch s = if plateauSpeed s.tables e ≤ s.indexSpeed + 10 then enterDwell ch s else s := by
  simp [climbCheck, hstate, he]

/-- R100: outside CLIMB nothing is judged. -/
theorem climbCheck_of_not_climb {s : State} (ch : Choice) (h : s.session.state ≠ .climb) : climbCheck ch s = s := if_neg h

/-- R106: in SETTLE, at the settle revolutions DWELL is entered. -/
theorem settleCheck_eq {s : State} (ch : Choice) {e : Fin 6} (hstate : s.session.state = .settle)
    (he : s.currentPlateau = some e) :
    settleCheck ch s = if plateauSettle s.tables e ≤ s.session.settle then enterDwell ch s else s := by
  simp [settleCheck, hstate, he]

/-- R100: what the judging in CLIMB leaves in the session. -/
theorem climbCheck_session {s : State} (ch : Choice) {e : Fin 6} (he : s.currentPlateau = some e) :
    (climbCheck ch s).session =
      if s.session.state = .climb ∧ plateauSpeed s.tables e ≤ s.indexSpeed + 10 then
        { s.session with state := .dwell, dwell := 0, midRev := true }
      else s.session := by
  by_cases hstate : s.session.state = .climb
  · rw [climbCheck_eq ch hstate he]
    split_ifs <;> simp_all
  · rw [climbCheck_of_not_climb ch hstate]
    simp [hstate]

/-- R100, R117: what may stand in the session while an entry to CLIMB at plateau `e` is under way: CLIMB, or DWELL when the
index speed has reached the plateau's. -/
structure Climbing (s : State) (e : Fin 6) (t : State) : Prop where
  inputs : SameInputs s t
  session : t.session = { s.session with state := .climb } ∨
    (plateauSpeed s.tables e ≤ s.indexSpeed + 10 ∧ t.session = { s.session with state := .dwell, dwell := 0, midRev := true })

theorem Climbing.of_session {s t u : State} {e : Fin 6} (h : Climbing s e t) (heffects : Effects t u)
    (hsession : u.session = t.session) : Climbing s e u := by
  obtain ⟨hinputs, hstood⟩ := h
  exact ⟨hinputs.trans heffects.sameInputs, hsession ▸ hstood⟩

/-- R100: the judging under way. -/
theorem Climbing.check {s t : State} {e : Fin 6} (h : Climbing s e t) (he : s.currentPlateau = some e) (ch : Choice) :
    Climbing s e (climbCheck ch t) ∧
      (plateauSpeed s.tables e ≤ s.indexSpeed + 10 →
        (climbCheck ch t).session = { s.session with state := .dwell, dwell := 0, midRev := true }) := by
  have hprogress : t.session.progress = s.session.progress := by
    rcases h.session with hs | ⟨-, hs⟩ <;> rw [hs]
  have hplateau : t.currentPlateau = some e :=
    (currentPlateau_congr h.inputs.tables h.inputs.requested hprogress).trans he
  have hsession := climbCheck_session ch hplateau
  have hspeed : t.indexSpeed = s.indexSpeed := congrArg Tracker.indexSpeed h.inputs.tracker
  rw [h.inputs.tables, hspeed] at hsession
  refine ⟨⟨h.inputs.trans (climbCheck_effects ch t).sameInputs, ?_⟩, fun hreached => ?_⟩
  · rcases h.session with hs | ⟨hreached, hs⟩
    · by_cases hreached : plateauSpeed s.tables e ≤ s.indexSpeed + 10
      · exact .inr ⟨hreached, by simp [hsession, hs, hreached]⟩
      · exact .inl (by simp [hsession, hs, hreached])
    · exact .inr ⟨hreached, by simp [hsession, hs]⟩
  · rcases h.session with hs | ⟨-, hs⟩ <;> simp [hsession, hs, hreached]

theorem climbing_start (s : State) (e : Fin 6) : Climbing s e (withSession .climb s) :=
  ⟨by constructor <;> simp, .inl rfl⟩

theorem climbing_kept {s t : State} {e : Fin 6} (h : Climbing s e t) (he : s.currentPlateau = some e) (ch : Choice)
    {f : State → State} (hf : f ∈ sessionEvents ++ [recompose, climbCheck ch]) :
    Climbing s e (f t) ∧ (t.session = { s.session with state := .dwell, dwell := 0, midRev := true } →
      (f t).session = { s.session with state := .dwell, dwell := 0, midRev := true }) := by
  simp only [sessionEvents, List.cons_append, List.nil_append, List.mem_cons, List.not_mem_nil, or_false] at hf
  rcases hf with rfl | rfl | rfl | rfl
  · exact ⟨h.of_session (judgeLive_effects _ _) (by simp), by simp⟩
  · exact ⟨h.of_session (judgeLive_effects _ _) (by simp), by simp⟩
  · exact ⟨h.of_session (recompose_effects _) (by simp), by simp⟩
  · exact ⟨(h.check he ch).1, fun hd => by rw [climbCheck_of_not_climb ch (by simp [hd]), hd]⟩

/-- R100: an entry to CLIMB at the plateau's speed less 10 or more goes on to DWELL. -/
theorem enterClimb_session {s : State} (ch : Choice) {e : Fin 6} (he : s.currentPlateau = some e) :
    (enterClimb ch s).session =
      if plateauSpeed s.tables e ≤ s.indexSpeed + 10 then { s.session with state := .dwell, dwell := 0, midRev := true }
      else { s.session with state := .climb } := by
  have hclimbing : Climbing s e (enterClimb ch s) :=
    inOrder_keeps (Climbing s e) (climbing_start s e) fun f hf t ht => (climbing_kept ht he ch hf).1
  split
  next hreached =>
    exact inOrder_brings_under (Climbing s e)
      (fun t => t.session = { s.session with state := .dwell, dwell := 0, midRev := true }) (climbing_start s e)
      (fun f hf t ht => (climbing_kept ht he ch hf).1) (fun f hf t ht => (climbing_kept ht he ch hf).2)
      ⟨climbCheck ch, by simp, fun t ht => (ht.check he ch).2 hreached⟩
  next hbelow => exact hclimbing.session.resolve_right fun h => hbelow h.1

/-- R99, R102, R113: CLIMB, or through it DWELL, at a current plateau; OPEN without one. -/
theorem enterClimbOrOpen_some {s : State} (ch : Choice) {e : Fin 6} (he : s.currentPlateau = some e) :
    enterClimbOrOpen ch s = enterClimb ch s := by simp [enterClimbOrOpen, he]

theorem enterClimbOrOpen_none {s : State} (ch : Choice) (he : s.currentPlateau = none) :
    enterClimbOrOpen ch s = enterOpen ch s := by simp [enterClimbOrOpen, he]

/-- R106: what the judging in SETTLE leaves in the session. -/
theorem settleCheck_session (ch : Choice) (s : State) :
    (settleCheck ch s).session = s.session ∨
      (s.session.state = .settle ∧
        (settleCheck ch s).session = { s.session with state := .dwell, dwell := 0, midRev := true }) := by
  unfold settleCheck
  split
  · split
    · split
      · exact .inr ⟨‹_›, enterDwell_session ch s⟩
      · exact .inl rfl
    · exact .inl rfl
  · exact .inl rfl

/-- R105, step 3: an entry to SETTLE may go on to DWELL; the rest of the session stands. -/
theorem enterSettle_session (ch : Choice) (fault : Bool) (s : State) :
    (enterSettle ch fault s).session = { s.session with state := .settle, settle := 0, midRev := true } ∨
      (enterSettle ch fault s).session = { s.session with state := .dwell, dwell := 0, settle := 0, midRev := true } := by
  have hsession : ∀ u : State, (onlyIf fault (latchKind .injectionFault) u).session = u.session := fun u => by
    unfold onlyIf; split <;> simp
  unfold enterSettle
  rcases settleCheck_session ch (onlyIf fault (latchKind .injectionFault) (setSession ch .settle
    { s with session := { s.session with settle := 0, midRev := true } })) with h | ⟨-, h⟩
  · exact .inl (by rw [h, hsession]; simp)
  · exact .inr (by rw [h, hsession]; simp)

/-! ### Corrections -/

/-- R105, steps 1 and 2: what a recorded outcome leaves in the session. -/
theorem recordOutcome_append {s : State} {l : List Correction} {x : Correction} (h : s.session.corrections = l ++ [x])
    (o : InjOutcome) (grams : Nat) :
    (recordOutcome o grams s).session = { s.session with
      corrections := l ++ [{ x with outcome := o, credited := grams }]
      progress := useAttempt s.session.progress x.plateau } := by
  have hclose : ∀ l : List Correction, closeNewest o grams (l ++ [x]) = l ++ [{ x with outcome := o, credited := grams }] := by
    intro l
    induction l with
    | nil => rfl
    | cons c l ih =>
      cases l with
      | nil => rfl
      | cons d l => simpa [closeNewest] using ih
  simp [recordOutcome, h, hclose]

/-- R105: an attempt used advances one plateau's count and nothing else. -/
theorem useAttempt_same (p : Vector Progress 6) (e : Fin 6) :
    (useAttempt p e)[e] = { p[e] with attempts := p[e].attempts + 1 } := by simp [useAttempt]

theorem useAttempt_other (p : Vector Progress 6) {e d : Fin 6} (h : d ≠ e) : (useAttempt p e)[d] = p[d] := by
  have hne : e.val ≠ d.val := fun heq => h (Fin.ext heq.symm)
  simp [useAttempt, Vector.getElem_set_ne _ _ hne]

/-- R131: what the end of an injection leaves in the ring. -/
@[simp] theorem ringEnd_ring (o : InjOutcome) (s : State) :
    (ringEnd o s).ring = { s.ring with
      valve := false
      ctx := { s.ring.ctx with
        outcome := o, endTime := s.now, state := if s.spin.flowTail = 0 then .closed else .tail } } := rfl

end Sys2Proof.Machine
end

section
/-! SUPPORT. The injection's ends, the governor's hysteresis, the clearing of the trip latch and the dwell end (chapters 5 to 8). -/

namespace Sys2Proof.Machine
open Sys2Proof.Safety

/-! ### The end of an injection -/

/-- R105, R131: an injection that ends in CORRECT closes the newest record and brings SETTLE, or DWELL through it. -/
theorem endInjection_correct {s : State} (h : s.session.state = .correct) (ch : Choice) (fault : Bool) (o : InjOutcome) :
    endInjection ch fault o s = enterSettle ch fault (recordOutcome o s.ring.ctx.credited (ringEnd o s)) :=
  if_pos h

theorem endInjection_correct_state {s : State} (h : s.session.state = .correct) (ch : Choice) (fault : Bool)
    (o : InjOutcome) :
    (endInjection ch fault o s).session.state = .settle ∨ (endInjection ch fault o s).session.state = .dwell := by
  rw [endInjection_correct h]
  rcases enterSettle_session ch fault (recordOutcome o s.ring.ctx.credited (ringEnd o s)) with hs | hs <;> simp [hs]

theorem endInjection_correct_records {s : State} (h : s.session.state = .correct) (ch : Choice) (fault : Bool)
    (o : InjOutcome) {l : List Correction} {x : Correction} (hl : s.session.corrections = l ++ [x]) :
    (endInjection ch fault o s).session.corrections =
        l ++ [{ x with outcome := o, credited := s.ring.ctx.credited }] ∧
      (endInjection ch fault o s).session.progress = useAttempt s.session.progress x.plateau := by
  have hrecord := recordOutcome_append (s := ringEnd o s) hl o s.ring.ctx.credited
  rw [endInjection_correct h]
  rcases enterSettle_session ch fault (recordOutcome o s.ring.ctx.credited (ringEnd o s)) with hs | hs <;>
    simp [hs, hrecord, ringEnd_kept]

/-- R131: outside CORRECT the session hears nothing of the end. -/
theorem endInjection_other_session {s : State} (h : s.session.state ≠ .correct) (ch : Choice) (o : InjOutcome) :
    (endInjection ch false o s).session = s.session := by
  have hne : (ringEnd o s).session.state ≠ .correct := by simpa using h
  rw [endInjection, injectionEnded, if_neg hne]
  rfl

theorem endInjection_ring (ch : Choice) (fault : Bool) (o : InjOutcome) (s : State) :
    (endInjection ch fault o s).ring = (ringEnd o s).ring := by
  simp [endInjection]

/-! ### FLOW_PULSE while an injection is ACTIVE -/

/-- R127: what a credit leaves in the ring. -/
theorem creditActive_ring (s : State) :
    (creditActive s).ring = { s.ring with
      contents := creditedContents s
      ctx := { s.ring.ctx with credited := s.ring.ctx.credited + s.spin.flowGrams, lastPulse := s.now } } := by
  simp [creditActive]

/-- R128: the outcome with which a credited pulse ends an injection, if it does. -/
def pulseEnd (s : State) : Option InjOutcome :=
  if s.ring.contents[s.ring.ctx.chamber] = s.spin.chamberCap then some .chamberFull
  else if s.ring.ctx.requested ≤ s.ring.ctx.credited then some .done
  else none

theorem judgePulseEnd_eq (ch : Choice) (s : State) :
    judgePulseEnd ch s = (match pulseEnd s with
      | some o => endInjection ch false o s
      | none => s) := by
  unfold judgePulseEnd pulseEnd
  split_ifs <;> rfl

/-- R127: the content that a credited pulse leaves in the context's chamber. -/
def creditedContent (s : State) : Nat :=
  min s.spin.chamberCap (s.ring.contents[s.ring.ctx.chamber] + s.spin.flowGrams)

/-- R128: CHAMBER_FULL before DONE, judged on what the credit leaves. -/
theorem pulseEnd_creditActive (s : State) :
    pulseEnd (creditActive s) =
      if creditedContent s = s.spin.chamberCap then some .chamberFull
      else if s.ring.ctx.requested ≤ s.ring.ctx.credited + s.spin.flowGrams then some .done else none := by
  have hcredit := creditedContents_same s
  simp only [pulseEnd, creditActive_ring, creditActive_kept, hcredit]
  rfl

/-- R127, R128, R105: an end by pulse, in and out of CORRECT. -/
theorem pulse_ends {s : State} (ch : Choice) {o : InjOutcome} (h : pulseEnd s = some o) :
    judgePulseEnd ch s = endInjection ch false o s := by simp only [judgePulseEnd_eq, h]

/-- R127: no end by pulse. -/
theorem pulse_goes_on {s : State} (ch : Choice) (h : pulseEnd s = none) : judgePulseEnd ch s = s := by
  simp only [judgePulseEnd_eq, h]

theorem judgePulseEnd_kept_inputs (ch : Choice) (s : State) :
    (judgePulseEnd ch s).est = s.est ∧ (judgePulseEnd ch s).tracker = s.tracker ∧ (judgePulseEnd ch s).trip = s.trip ∧
      (judgePulseEnd ch s).drive = s.drive ∧ (judgePulseEnd ch s).requested = s.requested ∧
      (judgePulseEnd ch s).ring.contents = s.ring.contents := by
  rw [judgePulseEnd_eq]
  split <;> simp [endInjection_ring]

/-- Settles O40: the credit, and then by `pulseEnd` the end of the injection or none. -/
theorem flowPulseCredits : Obligations.FlowPulseCredits := by
  intro m s hheld hactive
  have hpulse : flowPulse m.choice (tick m s) = judgePulseEnd m.choice (creditActive (tick m s)) := by
    simp [flowPulse, hactive]
  obtain ⟨hest, htracker, htrip, hdrive, hrequested, hcontents⟩ :=
    judgePulseEnd_kept_inputs m.choice (creditActive (tick m s))
  have hring := creditActive_ring (tick m s)
  have hends := pulseEnd_creditActive (tick m s)
  simp only [creditedContent, tick_ring, tick_kept] at hring hends
  let g := min s.spin.chamberCap (s.ring.contents[s.ring.ctx.chamber] + s.spin.flowGrams)
  have hend (h : g = s.spin.chamberCap ∨ s.ring.ctx.requested ≤ s.ring.ctx.credited + s.spin.flowGrams) :
      judgePulseEnd m.choice (creditActive (tick m s)) = endInjection m.choice false
        (if g = s.spin.chamberCap then .chamberFull else .done) (creditActive (tick m s)) := by
    apply pulse_ends
    rw [hends]
    by_cases hfull : g = s.spin.chamberCap
    · rw [if_pos hfull, if_pos hfull]
    · rw [if_neg hfull, if_neg hfull, if_pos (h.resolve_left hfull)]
  refine ⟨_, (happen_live hheld m _).trans (congrArg _ hpulse), ⟨?_, fun d hd => ?_, fun hcap hgoes => ?_,
    fun h => ?_, fun h hcorrect => ?_, fun h hother => ?_⟩, ?_⟩
  · rw [hcontents, hring]
    simpa using creditedContents_same (tick m s)
  · rw [hcontents, hring]
    simpa using creditedContents_other (tick m s) (by simpa using hd)
  · rw [pulse_goes_on m.choice (by rw [hends, if_neg hcap, if_neg (by omega)])]
    simp [hring]
  · rw [hend h, endInjection_ring, ringEnd_ring, hring]
    simp [g]
  · rw [hend h]
    refine ⟨endInjection_correct_state (by simpa using hcorrect) _ _ _, fun l x hl => ?_⟩
    obtain ⟨hrecords, hprogress⟩ := endInjection_correct_records (s := creditActive (tick m s)) (by simpa using hcorrect)
      m.choice false (if g = s.spin.chamberCap then .chamberFull else .done) (by simpa using hl)
    refine ⟨by rw [hrecords, hring], ?_, fun e he => ?_⟩
    · rw [hprogress, useAttempt_same]; simp
    · rw [hprogress, useAttempt_other _ he]; simp
  · rw [hend h, endInjection_other_session (by simpa using hother)]
    simp
  · simp [hest, htracker, htrip, hdrive, hrequested]

/-! ### FLOW_TIMEOUT -/

theorem flowDue_iff (s : State) :
    s.flowDue = true ↔
      s.ring.ctx.state = .active ∧ s.spin.flowTimeout * 1000 < elapsed s.now s.ring.ctx.lastPulse := by
  simp only [State.flowDue, Bool.and_eq_true, beq_iff_eq, decide_eq_true_eq]
  rfl

/-- R149: kind `k` has latched once on the way from `s` to `t`. -/
structure LatchedOnce (k : Kind) (s t : State) : Prop where
  latch : t.events.latch.getLsbD k.number.val = true
  count : t.events.counts[k.number] = s.events.counts[k.number] + 1

theorem latchKind_once (k : Kind) (s : State) : LatchedOnce k s (latchKind k s) :=
  ⟨latched_latch _ _, latched_counts _ _⟩

/-- What touches other kinds alone may come before or after a latching. -/
theorem LatchedOnce.then_kinds {k : Kind} {K : List Kind} {s t u : State} (h : LatchedOnce k s t)
    (hstand : KindsStand K t u) (hk : k ∉ K := by decide) : LatchedOnce k s u :=
  ⟨(hstand.latch k hk).trans h.latch, (hstand.counts k hk).trans h.count⟩

theorem KindsStand.then_once {k : Kind} {K : List Kind} {s t u : State} (hstand : KindsStand K s t)
    (h : LatchedOnce k t u) (hk : k ∉ K := by decide) : LatchedOnce k s u :=
  ⟨h.latch, by rw [h.count, hstand.counts k hk]⟩

theorem LatchedOnce.after {k : Kind} {s t u : State} (h : LatchedOnce k t u) (hevents : t.events = s.events := by rfl) :
    LatchedOnce k s u :=
  ⟨h.latch, by rw [h.count, hevents]⟩

/-- R105: with no fault to offer, an entry to SETTLE touches the session's kinds alone. -/
theorem enterSettle_kinds (ch : Choice) (s : State) : KindsStand sessionKinds s (enterSettle ch false s) :=
  ((setSession_kinds ch .settle _).after).trans (settleCheck_kinds ch _)

/-- R134: with the fault, an entry to SETTLE latches INJECTION_FAULT once. -/
theorem enterSettle_once (ch : Choice) (s : State) : LatchedOnce .injectionFault s (enterSettle ch true s) :=
  (((setSession_kinds ch .settle _).after (s := s)).then_once (latchKind_once .injectionFault _)).then_kinds
    (settleCheck_kinds ch _)

/-- R129, R131, R134: the state in which a NO_FLOW end begins. -/
def noFlowFound (ch : Choice) (s : State) : State :=
  onlyIf (!ch.faultLast) (latchKind .injectionFault) { s with ring := { s.ring with available := false } }

theorem flowTimesOut_due {s : State} (h : s.flowDue = true) (ch : Choice) :
    flowTimesOut ch s = endInjection ch ch.faultLast .noFlow (noFlowFound ch s) := if_pos h

theorem noFlowFound_kept (ch : Choice) (s : State) :
    (noFlowFound ch s).session = s.session ∧ (noFlowFound ch s).ring = { s.ring with available := false } ∧
      (noFlowFound ch s).now = s.now ∧ (noFlowFound ch s).spin = s.spin ∧ (noFlowFound ch s).est = s.est ∧
      (noFlowFound ch s).tracker = s.tracker ∧ (noFlowFound ch s).trip = s.trip := by
  unfold noFlowFound onlyIf
  split <;> simp

/-- R129, R134: in CORRECT the NO_FLOW end latches INJECTION_FAULT once, before or within the entry to SETTLE. -/
theorem flowTimesOut_once {s : State} (hdue : s.flowDue = true) (hcorrect : s.session.state = .correct) (ch : Choice) :
    LatchedOnce .injectionFault s (flowTimesOut ch s) := by
  rw [flowTimesOut_due hdue, endInjection_correct (by rw [(noFlowFound_kept ch s).1, hcorrect])]
  unfold noFlowFound
  cases ch.faultLast with
  | false =>
    exact (latchKind_once .injectionFault { s with ring := { s.ring with available := false } }).after.then_kinds
      (enterSettle_kinds ch _).after
  | true => exact (enterSettle_once ch _).after

/-- Settles O42: the NO_FLOW end of the injection, with INJECTION_FAULT latched once. -/
theorem noFlow : Obligations.NoFlow := by
  intro m s l c hheld hactive hcorrect hl hdue
  have hdue' : (tick m s).flowDue = true := (flowDue_iff _).mpr ⟨hactive, hdue⟩
  obtain ⟨hlatch, hcount⟩ := flowTimesOut_once hdue' (by simpa using hcorrect) m.choice
  obtain ⟨hsession, hring, hnow, hspin, hest, htracker, htrip⟩ := noFlowFound_kept m.choice (tick m s)
  refine ⟨_, happen_live hheld m _, ?_⟩
  rw [flowTimesOut_due hdue'] at hlatch hcount ⊢
  have hcorrect' : (noFlowFound m.choice (tick m s)).session.state = .correct := by simpa [hsession] using hcorrect
  obtain ⟨hrecords, hprogress⟩ := endInjection_correct_records hcorrect' m.choice m.choice.faultLast .noFlow
    (l := l) (x := c) (by simpa [hsession] using hl)
  have hend := endInjection_ring m.choice m.choice.faultLast .noFlow (noFlowFound m.choice (tick m s))
  rw [ringEnd_ring, hring, hnow, hspin] at hend
  refine ⟨?_, ?_, ?_, ?_, hlatch, ?_, ?_, ?_, endInjection_correct_state hcorrect' _ _ _, ?_, ?_, ?_⟩
  · simp [hend]
  · simp [hend]
  · simp [hend]
  · simp [hend]
  · exact hcount
  · rw [hrecords, hring]; rfl
  · rw [hprogress, useAttempt_same, hsession]; simp
  · simp [hest]
  · simp [htracker]
  · simp [htrip]

/-! ### The governor's hysteresis -/

theorem governorClose_gov (entered : Bool) (s : State) :
    (governorClose entered s).gov = { (takeEnvelope entered s).gov with
      spin := (takeEnvelope entered s).spinCeiling, agitate := (takeEnvelope entered s).agitateCeiling } := by
  simp [governorClose]

section

variable {hyst e : Nat} {g : Governor}

/-- R80: a lower E_new is taken at once. -/
theorem Governor.revolve_of_lt (h : e < g.eHeld) : g.revolve hyst e = g.enterValid e := if_pos h

/-- R80: an E_new that is E_held clears the rise counter. -/
theorem Governor.revolve_of_eq (h : e = g.eHeld) : g.revolve hyst e = { g with eNew := e, rise := 0 } := by
  simp [Governor.revolve, h]

/-- R80: a higher E_new waits while the rise counter is below HYST_REVS. -/
theorem Governor.revolve_of_waiting (h : g.eHeld < e) (hrise : g.rise + 1 < hyst) :
    g.revolve hyst e = { g with eNew := e, rise := g.rise + 1 } := by
  rw [Governor.revolve, if_neg (by omega), if_pos h, if_neg (by omega)]

/-- R80: a higher E_new is taken when the rise counter reaches HYST_REVS. -/
theorem Governor.revolve_of_risen (h : g.eHeld < e) (hrise : hyst ≤ g.rise + 1) : g.revolve hyst e = g.enterValid e := by
  rw [Governor.revolve, if_neg (by omega), if_pos h, if_pos hrise]
  rfl

end

theorem takeEnvelope_true (s : State) : (takeEnvelope true s).gov = s.gov.enterValid s.envelopeNew := rfl

theorem takeEnvelope_false (s : State) : (takeEnvelope false s).gov = s.gov.revolve s.spin.hystRevs s.envelopeNew := rfl

/-- R80, R81: E_new is the envelope ceiling whatever becomes of E_held. -/
theorem takeEnvelope_eNew (entered : Bool) (s : State) : (takeEnvelope entered s).gov.eNew = s.envelopeNew := by
  unfold takeEnvelope Governor.revolve
  split_ifs <;> rfl

/-- R80, R81, R89: what the governor's part of a counted VALID revolution leaves as it was. -/
theorem governorClose_frame (entered : Bool) (s : State) :
    governorClose entered s = { s with
      gov := (governorClose entered s).gov, portD := (governorClose entered s).portD
      standing := (governorClose entered s).standing, events := (governorClose entered s).events
      portC := (governorClose entered s).portC } := by
  apply State.eq_of_fields <;> simp

/-- Settles O37: `Governor.revolve` and `Governor.enterValid` case by case, and the composition. -/
theorem governorCloses : Obligations.GovernorCloses := by
  intro entered s
  have hframe := governorClose_frame entered s
  dsimp only
  rw [governorClose_gov] at hframe ⊢
  refine ⟨takeEnvelope_eNew entered s, ?_, ?_, ?_, ?_, ?_, hframe⟩
  · rintro (rfl | hlt)
    · exact ⟨rfl, rfl⟩
    · cases entered with
      | true => exact ⟨rfl, rfl⟩
      | false => rw [takeEnvelope_false, Governor.revolve_of_lt hlt]; exact ⟨rfl, rfl⟩
  · rintro rfl heq
    rw [takeEnvelope_false, Governor.revolve_of_eq heq]
    exact ⟨heq.symm, rfl⟩
  · rintro rfl hlt hwait
    rw [takeEnvelope_false, Governor.revolve_of_waiting hlt hwait]
    exact ⟨rfl, rfl⟩
  · rintro rfl hlt hrisen
    rw [takeEnvelope_false, Governor.revolve_of_risen hlt hrisen]
    exact ⟨rfl, rfl⟩
  · obtain ⟨hspin, hagitate⟩ := recompose_composed (takeEnvelope entered s)
    simp only [ceilingsComposed, Bool.and_eq_true, beq_iff_eq]
    exact ⟨hspin, hagitate⟩

/-! ### CLEAR TRIP -/

/-- R145: the front request of CLEAR TRIP is run at its moment. -/
theorem exec_clearTrip {s : State} {r : Request} {rest : List Request} (m : Moment) (hheld : s.held = false)
    (hr : s.requests = r :: rest) (hop : r.op = 7) (hroom : s.portC.localQ.length < 4) :
    exec (.clearTrip m) s = .next (runClearTrip m.choice r { tick m s with requests := rest }) :=
  happen_execute m _ hheld hr (by simp [hop]) hroom

theorem runClearTrip_refused {r : Request} {status : Byte} (h : bareFailure r 0x53 = some status) (ch : Choice)
    (s : State) : runClearTrip ch r s = respond r status [] s := by simp only [runClearTrip, h]

/-- R145, R146: CLEAR TRIP of a clear latch, of a set one that may clear, and of one that may not. -/
theorem runClearTrip_eq {r : Request} (h : bareFailure r 0x53 = none) (ch : Choice) (s : State) :
    runClearTrip ch r s =
      if s.trip.latch = false then respond r stOk [] s
      else if s.clearAccepted then handClearing ch (respond r stOk [] { s with trip := s.trip.cleared })
      else respond r stRefused [s.conditionsWord] s := by
  simp only [runClearTrip, h]
  cases s.trip.latch <;> rfl

theorem bareFailure_none (tag op index : Byte) (obj : Byte) :
    bareFailure { tag := tag, op := op, object := obj, index := index, data := [] } obj = none := by
  simp [bareFailure]

/-- R145: what it takes to clear the latch. -/
theorem clearAccepted_iff (s : State) :
    s.clearAccepted = true ↔ s.speedBelow s.spin.retainSpeed = true ∧ ∀ c, s.causeHolds c = false := by
  simp only [State.clearAccepted, Bool.and_eq_true, allCauses, List.all_cons, List.all_nil, Bool.not_eq_true',
    Bool.and_true]
  refine and_congr_right fun _ => ⟨fun ⟨h1, h2, h3, h4, h5⟩ c => by cases c <;> assumption,
    fun h => ⟨h _, h _, h _, h _, h _⟩⟩

/-- R145, step 3: what the clearing of the latch hands to the session and the ceilings. -/
def clearSession (ch : Choice) (s : State) : State := if s.session.state = .tripped then enterIdle ch s else recompose s

theorem handClearing_eq (ch : Choice) (s : State) :
    handClearing ch s = inOrder ch.trip [clearSession ch, judgeLive .trip] s := rfl

theorem enterIdle_composed (ch : Choice) (s : State) : (enterIdle ch s).composed := setSession_composed _ _ _

theorem clearSession_composed (ch : Choice) (s : State) : (clearSession ch s).composed := by
  unfold clearSession; split
  · exact enterIdle_composed ch s
  · exact recompose_composed s

theorem clearSession_kinds (ch : Choice) (s : State) : KindsStand sessionKinds s (clearSession ch s) := by
  unfold clearSession; split
  · exact enterIdle_kinds ch s
  · exact (recompose_kinds s).mono

theorem clearSession_trip (ch : Choice) (s : State) : (clearSession ch s).trip = s.trip := by
  unfold clearSession; split <;> simp

/-- R114, R145: the session of a part whose latch has cleared. -/
theorem clearSession_session (ch : Choice) {s t : State}
    (h : t.session = s.session ∨ t.session = (enterIdle ch s).session) (htripped : s.session.state = .tripped) :
    (clearSession ch t).session = (enterIdle ch s).session := by
  unfold clearSession
  rcases h with h | h
  · rw [if_pos (by rw [h, htripped]), enterIdle_session, enterIdle_session, h]
  · rw [if_neg (by simp [h])]; simpa using h

/-- R145, step 3: the session stands in IDLE with its marks cleared, whatever the order (log 5). -/
theorem handClearing_session {s : State} (h : s.session.state = .tripped) (ch : Choice) :
    (handClearing ch s).session = (enterIdle ch s).session := by
  rw [handClearing_eq]
  refine inOrder_brings_under (fun t => t.session = s.session ∨ t.session = (enterIdle ch s).session)
    (fun t => t.session = (enterIdle ch s).session) (.inl rfl) ?_ ?_
    ⟨clearSession ch, by simp, fun t ht => clearSession_session ch ht h⟩
  all_goals
    intro f hf t ht
    simp only [List.mem_cons, List.not_mem_nil, or_false] at hf
    rcases hf with rfl | rfl
  · exact .inr (clearSession_session ch ht h)
  · simpa using ht
  · exact fun hd => clearSession_session ch (.inr hd) h
  · simp

/-- R114, R145: the session's fields after the clearing. -/
theorem handClearing_session_fields {s : State} (h : s.session.state = .tripped) (ch : Choice) :
    (handClearing ch s).session.state = .idle ∧
      (∀ e : Fin 6, (handClearing ch s).session.progress[e] = { s.session.progress[e] with passed := false }) ∧
      (handClearing ch s).session.failed = none ∧ (handClearing ch s).session.dwell = 0 ∧
      (handClearing ch s).session.settle = 0 ∧ (handClearing ch s).session.corrections = s.session.corrections := by
  rw [handClearing_session h, enterIdle_session]
  exact ⟨rfl, fun e => by simp [mapAll], rfl, rfl, rfl, rfl⟩

/-- R89, R145: the ceilings are composed after the clearing. -/
theorem handClearing_composed (ch : Choice) (s : State) : (handClearing ch s).composed := by
  rw [handClearing_eq]
  refine inOrder_brings State.composed ?_ ⟨clearSession ch, by simp, clearSession_composed ch⟩
  intro f hf t ht
  simp only [List.mem_cons, List.not_mem_nil, or_false] at hf
  rcases hf with rfl | rfl
  · exact clearSession_composed ch t
  · exact judgeLive_composed ht _

/-- R145, R149: the event unit hears of the latch as it stands. -/
theorem handClearing_live (ch : Choice) (s : State) : (handClearing ch s).events.live.getLsbD 11 = s.trip.latch := by
  rw [handClearing_eq]
  refine inOrder_brings_under (fun t => t.trip = s.trip) (fun t => t.events.live.getLsbD 11 = s.trip.latch) rfl ?_ ?_
    ⟨judgeLive .trip, by simp, fun t ht => (judgeLive_live .trip t).trans (by rw [State.condition, ht])⟩
  all_goals
    intro f hf t ht
    simp only [List.mem_cons, List.not_mem_nil, or_false] at hf
    rcases hf with rfl | rfl
  · rw [clearSession_trip, ht]
  · simpa using ht
  · exact fun hd => ((clearSession_kinds ch t).live .trip (by decide)).trans hd
  · exact fun _ => (judgeLive_live .trip t).trans (by rw [State.condition, ht])

theorem handClearing_kept (ch : Choice) (s : State) :
    (handClearing ch s).trip = s.trip ∧ (handClearing ch s).requests = s.requests := by
  rw [handClearing_eq]
  refine inOrder_keeps (fun t => t.trip = s.trip ∧ t.requests = s.requests) ⟨rfl, rfl⟩ fun f hf t ht => ?_
  simp only [List.mem_cons, List.not_mem_nil, or_false] at hf
  rcases hf with rfl | rfl
  · unfold clearSession; split <;> simpa using ht
  · simpa using ht

/-- Table 1-6: a response with one element. -/
theorem responsePayload_one (tag op status object : Byte) (w : Word) :
    responsePayload tag op status object [w] = [tag, op, status, object] ++ be16 w := by
  simp [responsePayload, wordBytes]

/-- R146: the bytes of the refusal element. -/
theorem conditionsWord_bytes (s : State) :
    be16 s.conditionsWord = [0, (if s.speedBelow s.spin.retainSpeed then 0 else 1) +
      (if s.causeHolds .strike then 2 else 0) + (if s.causeHolds .lid then 4 else 0) +
      (if s.causeHolds .mass then 8 else 0) + (if s.causeHolds .overspeed then 16 else 0) +
      (if s.causeHolds .drive then 32 else 0)] := by
  unfold State.conditionsWord State.speedBarsClear
  generalize s.speedBelow s.spin.retainSpeed = speed
  generalize s.causeHolds .strike = strike
  generalize s.causeHolds .lid = lid
  generalize s.causeHolds .mass = mass
  generalize s.causeHolds .overspeed = overspeed
  generalize s.causeHolds .drive = drive
  revert speed strike lid mass overspeed drive
  decide

theorem speed_congr {s t : State} (htracker : t.tracker = s.tracker) (hdrive : t.drive = s.drive)
    (hsilence : t.silence = s.silence) : t.speed = s.speed := by
  unfold State.speed State.driveSpeed State.angleValid State.indexSpeed
  rw [htracker, hdrive, hsilence]

/-- R139 to R141: what the causes are judged by. -/
theorem causeHolds_congr {s t : State} (hstrike : t.strike = s.strike) (hlid : t.lid = s.lid)
    (htracker : t.tracker = s.tracker) (hdrive : t.drive = s.drive) (hsilence : t.silence = s.silence)
    (hest : t.est = s.est) (hlimits : t.limits = s.limits) (hspin : t.spin = s.spin)
    (hstate : t.session.state = s.session.state) (c : Cause) : t.causeHolds c = s.causeHolds c := by
  cases c with
  | strike => simp only [State.causeHolds, hstrike]
  | lid =>
    unfold State.causeHolds State.speedAtLeast
    rw [hlid, hspin, speed_congr htracker hdrive hsilence]
  | mass =>
    unfold State.causeHolds
    rw [hest, hlimits]
  | overspeed =>
    unfold State.causeHolds State.overspeedBound State.driveSpeed
    rw [hlimits, hspin, hdrive, hsilence]
  | drive => simp only [State.causeHolds, hsilence, hstate]

/-- R145: an accepted CLEAR TRIP leaves what the clearing handed on leaves of a part with a clear latch. -/
theorem runClearTrip_accepted {r : Request} {s : State} (h : bareFailure r 0x53 = none) (hlatch : s.trip.latch = true)
    (haccepted : s.clearAccepted = true) (ch : Choice) :
    runClearTrip ch r s = handClearing ch (respond r stOk [] { s with trip := s.trip.cleared }) := by
  rw [runClearTrip_eq h, if_neg (by simp [hlatch]), if_pos haccepted]

/-- R146: a CLEAR TRIP that may not clear is only answered, with its conditions. -/
theorem runClearTrip_barred {r : Request} {s : State} (h : bareFailure r 0x53 = none) (hlatch : s.trip.latch = true)
    (hbarred : s.clearAccepted ≠ true) (ch : Choice) :
    runClearTrip ch r s = respond r stRefused [s.conditionsWord] s := by
  rw [runClearTrip_eq h, if_neg (by simp [hlatch]), if_neg hbarred]

/-- Settles O51: the clearing accepted and handed on, the refusal with its conditions, and the answers without effect. -/
theorem clearTrip : Obligations.ClearTrip := by
  refine ⟨fun m s tag index rest hheld hr hroom hbusy hlatch htripped => ?_,
    fun m s r rest hheld hr hop hroom hbusy hbad => ?_⟩
  · let r : Request := { tag := tag, op := 7, object := 0x53, index := index, data := [] }
    have hnone : bareFailure r 0x53 = none := bareFailure_none _ _ _ _
    have hiff : ({ tick m s with requests := rest } : State).clearAccepted = true ↔
        s.speedBelow s.spin.retainSpeed = true ∧ ∀ c, s.causeHolds c = false := clearAccepted_iff _
    refine ⟨_, exec_clearTrip m hheld hr rfl hroom, fun hspeed hcauses => ?_, fun hbars => ?_⟩
    · rw [runClearTrip_accepted hnone (by simpa using hlatch) (hiff.mpr ⟨hspeed, hcauses⟩)]
      let u : State := respond r stOk [] { tick m s with requests := rest, trip := s.trip.cleared }
      obtain ⟨htrip, hrequests⟩ := handClearing_kept m.choice u
      obtain ⟨hstate, hmarks, hfailed, hdwell, hsettle, hrecords⟩ :=
        handClearing_session_fields (s := u) (by exact htripped) m.choice
      have hanswer := (handClearing_effects m.choice u).answerStands rfl
        (respond_answerStands (s := { tick m s with requests := rest, trip := s.trip.cleared }) (by simpa using hbusy) r
          stOk [])
      obtain ⟨hspin, hagitate⟩ := handClearing_composed m.choice u
      have hceilings : ceilingsComposed (handClearing m.choice u) = true := by
        simp only [ceilingsComposed, Bool.and_eq_true, beq_iff_eq]
        exact ⟨hspin, hagitate⟩
      exact ⟨htrip, hstate, hmarks, hfailed, hdwell, hsettle, hrecords, handClearing_live m.choice u, hceilings, hrequests,
        hanswer.2⟩
    · rw [runClearTrip_barred hnone (by simpa using hlatch)]
      · have hbytes : responsePayload tag 7 stRefused 0x53 [State.conditionsWord { tick m s with requests := rest }] =
            [tag, 7, 10, 0x53] ++ be16 s.conditionsWord := responsePayload_one ..
        rw [respond_taken_busy hbusy, responseFrame]
        rw [conditionsWord_bytes] at hbytes
        exact congrArg (fun p => ({ tick m s with
          requests := rest
          portC := { s.portC with
            localQ := s.portC.localQ ++ [{ cls := 0x3D, payload := p, changed := false, restated := false }] } } : State))
          hbytes
      · rw [Ne, hiff]
        rintro ⟨hspeed, hcauses⟩
        rcases hbars with h | ⟨c, hc⟩
        · rw [hspeed] at h; cases h
        · rw [hcauses c] at hc; cases hc
  · refine ⟨_, exec_clearTrip m hheld hr hop hroom, ?_⟩
    have hanswer : runClearTrip m.choice r { tick m s with requests := rest } =
        respond r (if r.object ≠ 0x53 then 3 else if r.data ≠ [] then 5 else 0) [] { tick m s with requests := rest } := by
      by_cases hfail : r.object ≠ 0x53 ∨ r.data ≠ []
      · rw [runClearTrip_refused (bareFailure_of_bad hfail)]
        split_ifs with hobject hdata
        · rfl
        · rfl
        · exact absurd hfail (by tauto)
      · push Not at hfail
        have hclear : s.trip.latch = false := by tauto
        rw [runClearTrip_eq (by simp [bareFailure, hfail]), if_pos (by simpa using hclear), if_neg (by simp [hfail]), if_neg (by simp [hfail])]
        rfl
    rw [hanswer, respond_taken_busy hbusy, responseFrame, responsePayload, hop]
    rfl

end Sys2Proof.Machine
end

section
/-! SUPPORT. Chapter 6, the dwell end: what each of its three outcomes leaves, the counts that lead to it, and the entry to DWELL. -/

namespace Sys2Proof.Machine
open Sys2Proof.Safety

/-! ### The record of the dwell end -/

theorem recordDwellU_session (e : Fin 6) (s : State) :
    (recordDwellU e s).session =
      { s.session with progress := s.session.progress.set e { s.session.progress[e] with uLast := s.est.u } } := rfl

/-- R102: U of the dwell end stands in the plateau's record. -/
theorem recordDwellU_uLast (e : Fin 6) (s : State) :
    ((recordDwellU e s).session.progress[e]).uLast = s.est.u := by
  simp [recordDwellU]

theorem recordDwellU_attempts (e : Fin 6) (s : State) :
    ((recordDwellU e s).session.progress[e]).attempts = (s.session.progress[e]).attempts := by
  simp [recordDwellU]

/-! ### The plateau passes -/

/-- R102: a plateau's record as it passes, marked. -/
def markPassed (e : Fin 6) (s : State) : State :=
  latchKind .plateauPassed
    { s with session :=
      { s.session with progress := s.session.progress.set e { s.session.progress[e] with passed := true } } }

theorem plateauPasses_eq (ch : Choice) (e : Fin 6) (s : State) :
    plateauPasses ch e s = enterClimbOrOpen ch (markPassed e s) := rfl

theorem markPassed_kept (e : Fin 6) (s : State) :
    (markPassed e s).session =
        { s.session with progress := s.session.progress.set e { s.session.progress[e] with passed := true } } ∧
      (markPassed e s).tables = s.tables ∧ (markPassed e s).tracker = s.tracker := by
  simp [markPassed]

/-- R99, R102, R113: what CLIMB or OPEN leaves in the session. -/
theorem enterClimbOrOpen_session (ch : Choice) (s : State) :
    (enterClimbOrOpen ch s).session =
      match s.currentPlateau with
      | some d =>
        if plateauSpeed s.tables d ≤ s.indexSpeed + 10 then { s.session with state := .dwell, dwell := 0, midRev := true }
        else { s.session with state := .climb }
      | none => { s.session with state := .opened, redist := 0 } := by
  cases he : s.currentPlateau with
  | some d => simp only [enterClimbOrOpen_some ch he, enterClimb_session ch he]
  | none => simp only [enterClimbOrOpen_none ch he, enterOpen_session]

/-- R99, R102, R113: the marks and the list are no part of it. -/
theorem enterClimbOrOpen_records (ch : Choice) (s : State) :
    (enterClimbOrOpen ch s).session.progress = s.session.progress ∧
      (enterClimbOrOpen ch s).session.corrections = s.session.corrections := by
  rw [enterClimbOrOpen_session]
  split
  · split <;> exact ⟨rfl, rfl⟩
  · exact ⟨rfl, rfl⟩

/-- R97: an entry to CLIMB or OPEN leaves the current plateau. -/
theorem enterClimbOrOpen_plateau (ch : Choice) (s : State) : (enterClimbOrOpen ch s).currentPlateau = s.currentPlateau :=
  currentPlateau_congr (by simp) (by simp) (enterClimbOrOpen_records ch s).1

/-- R99, R102, R113: the state that follows, by the current plateau. -/
theorem enterClimbOrOpen_state (ch : Choice) (s : State) :
    (∀ d, (enterClimbOrOpen ch s).currentPlateau = some d →
      (enterClimbOrOpen ch s).session.state =
          (if plateauSpeed s.tables d ≤ s.indexSpeed + 10 then .dwell else .climb) ∧
        (enterClimbOrOpen ch s).session.redist = s.session.redist) ∧
    ((enterClimbOrOpen ch s).currentPlateau = none →
      (enterClimbOrOpen ch s).session.state = .opened ∧ (enterClimbOrOpen ch s).session.redist = 0) := by
  rw [enterClimbOrOpen_plateau, enterClimbOrOpen_session]
  refine ⟨fun d hd => ?_, fun hnone => ?_⟩
  · simp only [hd]
    split <;> exact ⟨rfl, rfl⟩
  · simp only [hnone]
    exact ⟨trivial, trivial⟩

/-! ### The plateau fails -/

/-- R103, R110, R112: the state that a failure enters, before the speed is judged. -/
theorem plateauFails_eq (ch : Choice) (e : Fin 6) (s : State) :
    plateauFails ch e s =
      if s.session.redist < s.spin.maxRedist then
        retainCheck ch (setSession ch .holdDown { s with session := { s.session with failed := some e } })
      else setSession ch .limited { s with session := { s.session with failed := some e } } := rfl

theorem speedBelow_congr {s t : State} (htracker : t.tracker = s.tracker) (hdrive : t.drive = s.drive)
    (hsilence : t.silence = s.silence) (n : Nat) : t.speedBelow n = s.speedBelow n := by
  unfold State.speedBelow
  rw [speed_congr htracker hdrive hsilence]

theorem retainCheck_above {s : State} (h : s.speedBelow s.spin.retainSpeed = false) (ch : Choice) : retainCheck ch s = s :=
  if_neg (by simp [h])

/-- R110: below RETAIN_SPEED HOLD_DOWN ends in IDLE, one more redistribution counted. -/
theorem retainCheck_holdDown {s : State} (h : s.speedBelow s.spin.retainSpeed = true) (hstate : s.session.state = .holdDown)
    (ch : Choice) :
    retainCheck ch s = enterIdle ch { s with session := { s.session with redist := s.session.redist + 1 } } := by
  simp [retainCheck, h, hstate]

/-- R113: below RETAIN_SPEED RUNDOWN ends in IDLE. -/
theorem retainCheck_rundown {s : State} (h : s.speedBelow s.spin.retainSpeed = true) (hstate : s.session.state = .rundown)
    (ch : Choice) : retainCheck ch s = enterIdle ch s := by
  simp [retainCheck, h, hstate]

theorem retainCheck_other {s : State} (hhold : s.session.state ≠ .holdDown) (hrundown : s.session.state ≠ .rundown)
    (ch : Choice) : retainCheck ch s = s := by
  unfold retainCheck
  split
  · split
    · exact absurd ‹_› hhold
    · exact absurd ‹_› hrundown
    · rfl
  · rfl

section

variable {ch : Choice} {e : Fin 6} {s : State}

/-- R110: a plateau that fails while the redistribution count is below MAX_REDIST, above RETAIN_SPEED. -/
theorem plateauFails_holdDown (hredist : s.session.redist < s.spin.maxRedist)
    (hspeed : s.speedBelow s.spin.retainSpeed = false) :
    plateauFails ch e s = setSession ch .holdDown { s with session := { s.session with failed := some e } } := by
  rw [plateauFails_eq, if_pos hredist, retainCheck_above]
  rw [speedBelow_congr (s := s) (by simp) (by simp) (by simp)]
  simpa using hspeed

/-- R110: the same at once below RETAIN_SPEED. -/
theorem plateauFails_idle (hredist : s.session.redist < s.spin.maxRedist)
    (hspeed : s.speedBelow s.spin.retainSpeed = true) :
    (plateauFails ch e s).session = { s.session with
      state := .idle
      progress := mapAll (fun p => { p with passed := false }) s.session.progress
      failed := none, dwell := 0, settle := 0, redist := s.session.redist + 1 } := by
  rw [plateauFails_eq, if_pos hredist, retainCheck_holdDown]
  · simp
  · rw [speedBelow_congr (s := s) (by simp) (by simp) (by simp)]
    simpa using hspeed
  · simp

/-- R112: a plateau that fails with the redistributions used up. -/
theorem plateauFails_limited (hredist : s.spin.maxRedist ≤ s.session.redist) :
    plateauFails ch e s = setSession ch .limited { s with session := { s.session with failed := some e } } := by
  rw [plateauFails_eq, if_neg (by omega)]

/-- R103: a failure leaves the marks apart, each plateau's attempts and U; and the list. -/
theorem plateauFails_records :
    (∀ d : Fin 6, ((plateauFails ch e s).session.progress[d]).uLast = (s.session.progress[d]).uLast) ∧
      (plateauFails ch e s).session.corrections = s.session.corrections := by
  by_cases hredist : s.session.redist < s.spin.maxRedist
  · cases hspeed : s.speedBelow s.spin.retainSpeed with
    | true => rw [plateauFails_idle hredist hspeed]; simp [mapAll]
    | false => rw [plateauFails_holdDown hredist hspeed]; simp
  · rw [plateauFails_limited (by omega)]; simp

end

/-- R84: in HOLD_DOWN the SPIN ceiling is 0. -/
theorem holdDown_spin (ch : Choice) (s : State) : (setSession ch .holdDown s).gov.spin = 0 := by
  have hmem : 0 ∈ (setSession ch .holdDown s).spinTerms := by
    simp [State.spinTerms, State.sessionTerm]
  rw [(setSession_composed ch .holdDown s).1]
  exact Nat.le_zero.mp (spinCeiling_le_of_mem hmem)

/-! ### The correction begins -/

/-- R104: the correction record as it is made. -/
def newCorrection (s : State) (e : Fin 6) (c : Fin 4) (w : Nat) : Correction :=
  { plateau := e, chamber := c, requested := w, credited := 0, outcome := .inProgress, uPlan := s.est.u }

/-- R104: CORRECT entered and its record made, the request not yet sent to the ring. -/
def correctEntered (ch : Choice) (e : Fin 6) (c : Fin 4) (w : Nat) (s : State) : State :=
  { setSession ch .correct s with
    session := { s.session with
      state := .correct, corrections := addCorrection (newCorrection s e c w) s.session.corrections } }

theorem enterCorrect_eq (ch : Choice) (e : Fin 6) (c : Fin 4) (w : Nat) (s : State) :
    enterCorrect ch e c w s = requestInjection ch c w (correctEntered ch e c w s) := by
  simp [enterCorrect, correctEntered, newCorrection]

/-- R124: an injection that the ring does not refuse starts, and the session hears nothing. -/
theorem requestInjection_starts {s : State} (h : s.ringRefuses = false) (ch : Choice) (c : Fin 4) (w : Nat) :
    requestInjection ch c w s = startInjection c w s := by
  simp [requestInjection, h]

/-- R124: the context of an injection as it starts. -/
theorem startInjection_ctx (c : Fin 4) (w : Nat) (s : State) :
    (startInjection c w s).ring.ctx = { s.ring.ctx with
      state := .active, chamber := c, requested := w, credited := 0, tailCredited := 0, outcome := .inProgress
      start := s.now, lastPulse := s.now } := rfl

/-- R105: a record added is the newest. -/
theorem addCorrection_eq (x : Correction) (l : List Correction) :
    addCorrection x l = (if 8 ≤ l.length then l.drop 1 else l) ++ [x] := rfl

/-- R105, R124: a request refused in CORRECT ends at once ABORTED with 0 grams. -/
theorem requestInjection_refused {s : State} (h : s.ringRefuses = true) (hstate : s.session.state = .correct)
    (ch : Choice) (c : Fin 4) (w : Nat) :
    requestInjection ch c w s = enterSettle ch false (recordOutcome .aborted 0 s) := by
  rw [requestInjection, if_pos h, injectionEnded, if_pos hstate]

/-- R105: an entry to SETTLE leaves the marks and the list. -/
theorem enterSettle_records (ch : Choice) (fault : Bool) (s : State) :
    (enterSettle ch fault s).session.progress = s.session.progress ∧
      (enterSettle ch fault s).session.corrections = s.session.corrections := by
  rcases enterSettle_session ch fault s with h | h <;> exact ⟨by rw [h], by rw [h]⟩

/-- R104, R105: whatever becomes of the request, no plateau's U moves. -/
theorem enterCorrect_uLast (ch : Choice) (e : Fin 6) (c : Fin 4) (w : Nat) (s : State) (d : Fin 6) :
    ((enterCorrect ch e c w s).session.progress[d]).uLast = (s.session.progress[d]).uLast := by
  rw [enterCorrect_eq]
  cases hrefuses : (correctEntered ch e c w s).ringRefuses with
  | false => rw [requestInjection_starts hrefuses]; rfl
  | true =>
    have hrecord := recordOutcome_append (s := correctEntered ch e c w s)
      (x := newCorrection s e c w) (addCorrection_eq _ s.session.corrections) .aborted 0
    rw [requestInjection_refused hrefuses rfl, (enterSettle_records _ _ _).1, hrecord]
    change ((useAttempt s.session.progress e)[d]).uLast = (s.session.progress[d]).uLast
    by_cases hd : d = e
    · rw [hd, useAttempt_same]
    · rw [useAttempt_other _ hd]

/-! ### The dwell end -/

theorem dwellEnd_passes {s : State} {e : Fin 6} (h : s.est.u ≤ plateauPass s.tables e) (ch : Choice) :
    dwellEnd ch e s = plateauPasses ch e (recordDwellU e s) := if_pos h

theorem dwellEnd_corrects {s : State} {e : Fin 6} {c : Fin 4} {w : Nat} (h : ¬s.est.u ≤ plateauPass s.tables e)
    (hplan : correctionPlan (recordDwellU e s) e = some (c, w)) (ch : Choice) :
    dwellEnd ch e s = enterCorrect ch e c w (recordDwellU e s) := by
  have hne : ¬(recordDwellU e s).est.u ≤ plateauPass (recordDwellU e s).tables e := h
  simp only [dwellEnd, if_neg hne, hplan]

theorem dwellEnd_fails {s : State} {e : Fin 6} (h : ¬s.est.u ≤ plateauPass s.tables e)
    (hplan : correctionPlan (recordDwellU e s) e = none) (ch : Choice) :
    dwellEnd ch e s = plateauFails ch e (recordDwellU e s) := by
  have hne : ¬(recordDwellU e s).est.u ≤ plateauPass (recordDwellU e s).tables e := h
  simp only [dwellEnd, if_neg hne, hplan]

/-- R103: an attempt is left, the cap is above 0 and the ring is AVAILABLE. -/
def MayCorrect (s : State) (e : Fin 6) : Prop :=
  (s.session.progress[e]).attempts < plateauAttempts s.tables e ∧ 0 < plateauCap s.tables e ∧ s.ring.available = true

/-- R103: a correction is planned when it may be made and there is a plan. -/
theorem correctionPlan_recordDwellU {s : State} {e : Fin 6} (h : MayCorrect s e) :
    correctionPlan (recordDwellU e s) e = planCorrection s (plateauCap s.tables e) := by
  obtain ⟨hattempts, hcap, havailable⟩ := h
  exact if_pos ⟨by rw [recordDwellU_attempts]; exact hattempts, hcap, havailable⟩

theorem correctionPlan_eq_none {s : State} {e : Fin 6}
    (h : ¬(MayCorrect s e ∧ (planCorrection s (plateauCap s.tables e)).isSome = true)) :
    correctionPlan (recordDwellU e s) e = none := by
  by_cases hmay : MayCorrect s e
  · rw [correctionPlan_recordDwellU hmay]
    simpa [hmay] using h
  · refine if_neg fun ⟨hattempts, hcap, havailable⟩ => hmay ⟨?_, hcap, havailable⟩
    rw [recordDwellU_attempts] at hattempts
    exact hattempts

/-- R102: whatever the outcome, the plateau's record keeps the U of the dwell end. -/
theorem dwellEnd_uLast (ch : Choice) (e : Fin 6) (s : State) : ((dwellEnd ch e s).session.progress[e]).uLast = s.est.u := by
  by_cases hpass : s.est.u ≤ plateauPass s.tables e
  · rw [dwellEnd_passes hpass, plateauPasses_eq, (enterClimbOrOpen_records _ _).1, (markPassed_kept _ _).1]
    simp [recordDwellU]
  · cases hplan : correctionPlan (recordDwellU e s) e with
    | some plan => rw [dwellEnd_corrects hpass hplan, enterCorrect_uLast, recordDwellU_uLast]
    | none => rw [dwellEnd_fails hpass hplan, plateauFails_records.1, recordDwellU_uLast]

/-- R102, R117: a plateau that passes latches PLATEAU_PASSED once. -/
theorem plateauPasses_once (ch : Choice) (e : Fin 6) (s : State) : LatchedOnce .plateauPassed s (plateauPasses ch e s) :=
  (latchKind_once .plateauPassed
    { s with session :=
      { s.session with progress := s.session.progress.set e { s.session.progress[e] with passed := true } } }).after.then_kinds
    (enterClimbOrOpen_kinds ch _)

/-! ### The counts -/

/-- R101: the session's part of a counted revolution in DWELL. -/
theorem sessionClose_dwell {s : State} {e : Fin 6} (hstate : s.session.state = .dwell) (hmid : s.session.midRev = false)
    (he : s.currentPlateau = some e) (ch : Choice) :
    sessionClose ch s =
      if plateauDwell s.tables e ≤ s.session.dwell + 1 then
        dwellEnd ch e { s with session := { s.session with dwell := s.session.dwell + 1 } }
      else { s with session := { s.session with dwell := s.session.dwell + 1 } } := by
  have he' : ({ s with session := { s.session with dwell := s.session.dwell + 1 } } : State).currentPlateau = some e :=
    (currentPlateau_congr rfl rfl rfl).trans he
  unfold sessionClose
  rw [hstate, hmid]
  dsimp only
  rw [he']

/-- R106: the session's part of a counted revolution in SETTLE. -/
theorem sessionClose_settle {s : State} {e : Fin 6} (hstate : s.session.state = .settle) (hmid : s.session.midRev = false)
    (he : s.currentPlateau = some e) (ch : Choice) :
    sessionClose ch s =
      if plateauSettle s.tables e ≤ s.session.settle + 1 then
        enterDwell ch { s with session := { s.session with settle := s.session.settle + 1 } }
      else { s with session := { s.session with settle := s.session.settle + 1 } } := by
  have he' : ({ s with session := { s.session with settle := s.session.settle + 1 } } : State).currentPlateau = some e :=
    (currentPlateau_congr rfl rfl rfl).trans he
  unfold sessionClose
  rw [hstate, hmid]
  dsimp only
  exact settleCheck_eq ch (by exact hstate) he'

/-- R101: a revolution that began before the entry, or in another state, has no effect. -/
theorem sessionClose_other {s : State}
    (h : s.session.midRev = true ∨ (s.session.state ≠ .dwell ∧ s.session.state ≠ .settle)) (ch : Choice) :
    sessionClose ch s = s := by
  unfold sessionClose
  split
  · simp_all
  · simp_all
  · rfl

theorem startInjection_contents (c : Fin 4) (w : Nat) (s : State) :
    (startInjection c w s).ring.contents = s.ring.contents := rfl

/-- Settles O38: the three outcomes of the dwell end, the counts, and the judging in CLIMB. -/
theorem dwellEnds : Obligations.DwellEnds := by
  refine ⟨fun ch e s => ⟨fun hpass => ?_, dwellEnd_uLast ch e s, fun c w hpass htried hplan hangle hlatch => ?_,
    fun hpass hnot => ?_, ?_⟩, fun ch e s he => ⟨fun hstate hmid hbelow => ?_, fun hstate hmid hreached => ?_,
    fun hstate hmid hbelow => ?_, fun hstate hmid hreached => ?_, fun h => sessionClose_other h ch⟩,
    fun ch e s hstate he => ⟨fun hbelow => ?_, fun hreached => ?_⟩⟩
  · obtain ⟨hlatch, hcount⟩ := plateauPasses_once ch e (recordDwellU e s)
    obtain ⟨hsession, htables, htracker⟩ := markPassed_kept e (recordDwellU e s)
    obtain ⟨hsome, hnone⟩ := enterClimbOrOpen_state ch (markPassed e (recordDwellU e s))
    obtain ⟨hprogress, hrecords⟩ := enterClimbOrOpen_records ch (markPassed e (recordDwellU e s))
    dsimp only
    rw [dwellEnd_passes hpass]
    refine ⟨?_, hlatch, hcount, ?_, by simp [recordDwellU], fun d hd => ?_, hnone⟩
    · rw [plateauPasses_eq, hprogress, hsession]
      simp [recordDwellU]
    · rw [plateauPasses_eq, hrecords, hsession]
      rfl
    · exact hsome d hd
  · have hplan' := (correctionPlan_recordDwellU htried).trans hplan
    have hstarts : (correctEntered ch e c w (recordDwellU e s)).ringRefuses = false := by
      have havailable := htried.2.2
      simp only [State.angleValid] at hangle
      simp [State.ringRefuses, correctEntered, State.angleValid, havailable, hlatch, hangle]
    dsimp only
    rw [dwellEnd_corrects (Nat.not_le.mpr hpass) hplan', enterCorrect_eq, requestInjection_starts hstarts,
      startInjection_ctx]
    refine ⟨rfl, rfl, ?_, ?_⟩
    · simp [correctEntered, recordDwellU]
    · rw [startInjection_contents]
      simp [correctEntered, recordDwellU]
  · have hplan := correctionPlan_eq_none hnot
    have hrecords := (plateauFails_records (ch := ch) (e := e) (s := recordDwellU e s)).2
    rw [dwellEnd_fails (Nat.not_le.mpr hpass) hplan]
    refine ⟨fun hredist hspeed => ?_, fun hredist hspeed => ?_, fun hredist => ?_, by simp, hrecords⟩
    · rw [plateauFails_holdDown (by exact hredist) (by exact hspeed)]
      exact ⟨by simp, by simp, holdDown_spin ch _⟩
    · rw [plateauFails_idle (by exact hredist) (by exact hspeed)]
      exact ⟨rfl, rfl⟩
    · rw [plateauFails_limited (by exact hredist)]
      exact ⟨by simp, by simp⟩
  · simp
  · exact (sessionClose_dwell hstate hmid he ch).trans (if_neg (Nat.not_le.mpr hbelow))
  · exact (sessionClose_dwell hstate hmid he ch).trans (if_pos hreached)
  · exact (sessionClose_settle hstate hmid he ch).trans (if_neg (Nat.not_le.mpr hbelow))
  · dsimp only
    rw [sessionClose_settle hstate hmid he, if_pos (by exact hreached)]
    exact ⟨by simp, by simp, by simp, by simp⟩
  · exact (climbCheck_eq ch hstate he).trans (if_neg (Nat.not_le.mpr hbelow))
  · dsimp only
    rw [climbCheck_eq ch hstate he, if_pos (by exact hreached)]
    refine ⟨enterDwell_session ch s, endWeighing_not_armed _, fun hnot => ?_, by simp, by simp, by simp⟩
    rw [enterDwell, endWeighing_of_not_armed (by simpa using hnot)]
    exact ⟨by simp, by simp⟩

end Sys2Proof.Machine
end


section
/-! SUPPORT. What a frame taken does before the class table disposes of it, the request queue, the sample intake, and the statements of them. -/

namespace Sys2Proof.Machine
open Sys2Proof.Safety

/-- Log 5: two effects of one moment are made in the one order or in the other. -/
theorem inOrder_pair (code : List Nat) (f g : State → State) (s : State) :
    inOrder code [f, g] s = g (f s) ∨ inOrder code [f, g] s = f (g s) := by
  obtain ⟨a, b, hab⟩ := List.length_eq_two.mp (arrange_perm code [f, g]).length_eq
  have hperm : [a, b].Perm [f, g] := hab ▸ arrange_perm code [f, g]
  have hrun : inOrder code [f, g] s = b (a s) := by simp [inOrder, hab, inTurn]
  rw [hrun]
  have ha : a = f ∨ a = g := by simpa using hperm.mem_iff.mp (List.mem_cons_self ..)
  rcases ha with rfl | rfl
  · obtain rfl : b = g := by simpa using (List.perm_cons a).mp hperm
    exact .inl rfl
  · obtain rfl : b = f := by simpa using (List.perm_cons a).mp (hperm.trans (.swap ..))
    exact .inr rfl

/-! ### What listening moves -/

/-- R7, R23: nothing but the sequence check of Port C, the silence timers, the monitor counter, the event unit and Port C moves. -/
def ListensOnly (s t : State) : Prop :=
  t = { s with
    rxC := t.rxC, silence := t.silence, monitor := t.monitor, events := t.events, portC := t.portC }

theorem ListensOnly.refl (s : State) : ListensOnly s s := rfl

theorem ListensOnly.trans {s t u : State} (h₁ : ListensOnly s t) (h₂ : ListensOnly t u) : ListensOnly s u := by
  unfold ListensOnly at *
  rw [h₂, h₁]

theorem countSource_listens (src : Source) (s : State) : ListensOnly s (countSource src s) := by
  apply State.eq_of_fields <;> simp

theorem judgeLive_listens (k : Kind) (s : State) : ListensOnly s (judgeLive k s) := by
  apply State.eq_of_fields <;> simp

theorem checkSeqC_listens (seq : Byte) (s : State) : ListensOnly s (checkSeqC seq s) := by
  unfold checkSeqC; dsimp only; split
  · exact ListensOnly.trans (t := { s with rxC := { lastSeq := seq, armed := true } }) rfl (countSource_listens _ _)
  · rfl

theorem checkSeqD_listens (seq : Byte) (s : State) : 
    ListensOnly { s with rxD := { lastSeq := seq, armed := true } } (checkSeqD seq s) := by
  unfold checkSeqD; dsimp only; split
  · exact countSource_listens _ _
  · rfl

theorem heardC_listens (s : State) : ListensOnly s (heardC s) :=
  ListensOnly.trans (t := { s with silence :=
    { s.silence with controllerSince := s.now, controllerSilent := false, orphan := none } }) rfl (judgeLive_listens _ _)

/-- R7: the check of Port C takes the sequence of the frame. -/
@[simp] theorem checkSeqC_rxC (seq : Byte) (s : State) : (checkSeqC seq s).rxC = { lastSeq := seq, armed := true } := by
  unfold checkSeqC; dsimp only; split <;> simp

@[simp] theorem checkSeqC_silence (seq : Byte) (s : State) : (checkSeqC seq s).silence = s.silence := by
  unfold checkSeqC; dsimp only; split <;> simp

/-- R7: the check of Port D takes the sequence of the frame. -/
@[simp] theorem checkSeqD_rxD (seq : Byte) (s : State) : (checkSeqD seq s).rxD = { lastSeq := seq, armed := true } := by
  unfold checkSeqD; dsimp only; split <;> simp

@[simp] theorem heardC_rxC (s : State) : (heardC s).rxC = s.rxC := by simp [heardC]

@[simp] theorem heardC_monitor (s : State) : (heardC s).monitor = s.monitor := by simp [heardC]

/-- R23, R24: a good frame at Port C ends the silence and the orphan stop. -/
@[simp] theorem heardC_silence (s : State) :
    (heardC s).silence = { s.silence with controllerSince := s.now, controllerSilent := false, orphan := none } := by
  simp [heardC]

theorem countSource_monitor_of_ne {src : Source} {s : State} (h : s.monitor.source ≠ src) :
    (countSource src s).monitor = s.monitor := by
  rw [countSource_monitor, if_neg h]

theorem countSource_count {src : Source} {s : State} (h : s.monitor.source = src) :
    (countSource src s).monitor.count = min 65535 (s.monitor.count + 1) := by
  rw [countSource_monitor, if_pos h]

theorem checkSeqC_monitor {seq : Byte} {s : State} (h : s.monitor.source ≠ .seqGap) :
    (checkSeqC seq s).monitor = s.monitor := by
  unfold checkSeqC; dsimp only; split
  · exact countSource_monitor_of_ne h
  · rfl

/-! ### A frame taken at Port C -/

/-- R6: the framer that a whole frame leaves behind. -/
def restFramer (s : State) (n : Nat) : Framer := { phase := .hunt, stored := [], lastByte := s.now, length := n }

/-- R7, R23: what a frame taken at Port C does before its class is asked for. -/
def hearC (ch : Choice) (seq : Byte) (s : State) : State := inOrder ch.effects [checkSeqC seq, heardC] s

theorem hearC_listens (ch : Choice) (seq : Byte) (s : State) : ListensOnly s (hearC ch seq s) :=
  inOrder_keeps (ListensOnly s) (.refl s) fun f hf t ht => ht.trans (by
    rcases List.mem_pair.mp hf with rfl | rfl
    · exact checkSeqC_listens seq t
    · exact heardC_listens t)

/-- R7: the check of Port C stands at the frame's sequence, whatever the order. -/
theorem hearC_rxC (ch : Choice) (seq : Byte) (s : State) : (hearC ch seq s).rxC = { lastSeq := seq, armed := true } :=
  inOrder_brings (fun t => t.rxC = { lastSeq := seq, armed := true })
    (fun f hf t ht => by rcases List.mem_pair.mp hf with rfl | rfl <;> simp [ht])
    ⟨checkSeqC seq, by simp, fun t => checkSeqC_rxC seq t⟩

/-- R23, R24: the silence timer of Port C restarts, whatever the order. -/
theorem hearC_silence (ch : Choice) (seq : Byte) (s : State) :
    (hearC ch seq s).silence =
      { s.silence with controllerSince := s.now, controllerSilent := false, orphan := none } := by
  have hnow : (checkSeqC seq s).now = s.now := by rw [checkSeqC_listens seq s]
  rcases inOrder_pair ch.effects (checkSeqC seq) heardC s with h | h <;> simp [hearC, h, hnow]

theorem hearC_monitor {s : State} (h : s.monitor.source ≠ .seqGap) (ch : Choice) (seq : Byte) :
    (hearC ch seq s).monitor = s.monitor :=
  inOrder_keeps (fun t => t.monitor = s.monitor) rfl fun f hf t ht => by
    rcases List.mem_pair.mp hf with rfl | rfl
    · exact (checkSeqC_monitor (by rw [ht]; exact h)).trans ht
    · exact (heardC_monitor t).trans ht

/-- R6: a command that carries a whole good frame takes it, its framer at rest. -/
theorem happen_wholeFrame {s : State} (hheld : s.held = false) (m : Moment) (ch : Choice) (link : Link) {cls : Class}
    (seq : Byte) {payload : List Byte} (hlength : lengthAllowed cls payload.length = true) :
    happen m (wholeFrame ch link cls seq payload) s =
      .next (frameTaken ch link cls seq payload
        ((tick m s).withFramer link (restFramer (tick m s) payload.length))) := by
  rw [happen_live hheld, wholeFrame, if_pos hlength, restFramer]

/-! ### MANAGEMENT REQUEST -/

theorem lengthAllowed_request {n : Nat} (h : n ≤ 20) : lengthAllowed requestClass (n + 4) = true := by
  simp [lengthAllowed, requestClass, speedDemandClass, sampleClass, driveStatusClass]
  omega

/-- R3, Table 1-5: a request payload gives the request back. -/
theorem requestOf_requestPayload (tag op object index : Byte) (data : List Byte) :
    requestOf (requestPayload tag op object index data) = { tag, op, object, index, data } := rfl

/-- R159: a queue with room takes the request at its back. -/
theorem consumeFrame_room {s : State} (h : s.requests.length < 2) (payload : List Byte) :
    consumeFrame payload s = { s with requests := s.requests ++ [requestOf payload] } := if_pos h

/-- R159: at a full queue one DROPS is offered. -/
theorem consumeFrame_full {s : State} (h : 2 ≤ s.requests.length) (payload : List Byte) :
    consumeFrame payload s = countSource .drops s := if_neg (Nat.not_lt.mpr h)

theorem exec_managementRequestTaken {s : State} (hheld : s.held = false) (m : Moment)
    (seq tag op object index : Byte) {data : List Byte} (h : data.length ≤ 20) :
    ∃ w, ListensOnly { tick m s with framerC := restFramer (tick m s) (data.length + 4) } w ∧
      w.rxC = { lastSeq := seq, armed := true } ∧ (s.monitor.source = .drops → w.monitor = s.monitor) ∧
      exec (.managementRequestTaken m seq tag op object index data) s =
        .next (consumeFrame (requestPayload tag op object index data) w) :=
  ⟨hearC m.choice seq { tick m s with framerC := restFramer (tick m s) (data.length + 4) }, hearC_listens _ _ _,
    hearC_rxC _ _ _, fun hsource => hearC_monitor (by simp [hsource]) _ _,
    happen_wholeFrame hheld m m.choice .portC seq (lengthAllowed_request h)⟩

/-- Settles O16: a request joins a queue with room and is dropped and counted at a full one. -/
theorem requestTaken : Obligations.RequestTaken := by
  intro m seq tag op object index data s hheld hlength
  obtain ⟨w, hw, hrx, hmonitor, hexec⟩ := exec_managementRequestTaken hheld m seq tag op object index hlength
  have hrequests : w.requests = s.requests := by rw [hw]; simp
  refine ⟨_, hexec, ?_⟩
  by_cases hroom : s.requests.length < 2
  · rw [consumeFrame_room (by rw [hrequests]; exact hroom), hrequests, requestOf_requestPayload]
    refine ⟨(if_pos hroom).symm, hrx, fun hfull => absurd hroom (Nat.not_lt.mpr hfull), ?_⟩
    rw [hw]
  · rw [consumeFrame_full (by rw [hrequests]; exact Nat.le_of_not_lt hroom)]
    refine ⟨by rw [if_neg hroom]; simp [hrequests], by simp [hrx], fun _ hsource => ?_, ?_⟩
    · rw [countSource_count (by rw [hmonitor hsource]; exact hsource), hmonitor hsource]
    · have hframe := hw.trans (countSource_listens .drops w)
      unfold ListensOnly at hframe
      rw [hframe]

/-! ### SAMPLE -/

/-- R25: a SAMPLE before its angle is asked for: heard, counted, recorded. -/
def sampleRecorded (payload : List Byte) (s : State) : State :=
  recordSample payload (checkCount (field8 payload 0) (heardS s))

theorem sampleFrame_eq (payload : List Byte) (s : State) :
    sampleFrame payload s = useSample (sampleRecorded payload s) := rfl

theorem checkCount_intake (count : Byte) (s : State) :
    (checkCount count s).intake = { s.intake with lastCount := count, armed := true } := by
  unfold checkCount; dsimp only; split <;> simp

theorem checkCount_frame (count : Byte) (s : State) :
    checkCount count s = { s with
      intake := (checkCount count s).intake, monitor := (checkCount count s).monitor
      events := (checkCount count s).events, portC := (checkCount count s).portC } := by
  unfold checkCount; dsimp only; split <;> apply State.eq_of_fields <;> simp

/-- R29: a sample whose count is not the one expected is one gap. -/
theorem checkCount_count {count : Byte} {s : State} (hsource : s.monitor.source = .seqGap)
    (harmed : s.intake.armed = true) (hgap : count ≠ s.intake.lastCount + 1) :
    (checkCount count s).monitor.count = min 65535 (s.monitor.count + 1) := by
  have hgap' : s.intake.gap count = true := by rw [Intake.gap, harmed, bne_iff_ne.mpr hgap]; rfl
  simp only [checkCount, hgap', if_true]
  exact countSource_count hsource

theorem heardS_frame (s : State) :
    heardS s = { s with
      intake := { s.intake with since := s.now, loss := false }, events := (heardS s).events
      portC := (heardS s).portC } := by
  apply State.eq_of_fields <;> simp [heardS]

/-- R25: recording a sample moves the intake, and listening's own. -/
theorem sampleRecorded_frame (payload : List Byte) (s : State) :
    sampleRecorded payload s = { s with
      intake := (sampleRecorded payload s).intake, monitor := (sampleRecorded payload s).monitor
      events := (sampleRecorded payload s).events, portC := (sampleRecorded payload s).portC } := by
  unfold sampleRecorded recordSample
  rw [checkCount_frame, heardS_frame]

/-- R25, R28, R29: the intake after a sample. -/
theorem sampleRecorded_intake (payload : List Byte) (s : State) :
    (sampleRecorded payload s).intake =
      { since := s.now, loss := false, last := sampleRecord s.now s.spin.sensorLatency payload
        lastCount := field8 payload 0, armed := true } := by
  have hcheck := checkCount_frame (field8 payload 0) (heardS s)
  have hheard := heardS_frame s
  have hnow : (checkCount (field8 payload 0) (heardS s)).now = s.now := by rw [hcheck, hheard]
  have hspin : (checkCount (field8 payload 0) (heardS s)).spin = s.spin := by rw [hcheck, hheard]
  have hintake : (heardS s).intake = { s.intake with since := s.now, loss := false } := by rw [hheard]
  simp only [sampleRecorded, recordSample, hnow, hspin, checkCount_intake, hintake]

theorem sampleRecorded_count {payload : List Byte} {s : State} (hsource : s.monitor.source = .seqGap)
    (harmed : s.intake.armed = true) (hgap : field8 payload 0 ≠ s.intake.lastCount + 1) :
    (sampleRecorded payload s).monitor.count = min 65535 (s.monitor.count + 1) := by
  have hheard := heardS_frame s
  have hmonitor : (heardS s).monitor = s.monitor := by rw [hheard]
  exact (checkCount_count (by rw [hmonitor]; exact hsource) (by rw [hheard]; exact harmed)
    (by rw [hheard]; exact hgap)).trans (by rw [hmonitor])

theorem useSample_frame (s : State) : useSample s = { s with est := (useSample s).est } := by
  unfold useSample; split <;> rfl

theorem useSample_angle {s : State} {theta : Nat} (h : s.sampleAngle = .angle theta) :
    (useSample s).est = s.est.accumulate s.intake.last.ax s.intake.last.ay theta := by
  simp only [useSample, h]

theorem useSample_noAngle {s : State} (h : ∀ theta, s.sampleAngle ≠ .angle theta) : useSample s = s := by
  unfold useSample; split
  · exact absurd ‹_› (h _)
  all_goals rfl

theorem accumulate_takes {e : Estimator} {a : Accumulation} (hstate : e.state ≠ .invalid) (hacc : e.acc = some a)
    (hn : a.n < 2047) (ax ay : Int) (theta : Nat) :
    e.accumulate ax ay theta = { e with acc := some (a.take ax ay theta) } := by
  unfold Estimator.accumulate
  rw [hacc]
  cases h : e.state with
  | invalid => exact absurd h hstate
  | priming => exact if_pos hn
  | valid => exact if_pos hn

/-- R55: no accumulation open, or a full one: the estimator stands. -/
theorem accumulate_same {e : Estimator} (h : e.state = .invalid ∨ ∀ a, e.acc = some a → 2047 ≤ a.n) (ax ay : Int)
    (theta : Nat) : e.accumulate ax ay theta = e := by
  unfold Estimator.accumulate
  split
  · rfl
  · rfl
  · next hacc hstate => exact if_neg (Nat.not_lt.mpr (h.resolve_left hstate _ hacc))

theorem useSample_est_same {s : State} (h : s.est.state = .invalid ∨ ∀ a, s.est.acc = some a → 2047 ≤ a.n) :
    (useSample s).est = s.est := by
  unfold useSample; split
  · exact accumulate_same h _ _ _
  all_goals rfl

/-- R49: a sample has an angle in LOCKED alone, at SENSOR_LATENCY or later and less than P after that. -/
theorem sampleAngle_eq_angle_iff {s : State} {theta : Nat} :
    s.sampleAngle = .angle theta ↔ ∃ since p, s.tracker.state = .locked ∧ s.tracker.lastIndex = some since ∧
      s.tracker.period = some p ∧ s.spin.sensorLatency ≤ elapsed s.now since ∧
      elapsed s.now since - s.spin.sensorLatency < p ∧
      theta = (elapsed s.now since - s.spin.sensorLatency) * 65536 / p := by
  unfold State.sampleAngle
  split
  · next since p hstate hindex hperiod =>
    simp only [hstate, hindex, hperiod, Option.some.injEq, true_and]
    constructor
    · intro h
      split at h
      · cases h
      · split at h
        · cases h
          exact ⟨since, p, rfl, rfl, by omega, ‹_›, rfl⟩
        · cases h
    · rintro ⟨_, _, rfl, rfl, hearly, hlate, rfl⟩
      rw [if_neg (Nat.not_lt.mpr hearly), if_pos hlate]
      rfl
  · next hnot =>
    constructor
    · intro h
      cases h
    rintro ⟨since, p, hstate, hindex, hperiod, _⟩
    exact absurd hperiod (hnot since p hstate hindex)

theorem clampSample_eq (w : Sys2Proof.Word) : clampSample w = max (-8000) (min 8000 w.toInt) :=
  clampInt_eq_max_min (by decide) _

theorem clampSample_ne_iff (w : Sys2Proof.Word) :
    (clampSample w != w.toInt) = decide (w.toInt < -8000 ∨ 8000 < w.toInt) := by
  rw [clampSample_eq, Bool.eq_iff_iff, bne_iff_ne, decide_eq_true_iff]
  omega

/-- R26 to R28, R32: the record that a SAMPLE's fields give. -/
theorem sampleRecord_samplePayload (now : Time) (latency : Nat) (count : Byte) (ax ay az : Sys2Proof.Word) :
    sampleRecord now latency (samplePayload count ax ay az) =
      { present := true, count := count, ax := max (-8000) (min 8000 ax.toInt), ay := max (-8000) (min 8000 ay.toInt)
        az := az.toInt
        saturated := decide (ax.toInt < -8000 ∨ 8000 < ax.toInt ∨ ay.toInt < -8000 ∨ 8000 < ay.toInt)
        timestamp := now - BitVec.ofNat 32 latency } := by
  have hx : field16 (samplePayload count ax ay az) 1 = ax := be16_append ax
  have hy : field16 (samplePayload count ax ay az) 3 = ay := be16_append ay
  have hz : field16 (samplePayload count ax ay az) 5 = az := be16_append az
  have hsaturated : (clampSample ax != ax.toInt || clampSample ay != ay.toInt) =
      decide (ax.toInt < -8000 ∨ 8000 < ax.toInt ∨ ay.toInt < -8000 ∨ 8000 < ay.toInt) := by
    rw [clampSample_ne_iff, clampSample_ne_iff, ← Bool.decide_or]
    exact decide_eq_decide.mpr or_assoc
  rw [clampSample_eq ax, clampSample_eq ay] at hsaturated
  simp only [sampleRecord, hx, hy, hz, clampSample_eq, hsaturated]
  rfl

theorem exec_sampleTaken {s : State} (hheld : s.held = false) (m : Moment) (seq count : Byte)
    (ax ay az : Sys2Proof.Word) :
    exec (.sampleTaken m seq count ax ay az) s =
      .next (useSample (sampleRecorded (samplePayload count ax ay az)
        { tick m s with framerS := restFramer (tick m s) 7 })) :=
  happen_wholeFrame hheld m m.choice .portS seq rfl

/-- Settles O17: the record, the count check, and the terms added or not by the sample's angle and the accumulation. -/
theorem sampleTaken : Obligations.SampleTaken := by
  intro m seq count ax ay az s hheld
  refine ⟨_, exec_sampleTaken hheld m seq count ax ay az, ?_⟩
  generalize hw : ({ tick m s with framerS := restFramer (tick m s) 7 } : State) = w
  have hnow : w.now = s.now + m.elapsed := by rw [← hw]; rfl
  have hspin : w.spin = s.spin := by rw [← hw]; rfl
  have hmonitor : w.monitor = s.monitor := by rw [← hw]; rfl
  have hintake : w.intake = s.intake := by rw [← hw]; rfl
  generalize hv : sampleRecorded (samplePayload count ax ay az) w = v
  have hvframe := sampleRecorded_frame (samplePayload count ax ay az) w
  rw [hv] at hvframe
  have hest : v.est = s.est := by rw [hvframe, ← hw]; rfl
  have htracker : v.tracker = s.tracker := by rw [hvframe, ← hw]; rfl
  have hvnow : v.now = s.now + m.elapsed := by rw [hvframe]; exact hnow
  have hvspin : v.spin = s.spin := by rw [hvframe]; exact hspin
  have htake := useSample_frame v
  have hvintake : (useSample v).intake = v.intake := by rw [htake]
  have hvmonitor : (useSample v).monitor = v.monitor := by rw [htake]
  have hnone : (∀ theta, v.sampleAngle ≠ .angle theta) → (useSample v).est = s.est := fun h => by
    rw [useSample_noAngle h, hest]
  refine ⟨?_, fun since p a hlocked hindex hperiod hstate hacc hn hearly hlate => ?_, fun h => ?_,
    fun since hindex hearly => ?_, fun since p hindex hperiod hlate => ?_, fun a hacc hn => ?_,
    fun hsource harmed hgap => ?_, ?_⟩
  · rw [hvintake, ← hv, sampleRecorded_intake, sampleRecord_samplePayload, hnow, hspin]
    rfl
  · dsimp only
    rw [useSample_angle (sampleAngle_eq_angle_iff.mpr ⟨since, p, by rw [htracker]; exact hlocked,
      by rw [htracker]; exact hindex, by rw [htracker]; exact hperiod, by rw [hvspin, hvnow]; exact hearly,
      by rw [hvspin, hvnow]; exact hlate, rfl⟩), hest, accumulate_takes hstate hacc hn, hvintake, hvspin, hvnow]
    rfl
  · by_cases hangle : ∀ theta, v.sampleAngle ≠ .angle theta
    · exact hnone hangle
    · obtain ⟨theta, htheta⟩ := not_forall_not.mp hangle
      obtain ⟨since, p, hlocked, hindex, hperiod, _⟩ := sampleAngle_eq_angle_iff.mp htheta
      rw [htracker] at hlocked hindex hperiod
      have hopen : s.est.state = .invalid ∨ s.est.acc = none := by simpa [hlocked, hindex, hperiod] using h
      rw [useSample_est_same (by
        rw [hest]
        exact hopen.imp_right fun hnone a ha => absurd (hnone.symm.trans ha) (by simp)), hest]
  · refine hnone fun theta htheta => ?_
    obtain ⟨_, _, _, hindex', _, hearly', _⟩ := sampleAngle_eq_angle_iff.mp htheta
    rw [htracker, hindex] at hindex'
    cases hindex'
    rw [hvspin, hvnow] at hearly'
    omega
  · refine hnone fun theta htheta => ?_
    obtain ⟨_, _, _, hindex', hperiod', _, hlate', _⟩ := sampleAngle_eq_angle_iff.mp htheta
    rw [htracker, hindex] at hindex'
    rw [htracker, hperiod] at hperiod'
    cases hindex'
    cases hperiod'
    rw [hvspin, hvnow] at hlate'
    omega
  · rw [useSample_est_same (.inr fun b hb => by rw [hest, hacc] at hb; cases hb; exact hn), hest]
  · rw [hvmonitor, ← hv, ← hmonitor]
    exact sampleRecorded_count (by rw [hmonitor]; exact hsource) (by rw [hintake]; exact harmed)
      (by rw [hintake]; exact hgap)
  · rw [htake, hvframe, ← hw]

/-- R32: the state with another az in the last sample record. -/
def withAz (z : Int) (s : State) : State :=
  { s with intake := { s.intake with last := { s.intake.last with az := z } } }

/-- R32: the estimator takes nothing of az. -/
theorem useSample_withAz (z : Int) (s : State) : useSample (withAz z s) = withAz z (useSample s) := by
  have hangle : (withAz z s).sampleAngle = s.sampleAngle := rfl
  unfold useSample
  rw [hangle]
  split <;> rfl

/-- R28, R32: of two SAMPLEs that differ in az alone, the records differ in az alone. -/
theorem sampleRecorded_withAz (count : Byte) (ax ay az az' : Sys2Proof.Word) (s : State) :
    sampleRecorded (samplePayload count ax ay az') s =
      withAz az'.toInt (sampleRecorded (samplePayload count ax ay az) s) := by
  unfold sampleRecorded recordSample withAz
  rw [sampleRecord_samplePayload, sampleRecord_samplePayload]
  rfl

/-- Settles O18: two SAMPLEs that differ in sequence and az leave states that differ in the record's az alone. -/
theorem sampleSeqAndAzInert : Obligations.SampleSeqAndAzInert := by
  intro m seq seq' count ax ay az az' s
  by_cases hheld : s.held = true
  · exact ⟨s, s, happen_held hheld m _, happen_held hheld m _, rfl⟩
  · rw [Bool.not_eq_true] at hheld
    refine ⟨_, _, exec_sampleTaken hheld m seq count ax ay az, exec_sampleTaken hheld m seq' count ax ay az', ?_⟩
    rw [sampleRecorded_withAz count ax ay az az', useSample_withAz]
    rfl

end Sys2Proof.Machine
end


section
/-! SUPPORT. The setting of the trip latch: what it leaves in the trip record, the session, the ring, the ceilings and on Port D, and the statements of the switch inputs and the drive silence. -/

namespace Sys2Proof.Machine
open Sys2Proof.Safety

/-! ### One effect among others -/

/-- Log 5: in whatever order, one effect of the moment finds what the others keep, and the others keep what it leaves. -/
theorem inTurn_once (I P : State → Prop) {fs pre post : List (State → State)} {g : State → State} {s : State}
    (hperm : fs.Perm (pre ++ g :: post)) (h0 : I s) (hI : ∀ f ∈ pre ++ post, ∀ t, I t → I (f t))
    (hg : ∀ t, I t → P (g t)) (hP : ∀ f ∈ pre ++ post, ∀ t, P t → P (f t)) : P (inTurn fs s) := by
  obtain ⟨a, b, rfl⟩ := List.append_of_mem (hperm.mem_iff.mpr (show g ∈ pre ++ g :: post by simp))
  have hothers : (a ++ b).Perm (pre ++ post) :=
    (List.perm_cons g).mp (List.perm_middle.symm.trans (hperm.trans List.perm_middle))
  have hbefore : I (inTurn a s) :=
    inTurn_keeps I h0 fun f hf => hI f (hothers.mem_iff.mp (List.mem_append_left b hf))
  have hrun : inTurn (a ++ g :: b) s = inTurn b (g (inTurn a s)) := by simp [inTurn]
  rw [hrun]
  exact inTurn_keeps P (hg _ hbefore) fun f hf => hP f (hothers.mem_iff.mp (List.mem_append_right a hf))

theorem inOrder_once (I P : State → Prop) {code : List Nat} {pre post : List (State → State)} {g : State → State}
    {s : State} (h0 : I s) (hI : ∀ f ∈ pre ++ post, ∀ t, I t → I (f t)) (hg : ∀ t, I t → P (g t))
    (hP : ∀ f ∈ pre ++ post, ∀ t, P t → P (f t)) : P (inOrder code (pre ++ g :: post) s) :=
  inTurn_once I P (arrange_perm code _) h0 hI hg hP

/-! ### The ring and the session at a trip -/

/-- R130: an injection that has ended is not ended again. -/
theorem ringAbort_not_active {s : State} (h : s.ring.ctx.state ≠ .active) : ringAbort s = s := if_neg h

theorem ringAbort_active {s : State} (h : s.ring.ctx.state = .active) : ringAbort s = ringEnd .aborted s := if_pos h

theorem ringEnd_not_active (o : InjOutcome) (s : State) : (ringEnd o s).ring.ctx.state ≠ .active := by
  unfold ringEnd
  dsimp only
  split <;> simp

theorem ringAbort_ctx_not_active (s : State) : (ringAbort s).ring.ctx.state ≠ .active := by
  by_cases h : s.ring.ctx.state = .active
  · rw [ringAbort_active h]; exact ringEnd_not_active _ _
  · rw [ringAbort_not_active h]; exact h

/-- R130: the end of an injection takes the moment and FLOW_TAIL alone from outside the ring. -/
theorem ringAbort_congr {s t : State} (hnow : t.now = s.now) (hspin : t.spin = s.spin) (hring : t.ring = s.ring) :
    (ringAbort t).ring = (ringAbort s).ring := by
  unfold ringAbort ringEnd
  rw [hring]
  split <;> simp [hnow, hspin, hring]

@[simp] theorem ringAbort_credited (s : State) : (ringAbort s).ring.ctx.credited = s.ring.ctx.credited := by
  unfold ringAbort; split <;> rfl

@[simp] theorem ringAbort_contents (s : State) : (ringAbort s).ring.contents = s.ring.contents := by
  unfold ringAbort; split <;> rfl

theorem abortCorrection_correct {s : State} (h : s.session.state = .correct) :
    abortCorrection s = recordOutcome .aborted s.ring.ctx.credited (ringAbort s) := if_pos h

theorem abortCorrection_other {s : State} (h : s.session.state ≠ .correct) : abortCorrection s = s := if_neg h

/-- R105: leaving CORRECT touches no state of the session. -/
@[simp] theorem abortCorrection_session_state (s : State) : (abortCorrection s).session.state = s.session.state := by
  unfold abortCorrection; split <;> simp [recordOutcome]

/-- R105: what an aborted correction leaves in the session is a matter of the session and the grams credited. -/
theorem abortCorrection_session_congr {s t : State} (hsession : t.session = s.session)
    (hcredited : t.ring.ctx.credited = s.ring.ctx.credited) :
    (abortCorrection t).session = (abortCorrection s).session := by
  unfold abortCorrection
  rw [hsession]
  split
  · simp [recordOutcome, hsession, hcredited]
  · exact hsession

/-- R105: leaving CORRECT may end the injection, and does nothing else to the ring. -/
theorem abortCorrection_ring (s : State) :
    (abortCorrection s).ring = if s.session.state = .correct then (ringAbort s).ring else s.ring := by
  unfold abortCorrection
  split
  · simp
  · rfl

/-- R116: offering the session's live conditions moves the event unit and Port C alone. -/
theorem sessionEvents_frame (code : List Nat) (s : State) :
    inOrder code sessionEvents s = { s with
      events := (inOrder code sessionEvents s).events, portC := (inOrder code sessionEvents s).portC } :=
  inOrder_keeps (fun t => t = { s with events := t.events, portC := t.portC }) rfl fun f hf t ht => by
    rcases List.mem_pair.mp hf with rfl | rfl
    all_goals
      rw [judgeLive_frame, ht]

/-- R115: what an entry to TRIPPED leaves in the session. -/
@[simp] theorem enterTripped_session (ch : Choice) (s : State) :
    (enterTripped ch s).session = { (abortCorrection s).session with state := .tripped } := by
  have hweigh : ∀ u : State, (abandonWeighing u).session = u.session := by simp
  rw [enterTripped, hweigh, sessionEvents_frame]
  rfl

/-- R115: an entry to TRIPPED does to the ring what leaving CORRECT does. -/
@[simp] theorem enterTripped_ring (ch : Choice) (s : State) : (enterTripped ch s).ring = (abortCorrection s).ring := by
  have hweigh : ∀ u : State, (abandonWeighing u).ring = u.ring := by simp
  rw [enterTripped, hweigh, sessionEvents_frame]
  rfl

/-! ### Port D and the ceilings while the latch is set -/

/-- R83, R86: the trip term holds both ceilings at 0. -/
theorem recompose_latched {s : State} (h : s.trip.latch = true) : (recompose s).gov.spin = 0 ∧ (recompose s).gov.agitate = 0 := by
  rw [recompose_gov]
  exact ⟨Nat.le_zero.mp (spinCeiling_le_of_mem (mem_spinTerms_iff.mpr (by simp [h]))), by simp [State.agitateCeiling, h]⟩

/-- R19, R20: the values of the trip stop. -/
def TripStop (s : State) : Prop :=
  s.standing.mode = .stop ∧ s.standing.target = 0 ∧ s.standing.ramp = s.spin.tripRamp

/-- R19: while the latch is set, whatever demand leaves Port D is the trip stop. -/
theorem govern_latched {s : State} (h : s.trip.latch = true) (f : QFrame) :
    (govern s f).mode = .stop ∧ (govern s f).target = 0 ∧ (govern s f).ramp = s.spin.tripRamp := by
  simp [govern, h]

/-- R22: a composition that leaves the ceiling of the standing mode as it was restates nothing. -/
theorem recompose_of_same {s : State}
    (h : ({ s.gov with spin := s.spinCeiling, agitate := s.agitateCeiling } : Governor).ceiling s.standing.mode =
      s.gov.ceiling s.standing.mode) :
    recompose s = { s with gov := { s.gov with spin := s.spinCeiling, agitate := s.agitateCeiling } } := by
  unfold recompose
  dsimp only
  rw [if_neg (by simp [h])]

/-- R88, R142: the trip is in force: the latch set, both ceilings 0, and the trip stop waiting or standing. -/
structure Stopped (s : State) : Prop where
  latch : s.trip.latch = true
  spin : s.gov.spin = 0
  agitate : s.gov.agitate = 0
  stop : s.portD.demandWaits = true ∨ TripStop s

theorem demandWaits_append (p : PortD) (f : QFrame) (h : f.cls = speedDemandClass) :
    ({ p with localQ := p.localQ ++ [f] } : PortD).demandWaits = true := by
  simp [PortD.demandWaits, h]

/-- R22, R142: with the latch set, restating leaves a demand waiting, or sends the trip stop. -/
theorem queueRestated_stops {s : State} (h : s.trip.latch = true) :
    (queueRestated s).portD.demandWaits = true ∨ TripStop (queueRestated s) := by
  unfold queueRestated
  split
  · exact .inl ‹_›
  · next hwaits =>
    have hnone : ∀ f ∈ s.portD.localQ, f.cls ≠ speedDemandClass := by
      simp only [PortD.demandWaits, Bool.or_eq_true, not_or, List.any_eq_true, not_exists, not_and, beq_iff_eq] at hwaits
      exact hwaits.2
    unfold kickD
    split
    · cases hq : s.portD.localQ with
      | nil =>
        right
        rw [startD_demand (f := s.standing.restatement) (p := { s.portD with localQ := [] }) (by simp [PortD.pick]) rfl]
        obtain ⟨hmode, htarget, hramp⟩ := govern_latched (s := { s with portD :=
          { s.portD with localQ := [] ++ [s.standing.restatement] } }) h s.standing.restatement
        exact ⟨by simpa using hmode, by simpa using htarget, by simpa using hramp⟩
      | cons f rest =>
        left
        rw [startD_plain (f := f) (p := { s.portD with localQ := rest ++ [s.standing.restatement] })
          (by simp [PortD.pick]) (hnone f (by simp [hq]))]
        exact demandWaits_append { s.portD with localQ := rest, seq := _, sending := _ } _ rfl
    · exact .inl (demandWaits_append _ _ rfl)

theorem recompose_stopped {s : State} (h : s.trip.latch = true) (hstop : s.portD.demandWaits = true ∨ TripStop s) :
    Stopped (recompose s) := by
  obtain ⟨hspin, hagitate⟩ := recompose_latched h
  refine ⟨by simpa using h, hspin, hagitate, ?_⟩
  rcases hstop with hwaits | hstop
  · left
    unfold recompose
    dsimp only
    split
    · rw [queueRestated, if_pos (by exact hwaits)]; exact hwaits
    · exact hwaits
  · right
    rw [recompose_of_same (by simp [hstop.1, Governor.ceiling])]
    exact hstop

/-- R88: no shared effect ends the trip. -/
theorem Effect.stopped {s t : State} (h : Effect s t) (hs : Stopped s) : Stopped t := by
  obtain ⟨hlatch, hspin, hagitate, hstop⟩ := hs
  cases h with
  | compose => exact recompose_stopped hlatch hstop
  | restate =>
    exact ⟨by simpa using hlatch, by simpa using hspin, by simpa using hagitate, queueRestated_stops hlatch⟩
  | trip _ hclear => exact absurd hlatch (by simp [hclear])
  | latch => exact ⟨hlatch, hspin, hagitate, hstop⟩
  | report => exact ⟨hlatch, hspin, hagitate, hstop⟩
  | _ => exact ⟨hlatch, hspin, hagitate, hstop⟩

theorem Effects.stopped {s t : State} (h : Effects s t) (hs : Stopped s) : Stopped t :=
  h.keeps (fun _ _ h hs => h.stopped hs) hs

/-- R144: no shared effect clears the latch. -/
theorem Effects.latched {s t : State} (h : Effects s t) (hs : s.trip.latch = true) : t.trip.latch = true :=
  (h.keeps (P := LatchStands s) (fun _ _ h hs => h.latchStands hs) ⟨hs, rfl, rfl, rfl, rfl, fun _ h => h⟩).latch

/-! ### The setting of the latch -/

/-- R142, steps 1 and 2: the latch set, its setting not yet handed on. -/
def latchSet (c : Cause) (s : State) : State :=
  { s with trip := s.trip.setBy c (speedAndSource s).1 (speedAndSource s).2 s.est.u }

/-- R142, step 3: the setting handed on to the four blocks. -/
def tripHanded (ch : Choice) (c : Cause) (s : State) : State := inOrder ch.trip (tripBlocks ch) (latchSet c s)

theorem tripBlocks_effects (ch : Choice) {f : State → State} (hf : f ∈ tripBlocks ch) (u : State) : Effects u (f u) := by
  simp only [tripBlocks, List.mem_cons, List.not_mem_nil, or_false] at hf
  rcases hf with rfl | rfl | rfl | rfl
  · exact ringAbort_effects u
  · exact (Effects.single (.restate u)).trans (recompose_effects _)
  · exact enterTripped_effects ch u
  · exact judgeLive_effects _ u

/-- R139, log 29: a session that leaves IDLE with the drive silent adds the DRIVE cause. -/
theorem setTrip_eq (ch : Choice) (c : Cause) (s : State) :
    setTrip ch c s =
      if (tripHanded ch c s).causeHolds .drive then addCause .drive (tripHanded ch c s) else tripHanded ch c s := rfl

/-- R142: what the blocks leave of the latch, the record and the estimate. -/
theorem tripHanded_kept (ch : Choice) (c : Cause) (s : State) :
    (tripHanded ch c s).trip = (latchSet c s).trip ∧ (tripHanded ch c s).est = s.est := by
  refine inOrder_keeps (fun t => t.trip = (latchSet c s).trip ∧ t.est = s.est) ⟨rfl, rfl⟩ fun f hf t ht => ?_
  simp only [tripBlocks, List.mem_cons, List.not_mem_nil, or_false] at hf
  rcases hf with rfl | rfl | rfl | rfl <;> simpa using ht

theorem tripHanded_inputs (ch : Choice) (c : Cause) (s : State) : SameInputs s (tripHanded ch c s) :=
  inOrder_keeps (SameInputs s) (by constructor <;> rfl) fun _ hf _ ht => ht.trans (tripBlocks_effects ch hf _).sameInputs

/-- R88, R142: once the setting is handed on, the ceilings are 0 and the trip stop waits or stands. -/
theorem tripHanded_stopped (ch : Choice) (c : Cause) (s : State) : Stopped (tripHanded ch c s) :=
  inOrder_brings_under (fun t => t.trip.latch = true) Stopped rfl
    (fun _ hf _ ht => (tripBlocks_effects ch hf _).latched ht)
    (fun _ hf _ _ ht => (tripBlocks_effects ch hf _).stopped ht)
    ⟨_, List.mem_cons_of_mem _ (List.mem_cons_self ..),
      fun _ ht => recompose_stopped (by simpa using ht) (queueRestated_stops ht)⟩

/-- R115, R130: while the setting is handed on, the session and the ring stand or have taken what the trip leaves them. -/
structure Tripping (s t : State) : Prop where
  inputs : SameInputs s t
  session : t.session = s.session ∨ t.session = { (abortCorrection s).session with state := .tripped }
  ring : t.ring = s.ring ∨ t.ring = (ringAbort s).ring

theorem Tripping.ringAbort {s t : State} (h : Tripping s t) : (ringAbort t).ring = (ringAbort s).ring := by
  rcases h.ring with hring | hring
  · exact ringAbort_congr h.inputs.now h.inputs.spin hring
  · rw [ringAbort_not_active (by rw [hring]; exact ringAbort_ctx_not_active s), hring]

theorem Tripping.enterTripped_session {s t : State} (h : Tripping s t) (ch : Choice) :
    (enterTripped ch t).session = { (abortCorrection s).session with state := .tripped } := by
  rw [Machine.enterTripped_session]
  rcases h.session with hsession | hsession
  · rw [abortCorrection_session_congr hsession (by rcases h.ring with hring | hring <;> simp [hring])]
  · rw [abortCorrection_other (by simp [hsession]), hsession]

/-- R142: each block keeps the trip under way. -/
theorem Tripping.block {s t : State} (h : Tripping s t) (ch : Choice) {f : State → State} (hf : f ∈ tripBlocks ch) :
    Tripping s (f t) := by
  have hinputs := h.inputs.trans (tripBlocks_effects ch hf t).sameInputs
  simp only [tripBlocks, List.mem_cons, List.not_mem_nil, or_false] at hf
  rcases hf with rfl | rfl | rfl | rfl
  · exact ⟨hinputs, by simpa using h.session, .inr h.ringAbort⟩
  · exact ⟨hinputs, by simpa using h.session, by simpa using h.ring⟩
  · refine ⟨hinputs, .inr (h.enterTripped_session ch), ?_⟩
    rw [enterTripped_ring, abortCorrection_ring]
    split
    · exact .inr h.ringAbort
    · exact h.ring
  · exact ⟨hinputs, by simpa using h.session, by simpa using h.ring⟩

theorem tripHanded_session (ch : Choice) (c : Cause) (s : State) :
    (tripHanded ch c s).session = { (abortCorrection s).session with state := .tripped } := by
  refine inOrder_brings_under (Tripping s) (fun t => t.session = { (abortCorrection s).session with state := .tripped })
    ⟨by constructor <;> rfl, .inl rfl, .inl rfl⟩ (fun f hf t ht => ht.block ch hf) (fun f hf t ht hsession => ?_)
    ⟨enterTripped ch, by simp [tripBlocks], fun t ht => ht.enterTripped_session ch⟩
  simp only [tripBlocks, List.mem_cons, List.not_mem_nil, or_false] at hf
  rcases hf with rfl | rfl | rfl | rfl
  · simpa using hsession
  · simpa using hsession
  · exact ht.enterTripped_session ch
  · simpa using hsession

theorem tripHanded_ring (ch : Choice) (c : Cause) (s : State) : (tripHanded ch c s).ring = (ringAbort s).ring := by
  refine inOrder_brings_under (Tripping s) (fun t => t.ring = (ringAbort s).ring)
    ⟨by constructor <;> rfl, .inl rfl, .inl rfl⟩ (fun f hf t ht => ht.block ch hf) (fun f hf t ht hring => ?_)
    ⟨ringAbort, by simp [tripBlocks], fun t ht => ht.ringAbort⟩
  simp only [tripBlocks, List.mem_cons, List.not_mem_nil, or_false] at hf
  rcases hf with rfl | rfl | rfl | rfl
  · exact ht.ringAbort
  · simpa using hring
  · rw [enterTripped_ring, abortCorrection_ring]
    split
    · exact ht.ringAbort
    · exact hring
  · simpa using hring

/-- The kinds that a trip can touch. -/
abbrev tripKinds : List Kind := [.governing, .redistribute, .limited, .trip]

theorem enterTripped_kinds (ch : Choice) (s : State) : KindsStand sessionKinds s (enterTripped ch s) := by
  refine .trans (.inOrder (s := s) (.of_events (by simp) (by simp)) fun f hf u => ?_) (abandonWeighing_kinds _).mono
  rcases List.mem_pair.mp hf with rfl | rfl <;> exact (judgeLive_kinds _ _).mono

theorem tripBlocks_kinds (ch : Choice) {f : State → State} (hf : f ∈ tripBlocks ch) (u : State) :
    KindsStand tripKinds u (f u) := by
  simp only [tripBlocks, List.mem_cons, List.not_mem_nil, or_false] at hf
  rcases hf with rfl | rfl | rfl | rfl
  · exact .of_events (by simp) (by simp)
  · exact ((queueRestated_kinds u).trans (recompose_kinds _)).mono
  · exact (enterTripped_kinds ch u).mono
  · exact (judgeLive_kinds _ _).mono

theorem tripHanded_live (ch : Choice) (c : Cause) (s : State) : (tripHanded ch c s).events.live.getLsbD 11 = true := by
  refine inOrder_brings_under (fun t => t.trip.latch = true) (fun t => t.events.live.getLsbD 11 = true) rfl
    (fun _ hf _ ht => (tripBlocks_effects ch hf _).latched ht) (fun f hf t ht hlive => ?_)
    ⟨judgeLive .trip, by simp [tripBlocks], fun t ht => (judgeLive_live .trip t).trans ht⟩
  simp only [tripBlocks, List.mem_cons, List.not_mem_nil, or_false] at hf
  rcases hf with rfl | rfl | rfl | rfl
  · simpa using hlive
  · exact (((queueRestated_kinds t).trans (recompose_kinds _)).live .trip (by decide)).trans hlive
  · exact ((enterTripped_kinds ch t).live .trip (by decide)).trans hlive
  · exact (judgeLive_live .trip t).trans ht

/-- R142: what the setting of the latch by a cause leaves. -/
structure TrippedBy (c : Cause) (s t : State) : Prop where
  inputs : SameInputs s t
  est : t.est = s.est
  trip : t.trip =
    { s.trip.setBy c (speedAndSource s).1 (speedAndSource s).2 s.est.u with
      causes := if s.silence.driveSilent then (CauseSet.empty.add c).add .drive else CauseSet.empty.add c }
  session : t.session = { (abortCorrection s).session with state := .tripped }
  ring : t.ring = (ringAbort s).ring
  stopped : Stopped t

theorem setTrip_kinds (ch : Choice) (c : Cause) (s : State) : KindsStand tripKinds s (setTrip ch c s) := by
  have hkinds : KindsStand tripKinds s (tripHanded ch c s) :=
    .inOrder (.of_events rfl) fun f hf u => tripBlocks_kinds ch hf u
  rw [setTrip_eq]
  split
  · exact hkinds.trans (.of_events rfl)
  · exact hkinds

theorem setTrip_live (ch : Choice) (c : Cause) (s : State) : (setTrip ch c s).events.live.getLsbD 11 = true := by
  rw [setTrip_eq]
  split <;> exact tripHanded_live ch c s

theorem setTrip_trippedBy (ch : Choice) (c : Cause) (s : State) : TrippedBy c s (setTrip ch c s) := by
  have hinputs := tripHanded_inputs ch c s
  obtain ⟨htrip, hest⟩ := tripHanded_kept ch c s
  have hsession := tripHanded_session ch c s
  have hdrive : (tripHanded ch c s).causeHolds .drive = s.silence.driveSilent := by
    simp [State.causeHolds, hinputs.silence, hsession]
  obtain ⟨hlatch, hspin, hagitate, hstop⟩ := tripHanded_stopped ch c s
  rw [setTrip_eq, hdrive]
  split
  · next hsilent =>
    refine ⟨hinputs.trans (by constructor <;> rfl), hest, ?_, hsession, tripHanded_ring ch c s,
      ⟨hlatch, hspin, hagitate, hstop⟩⟩
    rw [if_pos hsilent, addCause_trip, htrip]
    rfl
  · next hfresh =>
    refine ⟨hinputs, hest, ?_, hsession, tripHanded_ring ch c s, ⟨hlatch, hspin, hagitate, hstop⟩⟩
    rw [if_neg hfresh, htrip]
    rfl

end Sys2Proof.Machine
end


section
/-! SUPPORT. Causes judged, the switch inputs and the silence of the drive, and the statements of them. -/

namespace Sys2Proof.Machine
open Sys2Proof.Safety

/-! ### Causes judged -/

theorem judgeCause_false {s : State} {c : Cause} (h : s.causeHolds c = false) (ch : Choice) : judgeCause ch c s = s := by
  simp [judgeCause, h]

/-- R142: a true cause sets a clear latch. -/
theorem judgeCause_clear {s : State} {c : Cause} (h : s.causeHolds c = true) (hlatch : s.trip.latch = false)
    (ch : Choice) : judgeCause ch c s = setTrip ch c s := by
  simp [judgeCause, h, hlatch]

/-- R143: a true cause joins the set of a set latch. -/
theorem judgeCause_set {s : State} {c : Cause} (h : s.causeHolds c = true) (hlatch : s.trip.latch = true)
    (ch : Choice) : judgeCause ch c s = addCause c s := by
  simp [judgeCause, h, hlatch]

theorem judgeCauses_one (ch : Choice) (c : Cause) (s : State) : judgeCauses ch [c] s = judgeCause ch c s := by
  unfold judgeCauses preferred
  split
  · next h => obtain rfl : ch.cause = c := by simpa using h
              simp
  · rfl

theorem foldl_judgeCause_false (ch : Choice) {l : List Cause} {s : State} (h : ∀ c ∈ l, s.causeHolds c = false) :
    l.foldl (fun s c => judgeCause ch c s) s = s := by
  induction l with
  | nil => rfl
  | cons c l ih =>
    rw [List.foldl_cons, judgeCause_false (h c (by simp))]
    exact ih fun d hd => h d (by simp [hd])

/-- R143: where no cause is true nothing is judged. -/
theorem judgeCauses_false {s : State} {cs : List Cause} (h : ∀ c ∈ cs, s.causeHolds c = false) (ch : Choice) :
    judgeCauses ch cs s = s :=
  foldl_judgeCause_false ch fun c hc => h c ((mem_preferred _ _ _).mp hc)

theorem nodup_preferred {α : Type} [DecidableEq α] {l : List α} (h : l.Nodup) (x : α) : (preferred x l).Nodup := by
  unfold preferred
  split
  · exact List.nodup_cons.mpr ⟨by simp, h.filter _⟩
  · exact h

/-- R143, log 5: of several causes judged at one moment, one alone true before and after it is judged, whichever comes
first. -/
theorem judgeCauses_only {s : State} {cs : List Cause} {c : Cause} (ch : Choice) (hnodup : cs.Nodup) (hmem : c ∈ cs)
    (hbefore : ∀ d ∈ cs, d ≠ c → s.causeHolds d = false)
    (hafter : ∀ d ∈ cs, d ≠ c → (judgeCause ch c s).causeHolds d = false) : judgeCauses ch cs s = judgeCause ch c s := by
  obtain ⟨a, b, hab⟩ := List.append_of_mem ((mem_preferred ch.cause c cs).mpr hmem)
  have hdisjoint := hab ▸ nodup_preferred hnodup ch.cause
  rw [List.nodup_append, List.nodup_cons] at hdisjoint
  obtain ⟨-, ⟨hb, -⟩, ha⟩ := hdisjoint
  have hof : ∀ d ∈ a ++ c :: b, d ∈ cs := fun d hd => (mem_preferred ch.cause d cs).mp (hab ▸ hd)
  unfold judgeCauses
  rw [hab, List.foldl_append, List.foldl_cons, foldl_judgeCause_false ch fun d hd => hbefore d (hof d (by simp [hd]))
    fun heq => ha d hd c (by simp) heq]
  exact foldl_judgeCause_false ch fun d hd => hafter d (hof d (by simp [hd])) fun heq => hb (heq ▸ hd)

/-- R139 to R141: the causes but DRIVE are judged by the inputs and the estimate. -/
theorem causeHolds_of_inputs {s t : State} (h : SameInputs s t) (hest : t.est = s.est) {c : Cause} (hc : c ≠ .drive) :
    t.causeHolds c = s.causeHolds c := by
  have hsession : t.causeHolds c = ({ t with session := s.session } : State).causeHolds c := by
    cases c with
    | drive => exact absurd rfl hc
    | _ => rfl
  exact hsession.trans (causeHolds_congr (s := s) (t := { t with session := s.session }) h.strike h.lid h.tracker h.drive h.silence hest h.limits h.spin rfl c)

theorem Effects.contents {s t : State} (h : Effects s t) : t.ring.contents = s.ring.contents :=
  h.keeps (P := fun u => u.ring.contents = s.ring.contents) (fun _ _ h hs => by
    cases h with
    | ring _ hr => exact hr.trans hs
    | _ => simpa [makeReport, addCause] using hs) rfl

/-! ### What a trip found after other effects leaves -/

/-- R142: offers to the event unit before the latch is set change nothing of what the trip leaves. -/
theorem TrippedBy.of_offered {c : Cause} {s u t : State} (hu : u = { s with events := u.events, portC := u.portC })
    (h : TrippedBy c u t) : TrippedBy c s t := by
  generalize u.events = e at hu
  generalize u.portC = p at hu
  subst hu
  obtain ⟨hinputs, hest, htrip, hsession, hring, hstopped⟩ := h
  exact ⟨SameInputs.trans (by constructor <;> rfl) hinputs, hest, htrip,
    hsession.trans (by
      rw [abortCorrection_session_congr (s := s) (t := { s with events := e, portC := p }) rfl rfl]),
    hring.trans (ringAbort_congr rfl rfl rfl), hstopped⟩

/-- R142: nor do offers after it. -/
theorem TrippedBy.offered {c : Cause} {s t v : State} (h : TrippedBy c s t)
    (hv : v = { t with events := v.events, portC := v.portC }) : TrippedBy c s v := by
  generalize v.events = e at hv
  generalize v.portC = p at hv
  subst hv
  obtain ⟨hinputs, hest, htrip, hsession, hring, hstopped⟩ := h
  exact ⟨hinputs.trans (by constructor <;> rfl), hest, htrip, hsession, hring,
    ⟨hstopped.latch, hstopped.spin, hstopped.agitate, hstopped.stop⟩⟩

/-! ### STRIKE -/

/-- R35: what a change of a debounced state is handed on to makes shared effects alone. -/
theorem switchChanges_effects (ch : Choice) (sw : Switch) (s : State) :
    Effects (takeLevel sw s) (switchChanges ch sw s) := by
  refine Effects.inOrder .refl fun f hf u _ => ?_
  cases sw with
  | lid =>
    simp only [levelReaders, List.cons_append, List.nil_append, List.mem_cons, List.not_mem_nil, or_false] at hf
    rcases hf with rfl | rfl | rfl
    · exact judgeLive_effects _ u
    · unfold lidOpened
      split
      · exact .refl
      · exact .single (.session u _)
    · exact judgeCauses_effects _ _ u
  | strike =>
    simp only [levelReaders, List.cons_append, List.nil_append, List.mem_cons, List.not_mem_nil, or_false] at hf
    rcases hf with rfl | rfl
    · exact judgeLive_effects _ u
    · exact judgeCauses_effects _ _ u

/-- R38: the change of STRIKE, whose judging and offer come in either order. -/
theorem switchChanges_strike (ch : Choice) (s : State) :
    switchChanges ch .strike s = judgeCause ch .strike (judgeLive .strike (takeLevel .strike s)) ∨
      switchChanges ch .strike s = judgeLive .strike (judgeCause ch .strike (takeLevel .strike s)) := by
  rcases inOrder_pair ch.effects (judgeLive .strike) (judgeCauses ch [.strike]) (takeLevel .strike s) with h | h
  · exact .inl (h.trans (judgeCauses_one ..))
  · exact .inr (h.trans (congrArg _ (judgeCauses_one ..)))

theorem takeLevel_strike (s : State) :
    takeLevel .strike s = { s with strike := { s.strike with debounced := s.strike.raw, pending := false } } := rfl

theorem takeLevel_lid (s : State) :
    takeLevel .lid s = { s with lid := { s.lid with debounced := s.lid.raw, pending := false } } := rfl

theorem causeHolds_strike (s : State) : s.causeHolds .strike = s.strike.debounced := rfl

theorem judgeCause_kinds (ch : Choice) (c : Cause) (s : State) : KindsStand tripKinds s (judgeCause ch c s) := by
  unfold judgeCause
  split
  · split
    · exact .of_events rfl
    · exact setTrip_kinds ch c s
  · exact .refl _ _

/-- R38, R148: the live value of STRIKE is the level taken, whatever the order. -/
theorem switchChanges_strike_live (ch : Choice) (s : State) :
    (switchChanges ch .strike s).events.live.getLsbD 13 = s.strike.raw := by
  rcases switchChanges_strike ch s with h | h
  · rw [h]
    exact ((judgeCause_kinds ch .strike _).live .strike (by decide)).trans (judgeLive_live .strike _)
  · rw [h]
    refine (judgeLive_live .strike _).trans ?_
    simp [State.condition, takeLevel_strike]

/-- R38, R142: STRIKE going high sets a clear latch. -/
theorem switchChanges_strike_trips {s : State} (hraw : s.strike.raw = true) (hlatch : s.trip.latch = false)
    (ch : Choice) : TrippedBy .strike (takeLevel .strike s) (switchChanges ch .strike s) := by
  rcases switchChanges_strike ch s with h | h
  · rw [h, judgeCause_clear (by simp [causeHolds_strike, takeLevel_strike, hraw]) (by simp [takeLevel_strike, hlatch])]
    exact (setTrip_trippedBy ch _ _).of_offered (judgeLive_frame _ _)
  · rw [h, judgeCause_clear (c := .strike) (s := takeLevel .strike s) hraw hlatch]
    exact (setTrip_trippedBy ch _ _).offered (judgeLive_frame _ _)

/-- R38, R143: with the latch set STRIKE joins the cause set. -/
theorem switchChanges_strike_joins {s : State} (hraw : s.strike.raw = true) (hlatch : s.trip.latch = true) (ch : Choice) :
    switchChanges ch .strike s = { takeLevel .strike s with
      events := (switchChanges ch .strike s).events, portC := (switchChanges ch .strike s).portC
      trip := { s.trip with causes := s.trip.causes.add .strike } } := by
  rcases switchChanges_strike ch s with h | h
  · rw [h, judgeCause_set (by simp [causeHolds_strike, takeLevel_strike, hraw]) (by simp [takeLevel_strike, hlatch])]
    conv_lhs => rw [judgeLive_frame]
    rfl
  · rw [h, judgeCause_set (c := .strike) (s := takeLevel .strike s) hraw hlatch]
    conv_lhs => rw [judgeLive_frame]
    rfl

/-- R38, R145: STRIKE going low is offered to the event unit, and the latch stands. -/
theorem switchChanges_strike_low {s : State} (hraw : s.strike.raw = false) (ch : Choice) :
    switchChanges ch .strike s = { takeLevel .strike s with
      events := (switchChanges ch .strike s).events, portC := (switchChanges ch .strike s).portC } := by
  rcases switchChanges_strike ch s with h | h
  · rw [h, judgeCause_false (by simp [causeHolds_strike, takeLevel_strike, hraw])]
    exact judgeLive_frame _ _
  · rw [h, judgeCause_false (c := .strike) (s := takeLevel .strike s) hraw]
    exact judgeLive_frame _ _

theorem exec_debounceExpiry {s : State} (hheld : s.held = false) (m : Moment) (sw : Switch)
    (hpending : (s.switch sw).pending = true)
    (hdue : s.debounceMs sw * 1000 ≤ elapsed (s.now + m.elapsed) (s.switch sw).since) :
    exec (.debounceExpiry m sw) s = .next (switchChanges m.choice sw (tick m s)) := by
  have hdue' : (tick m s).debounceDue sw = true := by
    have hswitch : (tick m s).switch sw = s.switch sw := by cases sw <;> rfl
    have hms : (tick m s).debounceMs sw = s.debounceMs sw := by cases sw <;> rfl
    rw [State.debounceDue, hswitch, hms, hpending]
    exact decide_eq_true hdue
  refine (happen_live hheld m _).trans ?_
  rw [debounceExpires, if_pos hdue']

/-- Table 8-1: the speed of the trip record and its source. -/
theorem speedAndSource_eq (s : State) :
    speedAndSource s =
      if s.tracker.state = .locked then ((s.indexSpeed : Int), SpeedSource.index)
      else if s.silence.driveSilent = false then (s.drive.speed, SpeedSource.drive) else (0, SpeedSource.unknown) := by
  unfold speedAndSource State.angleValid State.driveSpeed
  by_cases hlocked : s.tracker.state = .locked
  · simp [hlocked]
  · cases s.silence.driveSilent <;> simp [hlocked]

theorem speedAndSource_congr {s t : State} (htracker : t.tracker = s.tracker) (hdrive : t.drive = s.drive)
    (hsilence : t.silence = s.silence) : speedAndSource t = speedAndSource s := by
  simp only [speedAndSource_eq, State.indexSpeed, htracker, hdrive, hsilence]

/-- R126: VALVE at a command's moment is closed unless an injection is ACTIVE. -/
theorem tick_valve_closed {s : State} (h : s.ring.ctx.state ≠ .active) (m : Moment) : (tick m s).ring.valve = false := by
  simp [State.valveOpen, h]

/-- R131: VALVE is closed once no injection goes on. -/
theorem ringAbort_valve {s : State} (h : s.ring.ctx.state ≠ .active → s.ring.valve = false) :
    (ringAbort s).ring.valve = false := by
  by_cases hactive : s.ring.ctx.state = .active
  · rw [ringAbort_active hactive]; rfl
  · rw [ringAbort_not_active hactive]; exact h hactive

/-- Settles O26: STRIKE going high trips a clear latch, and going low leaves it. -/
theorem strikeTrips : Obligations.StrikeTrips := by
  refine ⟨fun m s hheld hpending hraw hdue hlatch _ => ?_, fun m s hheld hpending hraw hdue => ?_⟩
  · refine ⟨_, exec_debounceExpiry hheld m .strike hpending hdue, ?_⟩
    obtain ⟨hinputs, hest, htrip, hsession, hring, hstopped⟩ :=
      switchChanges_strike_trips (s := tick m s) hraw hlatch m.choice
    have hspeed : speedAndSource (takeLevel .strike (tick m s)) = speedAndSource s := speedAndSource_congr rfl rfl rfl
    rw [hspeed] at htrip
    refine ⟨?_, hstopped.latch, by rw [htrip]; rfl, by rw [htrip]; rfl, ?_, by rw [htrip]; rfl, ?_, by rw [hsession],
      hstopped.spin, hstopped.agitate, ?_, fun hactive => ?_, ?_, hest, hinputs.tracker, hinputs.requested, ?_⟩
    · rw [hinputs.strike, takeLevel_strike]
      simp [hraw]
    · rw [htrip]
      dsimp only
      split <;> rfl
    · rw [htrip, ← speedAndSource_eq]
      rfl
    · rw [hring]
      exact ringAbort_valve fun hidle => tick_valve_closed (s := s) hidle m
    · rw [hring, ringAbort_active (by exact hactive)]
      exact ⟨rfl, rfl⟩
    · refine hstopped.stop.imp_right fun ⟨hmode, htarget, hramp⟩ => ?_
      rw [hinputs.spin] at hramp
      rw [← hmode, ← htarget, show s.spin.tripRamp = _ from hramp.symm]
    · rw [hring, ringAbort_contents]
      rfl
  · refine ⟨_, exec_debounceExpiry hheld m .strike hpending hdue, ?_, ?_, ?_⟩
    · rw [switchChanges_strike_low (by exact hraw), takeLevel_strike]
      simp [hraw]
    · exact (switchChanges_strike_live _ _).trans hraw
    · rw [switchChanges_strike_low (by exact hraw)]
      rfl

/-! ### Raw changes -/

/-- R34: a raw change that ends at the debounced state, or that has a debounce time to run. -/
theorem rawChange_timed {s : State} {sw : Switch}
    (h : s.debounceMs sw ≠ 0 ∨ (!(s.switch sw).raw) = (s.switch sw).debounced) (ch : Choice) :
    rawChange ch sw s = s.withSwitch sw
      (if (!(s.switch sw).raw) = (s.switch sw).debounced then
        { s.switch sw with raw := !(s.switch sw).raw, pending := false }
      else { s.switch sw with raw := !(s.switch sw).raw, pending := true, since := s.now }) := by
  have hraw : ((toggleRaw sw s).switch sw).raw = !(s.switch sw).raw := by cases sw <;> rfl
  have hdebounced : ((toggleRaw sw s).switch sw).debounced = (s.switch sw).debounced := by cases sw <;> rfl
  have hms : (toggleRaw sw s).debounceMs sw = s.debounceMs sw := by cases sw <;> rfl
  unfold rawChange
  dsimp only
  rw [hraw, hdebounced, hms]
  by_cases hback : (!(s.switch sw).raw) = (s.switch sw).debounced
  · rw [if_pos hback, if_pos hback]
    cases sw <;> rfl
  · rw [if_neg hback, if_neg (h.resolve_right hback), if_neg hback]
    cases sw <;> rfl

/-- R34, R35: with DEBOUNCE_STRIKE 0 a change away from the debounced state is taken at once. -/
theorem rawChange_strike_at_once {s : State} (hzero : s.service.debounceStrike = 0)
    (hraw : s.strike.raw = s.strike.debounced) (ch : Choice) :
    rawChange ch .strike s = switchChanges ch .strike (toggleRaw .strike s) := by
  simp [rawChange, toggleRaw, State.withSwitch, State.switch, State.debounceMs, hzero, hraw]

theorem exec_switchRawChange {s : State} (hheld : s.held = false) (m : Moment) (sw : Switch) :
    exec (.switchRawChange m sw) s = .next (rawChange m.choice sw (tick m s)) := by
  simp only [exec, execSwitchRawChange, hheld]
  exact happen_live hheld m _

/-- Settles O25: a raw change starts or cancels the timing, or with DEBOUNCE_STRIKE 0 is taken at once. -/
theorem rawChangeTimed : Obligations.RawChangeTimed := by
  refine ⟨fun m sw s hheld htimed => ?_, fun m s hheld hzero hpending hraw => ?_⟩
  · refine ⟨_, exec_switchRawChange hheld m sw, ?_⟩
    cases sw <;>
    · rw [rawChange_timed (by exact htimed)]
      exact ⟨rfl, rfl, fun w hw => by cases w <;> first | exact absurd rfl hw | rfl⟩
  · refine ⟨_, exec_switchRawChange hheld m .strike, ?_⟩
    rw [rawChange_strike_at_once (by exact hzero) (by exact hraw)]
    have hlevel : (toggleRaw .strike (tick m s)).strike.raw = !s.strike.raw := rfl
    refine ⟨?_, (switchChanges_strike_live _ _).trans hlevel, fun hlow hlatch => ?_, fun hlow hlatch => ?_, fun hhigh => ?_⟩
    · rw [(switchChanges_effects m.choice .strike _).sameInputs.strike]
      rfl
    · obtain ⟨-, -, htrip, hsession, -, hstopped⟩ :=
        switchChanges_strike_trips (s := toggleRaw .strike (tick m s)) (by rw [hlevel, hlow]; rfl) hlatch m.choice
      exact ⟨hstopped.latch, by rw [htrip]; rfl, by rw [hsession], hstopped.spin, hstopped.agitate⟩
    · conv_lhs => rw [switchChanges_strike_joins (s := toggleRaw .strike (tick m s)) (by rw [hlevel, hlow]; rfl) hlatch]
      rw [(switchChanges_effects m.choice .strike _).sameInputs.strike]
      rfl
    · conv_lhs => rw [switchChanges_strike_low (by rw [hlevel, hhigh]; rfl)]
      rw [(switchChanges_effects m.choice .strike _).sameInputs.strike]
      rfl

/-! ### LID -/

/-- R37, R111: an open lid clears the redistribution count. -/
theorem lidOpened_open {s : State} (h : s.lid.debounced = false) :
    lidOpened s = { s with session := { s.session with redist := 0 } } := by
  simp [lidOpened, h]

theorem lidOpened_closed {s : State} (h : s.lid.debounced = true) : lidOpened s = s := by
  simp [lidOpened, h]

/-- R37, R139: an open lid is a cause from RETAIN_SPEED on. -/
theorem causeHolds_lid_open {s : State} (h : s.lid.debounced = false) :
    s.causeHolds .lid = s.speedAtLeast s.spin.retainSpeed := by
  simp [State.causeHolds, h]

theorem causeHolds_lid_closed {s : State} (h : s.lid.debounced = true) : s.causeHolds .lid = false := by
  simp [State.causeHolds, h]

/-- R35, R37: the three that a change of the lid is handed on to. -/
theorem switchChanges_lid (ch : Choice) (s : State) :
    switchChanges ch .lid s =
      inOrder ch.effects [judgeLive .lidOpen, lidOpened, judgeCauses ch [.lid]] (takeLevel .lid s) := rfl

/-- R37, R148: LID_OPEN is true as the lid opens, whatever the order. -/
theorem switchChanges_lid_live (ch : Choice) (s : State) :
    (switchChanges ch .lid s).events.live.getLsbD 12 = !s.lid.raw := by
  rw [switchChanges_lid]
  refine inOrder_once (fun t => t.lid.debounced = s.lid.raw) (fun t => t.events.live.getLsbD 12 = !s.lid.raw)
    (pre := []) rfl (fun f hf t ht => ?_) (fun t ht => (judgeLive_live .lidOpen t).trans (congrArg (! ·) ht))
    fun f hf t ht => ?_
  · rcases List.mem_pair.mp hf with rfl | rfl
    · unfold lidOpened; split <;> exact ht
    · simpa using ht
  · rcases List.mem_pair.mp hf with rfl | rfl
    · unfold lidOpened; split <;> exact ht
    · rw [judgeCauses_one]
      exact ((judgeCause_kinds ch .lid t).live .lidOpen (by decide)).trans ht

/-- R115: a trip leaves the redistribution count. -/
theorem judgeCause_redist (ch : Choice) (c : Cause) (s : State) :
    (judgeCause ch c s).session.redist = s.session.redist := by
  unfold judgeCause
  split
  · split
    · rfl
    · rw [(setTrip_trippedBy ch c s).session]
      unfold abortCorrection
      split <;> simp [recordOutcome]
  · rfl

/-- R111: the opening lid clears the redistribution count, whatever the order. -/
theorem switchChanges_lid_redist {s : State} (hraw : s.lid.raw = false) (ch : Choice) :
    (switchChanges ch .lid s).session.redist = 0 := by
  rw [switchChanges_lid]
  refine inOrder_once (fun t => t.lid.debounced = false) (fun t => t.session.redist = 0)
    (pre := [judgeLive .lidOpen]) hraw (fun f hf t ht => ?_) (fun t ht => by rw [lidOpened_open ht])
    fun f hf t ht => ?_
  · rcases List.mem_pair.mp hf with rfl | rfl <;> simpa using ht
  · rcases List.mem_pair.mp hf with rfl | rfl
    · simpa using ht
    · rw [judgeCauses_one, judgeCause_redist]; exact ht

/-- R37, R139, R142: at a speed of RETAIN_SPEED or more the opening lid sets a clear latch. -/
theorem switchChanges_lid_trips {s : State} (hraw : s.lid.raw = false) (hlatch : s.trip.latch = false)
    (hspeed : s.speedAtLeast s.spin.retainSpeed = true) (ch : Choice) :
    (switchChanges ch .lid s).trip.latch = true ∧ (switchChanges ch .lid s).trip.first = some .lid ∧
      (switchChanges ch .lid s).session.state = .tripped := by
  rw [switchChanges_lid]
  refine inOrder_once (fun t => t.trip.latch = false ∧ t.causeHolds .lid = true)
    (fun t => t.trip.latch = true ∧ t.trip.first = some .lid ∧ t.session.state = .tripped)
    (pre := [judgeLive .lidOpen, lidOpened]) ⟨hlatch, by rw [causeHolds_lid_open (by exact hraw)]; exact hspeed⟩
    (fun f hf t ht => ?_) (fun t ht => ?_) fun f hf t ht => ?_
  · obtain ⟨hclear, hcause⟩ := ht
    rcases List.mem_pair.mp hf with rfl | rfl
    · exact ⟨by simpa using hclear, by
        rw [causeHolds_of_inputs (judgeLive_effects _ _).sameInputs (by simp) (by decide)]; exact hcause⟩
    · unfold lidOpened; split <;> exact ⟨hclear, hcause⟩
  · rw [judgeCauses_one, judgeCause_clear ht.2 ht.1]
    obtain ⟨-, -, htrip, hsession, -, hstopped⟩ := setTrip_trippedBy ch .lid t
    exact ⟨hstopped.latch, by rw [htrip]; rfl, by rw [hsession]⟩
  · rcases List.mem_pair.mp hf with rfl | rfl
    · simpa using ht
    · unfold lidOpened; split <;> exact ht

/-- R37: where the lid is no cause, its opening moves the redistribution count and the event unit. -/
theorem switchChanges_lid_quiet {s : State} (hraw : s.lid.raw = false)
    (hspeed : s.speedAtLeast s.spin.retainSpeed = false) (ch : Choice) :
    switchChanges ch .lid s = { takeLevel .lid s with
      session := { s.session with redist := 0 }
      events := (switchChanges ch .lid s).events, portC := (switchChanges ch .lid s).portC } := by
  rw [switchChanges_lid]
  refine inOrder_once
    (fun t => t = { takeLevel .lid s with events := t.events, portC := t.portC })
    (fun t => t = { takeLevel .lid s with
      session := { s.session with redist := 0 }, events := t.events, portC := t.portC })
    (pre := [judgeLive .lidOpen]) rfl (fun f hf t ht => ?_) (fun t ht => ?_) fun f hf t ht => ?_
  · rcases List.mem_pair.mp hf with rfl | rfl
    · rw [judgeLive_frame, ht]
    · rw [judgeCauses_one, judgeCause_false]
      · exact ht
      · rw [ht]; exact (causeHolds_lid_open hraw).trans hspeed
  · rw [lidOpened_open (by rw [ht]; exact hraw)]
    generalize t.events = e at ht
    generalize t.portC = p at ht
    subst ht
    rfl
  · rcases List.mem_pair.mp hf with rfl | rfl
    · rw [judgeLive_frame, ht]
    · rw [judgeCauses_one, judgeCause_false]
      · exact ht
      · rw [ht]; exact (causeHolds_lid_open hraw).trans hspeed

/-- R37: a closing lid is offered to the event unit, and nothing more. -/
theorem switchChanges_lid_closing {s : State} (hraw : s.lid.raw = true) (ch : Choice) :
    switchChanges ch .lid s = { takeLevel .lid s with
      events := (switchChanges ch .lid s).events, portC := (switchChanges ch .lid s).portC } := by
  rw [switchChanges_lid]
  refine inOrder_keeps (fun t => t = { takeLevel .lid s with events := t.events, portC := t.portC }) rfl
    fun f hf t ht => ?_
  have hclosed : t.lid.debounced = true := by rw [ht]; exact hraw
  simp only [List.mem_cons, List.not_mem_nil, or_false] at hf
  rcases hf with rfl | rfl | rfl
  · rw [judgeLive_frame, ht]
  · rw [lidOpened_closed hclosed]; exact ht
  · rw [judgeCauses_one, judgeCause_false (causeHolds_lid_closed hclosed)]; exact ht

/-- Settles O27: the lid opening clears the redistribution count and may trip, and closing is offered alone. -/
theorem lidOpens : Obligations.LidOpens := by
  refine ⟨fun m s hheld hpending hraw hdue hlatch => ?_, fun m s hheld hpending hraw hdue hdebounced => ?_⟩
  · refine ⟨_, exec_debounceExpiry hheld m .lid hpending hdue, ?_, switchChanges_lid_redist (s := tick m s) hraw _, fun hfast => ?_,
      fun hslow => ?_, ?_⟩
    · rw [(switchChanges_effects m.choice .lid _).sameInputs.lid, takeLevel_lid]
      simp [hraw]
    · exact switchChanges_lid_trips (s := tick m s) hraw hlatch hfast _
    · conv_lhs => rw [switchChanges_lid_quiet (s := tick m s) hraw hslow]
      rw [(switchChanges_effects m.choice .lid _).sameInputs.lid]
      rfl
    · rw [switchChanges_lid_live]
      simp [hraw]
  · refine ⟨_, exec_debounceExpiry hheld m .lid hpending hdue, ?_, ?_, ?_⟩
    · rw [(switchChanges_effects m.choice .lid _).sameInputs.lid, takeLevel_lid]
      simp [hraw]
    · rw [switchChanges_lid_live]
      simp [hraw]
    · conv_lhs => rw [switchChanges_lid_closing (s := tick m s) hraw]
      rw [(switchChanges_effects m.choice .lid _).sameInputs.lid]
      rfl

/-! ### DRIVE_SILENT -/

/-- R11, R23: the record made stale, nothing handed on yet. -/
def driveStale (s : State) : State :=
  { s with rxD := { s.rxD with armed := false }, silence := { s.silence with driveSilent := true } }

theorem exec_driveSilent {s : State} (hheld : s.held = false) (m : Moment) (hfresh : s.silence.driveSilent = false)
    (hdue : 100000 ≤ elapsed (s.now + m.elapsed) s.silence.driveSince) :
    exec (.driveSilent m) s =
      .next (inOrder m.choice.readers (recordReaders m.choice) (driveStale (tick m s))) := by
  have hdue' : (tick m s).driveDue = true := by
    simp only [State.driveDue, tick_kept, hfresh, Bool.not_false, Bool.true_and, decide_eq_true_iff]
    exact hdue
  refine (happen_live hheld m _).trans ?_
  rw [driveSilences, if_pos hdue']
  rfl

/-- R11: while the record is stale, the speed is the index speed or unknown. -/
theorem speed_of_silent {s : State} (h : s.silence.driveSilent = true) :
    s.speed = if s.angleValid then some (s.indexSpeed : Int) else none := by
  simp [State.speed, State.driveSpeed, h]

/-- R139, R141: as the record goes stale no cause but DRIVE arises. -/
theorem driveStale_no_cause {s : State} (h : ∀ c, s.causeHolds c = false) {c : Cause} (hc : c ≠ .drive) :
    (driveStale s).causeHolds c = false := by
  have hcause := h c
  cases c with
  | strike => exact hcause
  | mass => exact hcause
  | drive => exact absurd rfl hc
  | overspeed => rfl
  | lid =>
    have hspeed : (driveStale s).speed = s.speed ∨ (driveStale s).speed = none := by
      rw [speed_of_silent (s := driveStale s) rfl]
      by_cases hangle : s.angleValid = true
      · left
        rw [if_pos (by exact hangle), State.speed, if_pos hangle]
        rfl
      · exact .inr (if_neg (by exact hangle))
    simp only [State.causeHolds, State.speedAtLeast] at hcause ⊢
    rcases hspeed with hspeed | hspeed
    · rw [hspeed]; exact hcause
    · rw [hspeed]; exact Bool.and_false _

/-- R139: DRIVE is true outside IDLE while the record is stale. -/
theorem causeHolds_drive {s : State} (h : s.silence.driveSilent = true) :
    s.causeHolds .drive = (s.session.state != .idle) := by
  simp [State.causeHolds, h]

/-- R114: outside HOLD_DOWN and RUNDOWN the speed ends no session state. -/
theorem retainCheck_stands {s : State} (hhold : s.session.state ≠ .holdDown) (hrun : s.session.state ≠ .rundown)
    (ch : Choice) : retainCheck ch s = s := by
  unfold retainCheck
  split
  · split
    · exact absurd ‹_› hhold
    · exact absurd ‹_› hrun
    · rfl
  · rfl

/-- The readers of the drive status record other than the trip unit. -/
def quietReaders (ch : Choice) : List (State → State) :=
  [judgeLive .driveSilent, judgeLive .indexLoss, retainCheck ch, judgeBleed]

theorem recordReaders_eq (ch : Choice) :
    recordReaders ch = quietReaders ch ++ [judgeCauses ch [.lid, .overspeed, .drive]] := rfl

theorem quietReaders_effects {ch : Choice} {f : State → State} (hf : f ∈ quietReaders ch) (t : State) : Effects t (f t) :=
  recordReaders_effects ch (recordReaders_eq ch ▸ List.mem_append_left _ hf) t

/-- R11: the readers but the trip unit stand by the session, but in HOLD_DOWN and RUNDOWN, and by the trip record. -/
theorem quietReaders_kept {ch : Choice} {f : State → State} (hf : f ∈ quietReaders ch) {t : State}
    (hhold : t.session.state ≠ .holdDown) (hrun : t.session.state ≠ .rundown) :
    (f t).session = t.session ∧ (f t).trip = t.trip ∧ (f t).est = t.est := by
  simp only [quietReaders, List.mem_cons, List.not_mem_nil, or_false] at hf
  rcases hf with rfl | rfl | rfl | rfl
  · simp
  · simp
  · rw [retainCheck_stands hhold hrun]; exact ⟨rfl, rfl, rfl⟩
  · simp

theorem judgeCauses_keeps {P : State → Prop} {ch : Choice} (h : ∀ c t, P t → P (judgeCause ch c t)) (cs : List Cause)
    {s : State} (hs : P s) : P (judgeCauses ch cs s) := by
  unfold judgeCauses
  generalize preferred ch.cause cs = l
  induction l generalizing s with
  | nil => exact hs
  | cons c l ih => exact ih (h c s hs)

/-- R135: a trip leaves the bleed timer. -/
theorem judgeCause_bleed (ch : Choice) (c : Cause) (s : State) : (judgeCause ch c s).ring.bleed = s.ring.bleed := by
  unfold judgeCause
  split
  · split
    · rfl
    · rw [(setTrip_trippedBy ch c s).ring]
      unfold ringAbort
      split <;> rfl
  · rfl

/-- R135: with the speed unknown the bleed timer stops, whatever the order. -/
theorem recordReaders_bleed {s : State} (h : s.speed = none) (ch : Choice) (code : List Nat) :
    (inOrder code (recordReaders ch) s).ring.bleed = none := by
  refine inOrder_once (fun t => SameInputs s t) (fun t => t.ring.bleed = none)
    (pre := [judgeLive .driveSilent, judgeLive .indexLoss, retainCheck ch]) (.refl s)
    (fun f hf t ht => ht.trans (recordReaders_effects ch ?_ t).sameInputs) (fun t ht => ?_) fun f hf t ht => ?_
  · simp only [recordReaders, List.mem_cons, List.mem_append, List.not_mem_nil, or_false] at hf ⊢
    tauto
  · have hspeed : t.speed = none := (speed_congr ht.tracker ht.drive ht.silence).trans h
    simp [judgeBleed, State.speedBelow, hspeed]
  · simp only [List.cons_append, List.nil_append, List.mem_cons, List.not_mem_nil, or_false] at hf
    rcases hf with rfl | rfl | rfl | rfl
    · simpa using ht
    · simpa using ht
    · simpa using ht
    · exact judgeCauses_keeps (P := fun t => t.ring.bleed = none)
        (fun c t ht => (judgeCause_bleed ch c t).trans ht) _ ht

/-- R11, R139: in IDLE a record that goes stale moves neither the session nor the trip unit. -/
theorem recordReaders_idle {s : State} (hsilent : s.silence.driveSilent = true) (hidle : s.session.state = .idle)
    (hcauses : ∀ c, c ≠ .drive → s.causeHolds c = false) (ch : Choice) (code : List Nat) :
    (inOrder code (recordReaders ch) s).session = s.session ∧ (inOrder code (recordReaders ch) s).trip = s.trip := by
  suffices hkept : SameInputs s (inOrder code (recordReaders ch) s) ∧ (inOrder code (recordReaders ch) s).est = s.est ∧
      (inOrder code (recordReaders ch) s).session = s.session ∧ (inOrder code (recordReaders ch) s).trip = s.trip from
    hkept.2.2
  refine inOrder_keeps (fun t => SameInputs s t ∧ t.est = s.est ∧ t.session = s.session ∧ t.trip = s.trip)
    ⟨.refl s, rfl, rfl, rfl⟩ fun f hf t ht => ?_
  obtain ⟨hinputs, hest, hsession, htrip⟩ := ht
  refine ⟨hinputs.trans (recordReaders_effects ch hf t).sameInputs, ?_⟩
  rcases List.mem_append.mp (recordReaders_eq ch ▸ hf) with hf | hf
  · obtain ⟨h₁, h₂, h₃⟩ := quietReaders_kept hf (t := t) (by simp [hsession, hidle]) (by simp [hsession, hidle])
    exact ⟨h₃.trans hest, h₁.trans hsession, h₂.trans htrip⟩
  · obtain rfl := List.mem_singleton.mp hf
    rw [judgeCauses_false fun c _ => ?_]
    · exact ⟨hest, hsession, htrip⟩
    · by_cases hc : c = .drive
      · rw [hc, causeHolds_drive (by rw [hinputs.silence]; exact hsilent), hsession, hidle]
        rfl
      · rw [causeHolds_of_inputs hinputs hest hc, hcauses c hc]

/-- R139, R142: in a running session a record that goes stale sets a clear latch by DRIVE. -/
theorem recordReaders_trips {s : State} (hsilent : s.silence.driveSilent = true) (hidle : s.session.state ≠ .idle)
    (hhold : s.session.state ≠ .holdDown) (hrun : s.session.state ≠ .rundown)
    (hcauses : ∀ c, c ≠ .drive → s.causeHolds c = false) (hlatch : s.trip.latch = false) (ch : Choice)
    (code : List Nat) :
    Stopped (inOrder code (recordReaders ch) s) ∧ (inOrder code (recordReaders ch) s).session.state = .tripped ∧
      (inOrder code (recordReaders ch) s).trip =
        { s.trip.setBy .drive (speedAndSource s).1 (speedAndSource s).2 s.est.u with
          causes := CauseSet.empty.add .drive } := by
  refine inOrder_once (fun t => SameInputs s t ∧ t.est = s.est ∧ t.session = s.session ∧ t.trip = s.trip)
    (fun t => Stopped t ∧ t.session.state = .tripped ∧ t.trip =
      { s.trip.setBy .drive (speedAndSource s).1 (speedAndSource s).2 s.est.u with
        causes := CauseSet.empty.add .drive })
    (pre := quietReaders ch) (g := judgeCauses ch [.lid, .overspeed, .drive]) (post := [])
    ⟨.refl s, rfl, rfl, rfl⟩ (fun f hf t ht => ?_) (fun t ht => ?_) fun f hf t ht => ?_
  · rw [List.append_nil] at hf
    obtain ⟨hinputs, hest, hsession, htrip⟩ := ht
    obtain ⟨h₁, h₂, h₃⟩ := quietReaders_kept hf (t := t) (by rw [hsession]; exact hhold) (by rw [hsession]; exact hrun)
    exact ⟨hinputs.trans (quietReaders_effects hf t).sameInputs, h₃.trans hest, h₁.trans hsession, h₂.trans htrip⟩
  · obtain ⟨hinputs, hest, hsession, htrip⟩ := ht
    have hdrive : t.causeHolds .drive = true := by
      rw [causeHolds_drive (by rw [hinputs.silence]; exact hsilent), hsession]
      exact bne_iff_ne.mpr hidle
    have hothers : ∀ c, c ≠ .drive → t.causeHolds c = false := fun c hc => by
      rw [causeHolds_of_inputs hinputs hest hc, hcauses c hc]
    have hset := judgeCause_clear hdrive (by rw [htrip]; exact hlatch) ch
    obtain ⟨hinputs', hest', htrip', hsession', -, hstopped⟩ := setTrip_trippedBy ch .drive t
    rw [judgeCauses_only ch (by decide) (by decide : Cause.drive ∈ [Cause.lid, .overspeed, .drive])
      (fun c _ hc => hothers c hc) (fun c _ hc => by
        rw [hset, causeHolds_of_inputs hinputs' hest' hc, hothers c hc]), hset]
    refine ⟨hstopped, by rw [hsession'], ?_⟩
    rw [htrip', speedAndSource_congr hinputs.tracker hinputs.drive hinputs.silence, hest]
    split <;> rfl
  · rw [List.append_nil] at hf
    obtain ⟨hstopped, hstate, htrip⟩ := ht
    obtain ⟨h₁, h₂, -⟩ := quietReaders_kept hf (t := t) (by simp [hstate]) (by simp [hstate])
    exact ⟨(quietReaders_effects hf t).stopped hstopped, by rw [h₁]; exact hstate, h₂.trans htrip⟩

/-- Settles O23: the record goes stale; a running session trips on DRIVE and IDLE does not. -/
theorem driveFallsSilent : Obligations.DriveFallsSilent := by
  intro m s hheld hfresh hdue hlatch hcauses
  have hcauses' : ∀ c, c ≠ .drive → (driveStale (tick m s)).causeHolds c = false := fun c hc =>
    driveStale_no_cause (fun d => by rw [← hcauses d]; cases d <;> rfl) hc
  have heffects : Effects (driveStale (tick m s))
      (inOrder m.choice.readers (recordReaders m.choice) (driveStale (tick m s))) :=
    Effects.inOrder .refl fun f hf u _ => recordReaders_effects _ hf u
  have hinputs := heffects.sameInputs
  refine ⟨_, exec_driveSilent hheld m hfresh hdue, hinputs.silence, hinputs.rxD, hinputs.drive, fun hidle => ?_,
    fun hidle hhold hrun => ?_, fun hangle => ?_, ?_, hinputs.tracker, hinputs.requested, heffects.contents⟩
  · obtain ⟨hsession, htrip⟩ := recordReaders_idle (s := driveStale (tick m s)) rfl hidle hcauses' m.choice
      m.choice.readers
    exact ⟨htrip, hsession⟩
  · obtain ⟨hstopped, hstate, htrip⟩ := recordReaders_trips (s := driveStale (tick m s)) rfl hidle hhold hrun hcauses'
      hlatch m.choice m.choice.readers
    exact ⟨hstopped.latch, by rw [htrip]; rfl, by rw [htrip]; rfl, by rw [htrip], by rw [htrip]; rfl, hstate,
      hstopped.spin, hstopped.agitate⟩
  · refine recordReaders_bleed ?_ _ _
    rw [speed_of_silent (s := driveStale (tick m s)) rfl, if_neg (by exact Bool.eq_false_iff.mp hangle)]
  · simp [driveStale]

end Sys2Proof.Machine
end


section
/-! SUPPORT. The estimate and the angle lost, the demand that leaves Port D, the hold of RESET_N, and the statements of them. -/

namespace Sys2Proof.Machine
open Sys2Proof.Safety

/-! ### The estimator enters INVALID -/

/-- R63: the estimator already INVALID stands; any other is lost. -/
theorem estimatorInvalid_est (ch : Choice) (s : State) :
    (estimatorInvalid ch s).est = if s.est.state = .invalid then s.est else s.est.lost := by
  unfold estimatorInvalid
  split
  · next h => rw [if_pos h]
  · next h => rw [if_neg (by rw [h]; decide)]
  · next h =>
    rw [if_neg (by rw [h]; decide)]
    refine inOrder_keeps (fun t => t.est = s.est.lost) rfl fun f hf t ht => ?_
    simp only [List.mem_cons, List.not_mem_nil, or_false] at hf
    rcases hf with rfl | rfl | rfl <;> simpa using ht

/-- Table 4-1: an INVALID estimator that is sound is as one just lost. -/
theorem lost_of_sound {e : Estimator} (hsound : estimatorSound e = true) (h : e.state = .invalid) : e.lost = e := by
  obtain ⟨state, acc, seed, priming, fx, fy, m16, band, u, thin⟩ := e
  obtain rfl : state = .invalid := h
  simp [estimatorSound] at hsound
  simp [Estimator.lost, hsound]

theorem estimatorInvalid_est_of_sound {s : State} (hsound : estimatorSound s.est = true) (ch : Choice) :
    (estimatorInvalid ch s).est = s.est.lost := by
  rw [estimatorInvalid_est]
  split
  · exact (lost_of_sound hsound ‹_›).symm
  · rfl

/-- R101: the session hears of a lost estimate by its counts alone. -/
theorem estimatorInvalid_session (ch : Choice) (s : State) :
    (estimatorInvalid ch s).session =
      if s.est.state = .valid then { s.session with dwell := 0, settle := 0 } else s.session := by
  unfold estimatorInvalid
  split
  · next h => rw [if_neg (by rw [h]; decide)]
  · next h => rw [if_neg (by rw [h]; decide)]
  · next h =>
    rw [if_pos h]
    refine inOrder_once (fun t => t.session = s.session) (fun t => t.session = { s.session with dwell := 0, settle := 0 })
      (pre := [_, _]) (post := []) rfl (fun f hf t ht => ?_) (fun t ht => by rw [clearCounts, ht]) fun f hf t ht => ?_
    all_goals
      rcases List.mem_pair.mp hf with rfl | rfl <;> simpa using ht

/-- R81, R83: as a VALID estimate is lost, the rise counter clears, and BLIND_CEILING is a term again. -/
theorem estimatorInvalid_gov {s : State} (h : s.est.state = .valid) (ch : Choice) :
    (estimatorInvalid ch s).gov.eHeld = s.gov.eHeld ∧ (estimatorInvalid ch s).gov.rise = 0 ∧
      (estimatorInvalid ch s).gov.spin ≤ s.spin.blindCeiling := by
  have hrun : estimatorInvalid ch s = inOrder ch.estimate
      [judgeLive .estimateValid, fun s => recompose { s with gov := { s.gov with rise := 0 } }, clearCounts]
      { s with est := s.est.lost } := by
    unfold estimatorInvalid
    simp [h]
  rw [hrun]
  refine inOrder_once (fun t => t.est.state = .invalid ∧ t.spin = s.spin ∧ t.gov.eHeld = s.gov.eHeld)
    (fun t => t.gov.eHeld = s.gov.eHeld ∧ t.gov.rise = 0 ∧ t.gov.spin ≤ s.spin.blindCeiling)
    (pre := [_]) (post := [_]) ⟨rfl, rfl, rfl⟩ (fun f hf t ht => ?_) (fun t ht => ?_) fun f hf t ht => ?_
  · rcases List.mem_pair.mp hf with rfl | rfl <;> simpa using ht
  · obtain ⟨hinvalid, hspin, hheld⟩ := ht
    rw [recompose_gov]
    refine ⟨hheld, rfl, spinCeiling_le_of_mem (mem_spinTerms_iff.mpr ?_)⟩
    simp [hinvalid, hspin]
  · rcases List.mem_pair.mp hf with rfl | rfl <;> simpa using ht

theorem estimatorInvalid_gov_other {s : State} (h : s.est.state ≠ .valid) (ch : Choice) :
    (estimatorInvalid ch s).gov = s.gov := by
  unfold estimatorInvalid
  split
  · rfl
  · rfl
  · exact absurd ‹_› h

theorem estimatorInvalid_kinds (ch : Choice) (s : State) :
    KindsStand [.governing, .estimateValid] s (estimatorInvalid ch s) := by
  unfold estimatorInvalid
  split
  · exact .refl _ _
  · exact .of_events rfl
  · refine .inOrder (.of_events rfl) fun f hf u => ?_
    simp only [List.mem_cons, List.not_mem_nil, or_false] at hf
    rcases hf with rfl | rfl | rfl
    · exact (judgeLive_kinds _ _).mono
    · exact ((recompose_kinds _).after (s := u)).mono
    · exact .of_events rfl

/-! ### SENSOR_LOSS -/

theorem exec_sensorLoss {s : State} (hheld : s.held = false) (m : Moment) (hheard : s.intake.loss = false)
    (hdue : 20000 ≤ elapsed (s.now + m.elapsed) s.intake.since) :
    exec (.sensorLoss m) s =
      .next (inOrder m.choice.effects [judgeLive .sensorLoss, estimatorInvalid m.choice]
        { tick m s with intake := { s.intake with loss := true, armed := false } }) := by
  have hdue' : (tick m s).sensorDue = true := by
    simp only [State.sensorDue, tick_kept, hheard, Bool.not_false, Bool.true_and, decide_eq_true_iff]
    exact hdue
  refine (happen_live hheld m _).trans ?_
  rw [sensorLost, if_pos hdue']
  rfl

/-- R30, R63: what the loss of the sensor leaves, the offer made before or after the estimate is lost. -/
theorem sensorLost_outcome (ch : Choice) (u : State) :
    ∃ v t : State, v.est = u.est ∧ v.gov = u.gov ∧ v.session = u.session ∧ v.spin = u.spin ∧
      t.est = (estimatorInvalid ch v).est ∧ t.gov = (estimatorInvalid ch v).gov ∧
      t.session = (estimatorInvalid ch v).session ∧
      inOrder ch.effects [judgeLive .sensorLoss, estimatorInvalid ch] u = t := by
  rcases inOrder_pair ch.effects (judgeLive .sensorLoss) (estimatorInvalid ch) u with h | h
  · exact ⟨judgeLive .sensorLoss u, _, by simp, by simp, by simp, by simp, rfl, rfl, rfl, h⟩
  · exact ⟨u, _, rfl, rfl, rfl, rfl, by simp, by simp, by simp, h⟩

/-- Settles O24: with the sensor silent the estimate is lost and the SPIN ceiling is at most BLIND_CEILING. -/
theorem sensorFallsSilent : Obligations.SensorFallsSilent := by
  intro m s hheld hheard hdue hsound hcomposed
  refine ⟨_, exec_sensorLoss hheld m hheard hdue, ?_⟩
  generalize hu : ({ tick m s with intake := { s.intake with loss := true, armed := false } } : State) = u
  have hkept : ∀ f ∈ [judgeLive .sensorLoss, estimatorInvalid m.choice], ∀ t : State,
      (f t).ring = t.ring ∧ (f t).trip = t.trip := fun f hf t => by
    rcases List.mem_pair.mp hf with rfl | rfl <;> simp
  have heffects : Effects u (inOrder m.choice.effects [judgeLive .sensorLoss, estimatorInvalid m.choice] u) :=
    Effects.inOrder .refl fun f hf t _ => by
      rcases List.mem_pair.mp hf with rfl | rfl
      · exact judgeLive_effects _ t
      · exact estimatorInvalid_effects _ t
  have hinputs := heffects.sameInputs
  obtain ⟨hring, htrip⟩ := inOrder_keeps (code := m.choice.effects) (fun t => t.ring = u.ring ∧ t.trip = u.trip)
    ⟨rfl, rfl⟩ fun f hf t ht => ⟨(hkept f hf t).1.trans ht.1, (hkept f hf t).2.trans ht.2⟩
  obtain ⟨v, t, hvest, hvgov, hvsession, hvspin, hest, hgov, hsession, hrun⟩ := sensorLost_outcome m.choice u
  rw [hrun] at hinputs hring htrip ⊢
  have huest : u.est = s.est := by rw [← hu]; rfl
  have hugov : u.gov = s.gov := by rw [← hu]; rfl
  have husession : u.session = s.session := by rw [← hu]; rfl
  have huspin : u.spin = s.spin := by rw [← hu]; rfl
  rw [huest] at hvest
  rw [hugov] at hvgov
  rw [husession] at hvsession
  rw [huspin] at hvspin
  refine ⟨by rw [hinputs.intake, ← hu], ?_, ?_, ?_, fun hvalid => ?_, ?_, by rw [hinputs.tracker, ← hu]; rfl,
    by rw [htrip, ← hu]; rfl, by rw [hring, ← hu]; rfl, by rw [hinputs.drive, ← hu]; rfl,
    by rw [hinputs.lid, ← hu]; rfl, by rw [hinputs.strike, ← hu]; rfl⟩
  · rw [hest, estimatorInvalid_est_of_sound (by rw [hvest]; exact hsound), hvest]
    rfl
  · rw [hgov]
    by_cases hvalid : s.est.state = .valid
    · rw [← hvspin]
      exact (estimatorInvalid_gov (by rw [hvest]; exact hvalid) _).2.2
    · rw [estimatorInvalid_gov_other (by rw [hvest]; exact hvalid), hvgov]
      simp only [ceilingsComposed, Bool.and_eq_true, beq_iff_eq] at hcomposed
      rw [hcomposed.1]
      exact spinCeiling_le_of_mem (mem_spinTerms_iff.mpr (by simp [hvalid]))
  · rw [hgov]
    by_cases hvalid : s.est.state = .valid
    · rw [(estimatorInvalid_gov (by rw [hvest]; exact hvalid) _).1, hvgov]
    · rw [estimatorInvalid_gov_other (by rw [hvest]; exact hvalid), hvgov]
  · rw [hgov, hsession, estimatorInvalid_session, hvest, if_pos hvalid]
    exact ⟨(estimatorInvalid_gov (by rw [hvest]; exact hvalid) _).2.1, rfl, rfl⟩
  · rw [hsession, estimatorInvalid_session, hvsession]
    split <;> rfl

/-! ### The angle lost -/

/-- R126, R130: the injection of `s` stands with VALVE in `t`, or it has ended ABORTED there with VALVE closed. -/
def StandsOrAborted (s t : State) : Prop :=
  (t.ring.ctx = s.ring.ctx ∧ t.ring.valve = s.ring.valve) ∨
    (t.ring.ctx.state ≠ .active ∧ t.ring.valve = false ∧ t.ring.ctx.outcome = .aborted ∧
      t.ring.ctx.credited = s.ring.ctx.credited)

theorem StandsOrAborted.of_ring {s t u : State} (h : StandsOrAborted s t) (hctx : u.ring.ctx = t.ring.ctx)
    (hvalve : u.ring.valve = t.ring.valve) : StandsOrAborted s u := by
  unfold StandsOrAborted at *
  rw [hctx, hvalve]
  exact h

theorem StandsOrAborted.aborted {s t u : State} (h : StandsOrAborted s t) (hactive : t.ring.ctx.state = .active)
    (hring : u.ring = (ringEnd .aborted t).ring) : StandsOrAborted s u := by
  rcases h with ⟨hctx, -⟩ | ⟨hidle, -⟩
  · exact .inr ⟨by rw [hring]; exact ringEnd_not_active _ _, by rw [hring]; rfl, by rw [hring]; rfl,
      by rw [hring, ← hctx]; rfl⟩
  · exact absurd hactive hidle

theorem StandsOrAborted.ringAbort {s t u : State} (h : StandsOrAborted s t) (hring : u.ring = (ringAbort t).ring) :
    StandsOrAborted s u := by
  by_cases hactive : t.ring.ctx.state = .active
  · exact h.aborted hactive (by rw [hring, ringAbort_active hactive])
  · rw [ringAbort_not_active hactive] at hring
    exact h.of_ring (by rw [hring]) (by rw [hring])

/-- R142: a cause judged leaves the injection, or aborts it. -/
theorem StandsOrAborted.judgeCause {s t : State} (h : StandsOrAborted s t) (ch : Choice) (c : Cause) :
    StandsOrAborted s (judgeCause ch c t) := by
  unfold Machine.judgeCause
  split
  · split
    · exact h
    · exact h.ringAbort (setTrip_trippedBy ch c t).ring
  · exact h

/-- R47: the users of the speed leave the injection, or abort it by a trip. -/
theorem StandsOrAborted.speedChanged {s t : State} (h : StandsOrAborted s t) (ch : Choice) :
    StandsOrAborted s (speedChanged ch t) := by
  refine inOrder_keeps (StandsOrAborted s) h fun f hf u hu => ?_
  simp only [List.mem_cons, List.not_mem_nil, or_false] at hf
  rcases hf with rfl | rfl | rfl
  · exact hu.of_ring (by simp) (by simp)
  · exact hu.of_ring rfl rfl
  · exact judgeCauses_keeps (fun c v hv => hv.judgeCause ch c) _ hu

theorem abortForAngle_active {s : State} (h : s.ring.ctx.state = .active) (ch : Choice) :
    (abortForAngle ch s).ring = (ringEnd .aborted s).ring := by
  rw [abortForAngle, if_pos h, endInjection_ring]

theorem abortForAngle_idle {s : State} (h : s.ring.ctx.state ≠ .active) (ch : Choice) : abortForAngle ch s = s := if_neg h

theorem StandsOrAborted.abortForAngle {s t : State} (h : StandsOrAborted s t) (ch : Choice) :
    StandsOrAborted s (abortForAngle ch t) := by
  by_cases hactive : t.ring.ctx.state = .active
  · exact h.aborted hactive (abortForAngle_active hactive ch)
  · rw [abortForAngle_idle hactive]; exact h

/-- R47, R130: as the angle is lost an injection ACTIVE ends ABORTED, and VALVE is closed. -/
theorem angleLost_ring (ch : Choice) (s : State) :
    StandsOrAborted s (angleLost ch s) ∧ (angleLost ch s).ring.ctx.state ≠ .active := by
  refine inOrder_brings_under (StandsOrAborted s) (fun t => StandsOrAborted s t ∧ t.ring.ctx.state ≠ .active)
    (.inl ⟨rfl, rfl⟩) (fun f hf t ht => ?_) (fun f hf t _ ht => ?_)
    ⟨abortForAngle ch, by simp, fun t ht => ⟨ht.abortForAngle ch, ?_⟩⟩
  · simp only [List.mem_cons, List.not_mem_nil, or_false] at hf
    rcases hf with rfl | rfl | rfl | rfl
    · exact ht.of_ring (by simp) (by simp)
    · exact ht.abortForAngle ch
    · exact ht.speedChanged ch
    · exact ht.of_ring (by simp) (by simp)
  · obtain ⟨hstands, hidle⟩ := ht
    simp only [List.mem_cons, List.not_mem_nil, or_false] at hf
    rcases hf with rfl | rfl | rfl | rfl
    · exact ⟨hstands.of_ring (by simp) (by simp), by simpa using hidle⟩
    · rw [abortForAngle_idle hidle]; exact ⟨hstands, hidle⟩
    · refine ⟨hstands.speedChanged ch, ?_⟩
      rcases StandsOrAborted.speedChanged (s := t) (t := t) (.inl ⟨rfl, rfl⟩) ch with ⟨hctx, -⟩ | ⟨hstate, -⟩
      · rw [hctx]; exact hidle
      · exact hstate
    · exact ⟨hstands.of_ring (by simp) (by simp), by simpa using hidle⟩
  · by_cases hactive : t.ring.ctx.state = .active
    · rw [abortForAngle_active hactive]; exact ringEnd_not_active _ _
    · rw [abortForAngle_idle hactive]; exact hactive

/-- R63: as the angle is lost the estimate is, whatever the order. -/
theorem angleLost_est {s : State} (hsound : estimatorSound s.est = true) (ch : Choice) :
    (angleLost ch s).est = s.est.lost := by
  have hlost : ∀ e : Estimator, estimatorSound e = true → estimatorSound e.lost = true := fun e h => by
    simp [estimatorSound, Estimator.lost]
  refine inOrder_brings_under (fun t => t.est = s.est ∨ t.est = s.est.lost) (fun t => t.est = s.est.lost) (.inl rfl)
    (fun f hf t ht => ?_) (fun f hf t _ ht => ?_) ⟨estimatorInvalid ch, by simp, fun t ht => ?_⟩
  · simp only [List.mem_cons, List.not_mem_nil, or_false] at hf
    rcases hf with rfl | rfl | rfl | rfl
    · right
      rcases ht with ht | ht
      · rw [estimatorInvalid_est_of_sound (by rw [ht]; exact hsound), ht]
      · rw [estimatorInvalid_est, if_pos (by rw [ht]; rfl), ht]
    all_goals simpa using ht
  · simp only [List.mem_cons, List.not_mem_nil, or_false] at hf
    rcases hf with rfl | rfl | rfl | rfl
    · rw [estimatorInvalid_est, if_pos (by rw [ht]; rfl), ht]
    all_goals simpa using ht
  · rcases ht with ht | ht
    · rw [estimatorInvalid_est_of_sound (by rw [ht]; exact hsound), ht]
    · rw [estimatorInvalid_est, if_pos (by rw [ht]; rfl), ht]

theorem judgeCauses_kinds (ch : Choice) (cs : List Cause) (s : State) : KindsStand tripKinds s (judgeCauses ch cs s) :=
  judgeCauses_keeps (P := KindsStand tripKinds s) (fun c t ht => ht.trans (judgeCause_kinds ch c t)) cs (.refl _ _)

theorem speedChanged_kinds (ch : Choice) (s : State) : KindsStand tripKinds s (speedChanged ch s) := by
  refine .inOrder (.refl _ _) fun f hf u => ?_
  simp only [List.mem_cons, List.not_mem_nil, or_false] at hf
  rcases hf with rfl | rfl | rfl
  · exact ((climbCheck_kinds ch u).trans (retainCheck_kinds ch _)).mono
  · exact .of_events rfl
  · exact judgeCauses_kinds ch _ u

theorem abortForAngle_kinds (ch : Choice) (s : State) : KindsStand sessionKinds s (abortForAngle ch s) := by
  unfold abortForAngle endInjection injectionEnded
  split
  · split
    · exact (enterSettle_kinds ch _).after
    · exact .of_events rfl
  · exact .refl _ _

/-- R48: the condition of INDEX_LOSS is a matter of the tracker and the drive record. -/
theorem indexLoss_congr {s t : State} (htracker : t.tracker = s.tracker) (hdrive : t.drive = s.drive)
    (hsilence : t.silence = s.silence) : t.indexLoss = s.indexLoss := by
  simp [State.indexLoss, State.angleValid, State.driveSpeed, htracker, hdrive, hsilence]

/-- R48: INDEX_LOSS is offered as the angle is lost, whatever the order. -/
theorem angleLost_live (ch : Choice) (s : State) : (angleLost ch s).events.live.getLsbD 7 = s.indexLoss := by
  refine inOrder_once (fun t => SameInputs s t) (fun t => t.events.live.getLsbD 7 = s.indexLoss)
    (pre := [estimatorInvalid ch, abortForAngle ch, speedChanged ch]) (post := []) (.refl s) (fun f hf t ht => ?_)
    (fun t ht => (judgeLive_live .indexLoss t).trans (indexLoss_congr ht.tracker ht.drive ht.silence))
    fun f hf t ht => ?_
  · simp only [List.append_nil, List.mem_cons, List.not_mem_nil, or_false] at hf
    rcases hf with rfl | rfl | rfl
    · exact ht.trans (estimatorInvalid_effects ch t).sameInputs
    · exact ht.trans (abortForAngle_effects ch t).sameInputs
    · exact ht.trans (speedChanged_effects ch t).sameInputs
  · simp only [List.append_nil, List.mem_cons, List.not_mem_nil, or_false] at hf
    rcases hf with rfl | rfl | rfl
    · exact ((estimatorInvalid_kinds ch t).live .indexLoss (by decide)).trans ht
    · exact ((abortForAngle_kinds ch t).live .indexLoss (by decide)).trans ht
    · exact ((speedChanged_kinds ch t).live .indexLoss (by decide)).trans ht

/-- R46: the tracker once the index is lost in LOCKED or HELD. -/
theorem indexGone_timed {t : Tracker} {since : Time} {p : Nat} (hstate : t.state = .locked ∨ t.state = .held)
    (hindex : t.lastIndex = some since) (hperiod : t.period = some p) :
    t.indexGone = if p < 1000000 then { state := .timing, lastIndex := some since, period := none, mismatch := 0 }
      else { state := .untimed, lastIndex := none, period := none, mismatch := 0 } := by
  unfold Tracker.indexGone
  rcases hstate with hstate | hstate <;> simp [hstate, hindex, hperiod, Tracker.reset]

theorem indexDue_timed {t : Tracker} {now since : Time} {p : Nat} (hstate : t.state = .locked ∨ t.state = .held)
    (hindex : t.lastIndex = some since) (hperiod : t.period = some p) (hdue : 2 * p < elapsed now since) :
    t.indexDue now = true := by
  unfold Tracker.indexDue
  rcases hstate with hstate | hstate <;> simp [hstate, hindex, hperiod, hdue]

theorem exec_indexLost {s : State} (hheld : s.held = false) (m : Moment)
    (hdue : s.tracker.indexDue (s.now + m.elapsed) = true) :
    exec (.indexLost m) s = .next
      (if s.angleValid then angleLost m.choice { tick m s with tracker := s.tracker.indexGone }
       else { tick m s with tracker := s.tracker.indexGone }) := by
  refine (happen_live hheld m _).trans ?_
  rw [indexLost, if_pos (by exact hdue)]
  rfl

/-- Settles O34: the index lost in LOCKED, HELD and TIMING. -/
theorem indexIsLost : Obligations.IndexIsLost := by
  refine ⟨fun m s since p hheld hstate hindex hperiod hdue hsound _ => ?_,
    fun m s since p hheld hstate hindex hperiod hdue => ?_, fun m s since hheld hstate hindex hdue => ?_⟩
  · refine ⟨_, exec_indexLost hheld m (indexDue_timed (.inl hstate) hindex hperiod hdue), ?_⟩
    rw [if_pos (by simp [State.angleValid, hstate]), indexGone_timed (.inl hstate) hindex hperiod]
    generalize htracker : (if p < 1000000 then
      { state := .timing, lastIndex := some since, period := none, mismatch := 0 }
      else { state := .untimed, lastIndex := none, period := none, mismatch := 0 } : Tracker) = x
    have heffects := angleLost_effects m.choice { tick m s with tracker := x }
    have hinputs := heffects.sameInputs
    obtain ⟨hring, hidle⟩ := angleLost_ring m.choice { tick m s with tracker := x }
    have hunlocked : x.state ≠ .locked := by rw [← htracker]; split <;> simp
    refine ⟨hinputs.tracker, angleLost_est (by exact hsound) _, ?_, fun hactive => ?_, heffects.contents, ?_, hinputs.drive,
      hinputs.intake, hinputs.requested, hinputs.limits⟩
    · rcases hring with ⟨hctx, hvalve⟩ | ⟨-, hvalve, -⟩
      · rw [hvalve]
        exact tick_valve_closed (s := s) (by rw [hctx] at hidle; exact hidle) m
      · exact hvalve
    · rcases hring with ⟨hctx, -⟩ | ⟨-, -, houtcome, hcredited⟩
      · rw [hctx] at hidle; exact absurd hactive hidle
      · exact ⟨houtcome, hcredited⟩
    · rw [angleLost_live]
      simp only [State.indexLoss, State.angleValid, State.driveSpeed, tick_kept]
      cases s.silence.driveSilent <;> simp [hunlocked]
  · refine ⟨_, exec_indexLost hheld m (indexDue_timed (.inr hstate) hindex hperiod hdue), ?_⟩
    rw [if_neg (by simp [State.angleValid, hstate]), indexGone_timed (.inr hstate) hindex hperiod]
  · refine ⟨_, exec_indexLost hheld m ?_, ?_⟩
    · simp only [Tracker.indexDue, hstate, hindex]
      exact decide_eq_true hdue
    · rw [if_neg (by simp [State.angleValid, hstate])]
      simp [Tracker.indexGone, hstate, Tracker.reset]

end Sys2Proof.Machine
end


section
/-! SUPPORT. The demand that leaves Port D, the resets, and the statements of them. -/

namespace Sys2Proof.Machine
open Sys2Proof.Safety

/-! ### The demand that leaves -/

/-- R19, step 2: SPIN cut to 0..ceiling, AGITATE cut to the ceiling with its sign kept. -/
theorem governTarget_eq (g : Governor) (mode : Mode) (target : Int) :
    governTarget g mode target =
      match mode with
      | .stop | .coast => 0
      | .spin => max 0 (min target g.spin)
      | .agitate => max (-(g.agitate : Int)) (min target g.agitate) := by
  cases mode with
  | stop => rfl
  | coast => rfl
  | spin => simp only [governTarget]; split_ifs <;> omega
  | agitate => simp only [governTarget]; split_ifs <;> omega

/-- R19, step 3. -/
theorem governRamp_eq (limit ramp : Nat) : governRamp limit ramp = max 1 (min ramp (if limit = 0 then 2000 else limit)) := by
  unfold governRamp clampNat
  split_ifs <;> omega

/-- R19: the mode a demand leaves with. -/
theorem govern_mode (s : State) (f : QFrame) :
    (govern s f).mode =
      if s.trip.latch then .stop else if demandMode f.payload = 1 then .agitate
      else if demandMode f.payload = 2 then .spin else if demandMode f.payload = 3 then .coast else .stop := rfl

theorem govern_target (s : State) (f : QFrame) :
    (govern s f).target =
      match (govern s f).mode with
      | .stop | .coast => 0
      | .spin => max 0 (min (demandTarget f.payload) s.gov.spin)
      | .agitate => max (-(s.gov.agitate : Int)) (min (demandTarget f.payload) s.gov.agitate) := by
  by_cases hlatch : s.trip.latch = true
  · simp [govern, hlatch]
  · simp only [govern, hlatch]
    exact governTarget_eq _ _ _

theorem govern_ramp (s : State) (f : QFrame) :
    (govern s f).ramp =
      if s.trip.latch then s.spin.tripRamp
      else max 1 (min (demandRamp f.payload)
        (if look s.tables.rampLimit s.speedBand 0 = 0 then 2000 else look s.tables.rampLimit s.speedBand 0)) := by
  unfold govern
  dsimp only
  rw [governRamp_eq]

/-- R20: GOVERNED is set when the clamp on receipt or the governing changed a field. -/
theorem govern_governed_iff (s : State) (f : QFrame) :
    (govern s f).governed = true ↔ f.changed = true ∨ (govern s f).mode.code ≠ demandMode f.payload ∨
      (govern s f).target ≠ demandTarget f.payload ∨ (govern s f).ramp ≠ demandRamp f.payload := by
  simp only [govern, Bool.or_eq_true, bne_iff_ne, or_assoc]

/-- R16, R21, R91: what stands once a SPEED DEMAND has started to leave. -/
theorem startD_demand_standing {s : State} {f : QFrame} {p : PortD} (h : s.portD.pick = some (f, p))
    (hc : f.cls = speedDemandClass) :
    (startD s).standing = govern s f ∧ (startD s).portD = p.send s.now f.cls (govern s f).payload ∧
      (startD s).events.live.getLsbD 1 = (govern s f).governed := by
  rw [startD_demand h hc]
  exact ⟨by simp, by simp, judgeLive_live .governing _⟩

/-- Settles O20: what leaves Port D is `govern` of the frame picked. -/
theorem demandGoverned : Obligations.DemandGoverned := by
  intro m s x f rest hheld hx hdone hpick hcls _
  have hdone' : sendingDone (tick m s).now x = true := (sendingDone_iff _ _).mpr hdone
  refine ⟨_, (exec_transmitEnd hheld m .d).trans (congrArg _ (endSendD_done hx hdone')), ?_⟩
  have hspeed : (freeD (tick m s)).speedBand = s.speedBand := rfl
  obtain ⟨hstanding, hport, hlive⟩ := startD_demand_standing (s := freeD (tick m s)) (PortD.pick_eq hpick) hcls
  have hgov : (startD (freeD (tick m s))).gov = s.gov := by simp [freeD]
  rw [hstanding, hport, hlive, hgov]
  refine ⟨govern_mode _ _, govern_target _ _, govern_ramp _ _, govern_target_natAbs_le _ _, govern_governed_iff _ _,
    ?_, rfl, rfl, by simp [freeD], by simp [freeD], rfl⟩
  rw [hcls]
  rfl

/-! ### RESET_N -/

/-- Settles O6: RESET_N low resets every block, and while it is held no command but the three reaches the part. -/
theorem holdInReset : Obligations.HoldInReset := by
  refine ⟨fun s => ⟨_, rfl, rfl, rfl, rfl, rfl, rfl, rfl, rfl, rfl, rfl, rfl, rfl, rfl, rfl, rfl, rfl⟩,
    fun c s hheld hpower hlow hswitch => ?_⟩
  cases c with
  | powerOnReset => exact absurd rfl hpower
  | resetNLow => exact absurd rfl hlow
  | switchRawChange m sw => exact absurd rfl (hswitch m sw)
  | _ => exact happen_held hheld _ _

/-- R148: of live values written one after another, each stands as its own condition was written. -/
theorem foldl_setBit_live (condition : Kind → Bool) (l : List Kind) (w : Word) (k : Kind) :
    (l.foldl (fun w k => setBit w k.number (condition k)) w).getLsbD k.number.val =
      if k ∈ l then condition k else w.getLsbD k.number.val := by
  induction l generalizing w with
  | nil => rfl
  | cons a l ih =>
    rw [List.foldl_cons, ih]
    by_cases hl : k ∈ l
    · simp [hl]
    · by_cases ha : k = a
      · subst ha
        rw [if_neg hl, if_pos (by simp), setBit_same]
      · rw [if_neg hl, if_neg (by simp [ha, hl]), setBit_other _ _ (Kind.number_ne ha)]

/-- R148: the live values taken after a reset are the conditions. -/
theorem liveWord_eq (s : State) (k : Kind) : s.liveWord.getLsbD k.number.val = s.condition k := by
  rw [State.liveWord, foldl_setBit_live, if_pos]
  cases k <;> decide

theorem judgeCauses_strike_low {s : State} (hstrike : s.strike.debounced = false)
    (hothers : ∀ c, c ≠ .strike → s.causeHolds c = false) (ch : Choice) (cs : List Cause) : judgeCauses ch cs s = s :=
  judgeCauses_false (fun c _ => by
    by_cases hc : c = .strike
    · rw [hc]; exact hstrike
    · exact hothers c hc) ch

/-- R138: where STRIKE alone can be a cause, it sets a clear latch. -/
theorem judgeCauses_strike_high {s : State} (hstrike : s.strike.debounced = true)
    (hothers : ∀ c, c ≠ .strike → s.causeHolds c = false) (hlatch : s.trip.latch = false)
    (hsilent : s.silence.driveSilent = false) (ch : Choice) : judgeCauses ch allCauses s = setTrip ch .strike s := by
  have hset := judgeCause_clear (c := .strike) hstrike hlatch ch
  obtain ⟨hinputs, hest, -, hsession, -, -⟩ := setTrip_trippedBy ch .strike s
  rw [← hset]
  refine judgeCauses_only ch (by decide) (by decide) (fun c _ hc => hothers c hc) fun c _ hc => ?_
  rw [hset]
  by_cases hdrive : c = .drive
  · rw [hdrive]
    simp [State.causeHolds, hsilent]
  · rw [causeHolds_of_inputs hinputs hest hdrive]
    exact hothers c hc

/-! ### The trip stop on a Port D just reset -/

/-- R22: what a demand restated on an idle Port D with nothing waiting leaves: it has started to leave. -/
theorem queueRestated_idle {s : State} (hport : s.portD = PortD.reset) :
    (queueRestated s).standing = govern s s.standing.restatement ∧
      (queueRestated s).portD =
        PortD.send s.now speedDemandClass (govern s s.standing.restatement).payload PortD.reset := by
  have hwaits : ¬ s.portD.demandWaits = true := by rw [hport]; decide
  rw [queueRestated, if_neg hwaits, kickD, if_pos (by rw [hport]; rfl)]
  obtain ⟨hstanding, hportD, -⟩ := startD_demand_standing
    (s := { s with portD := { s.portD with localQ := s.portD.localQ ++ [s.standing.restatement] } })
    (f := s.standing.restatement) (p := PortD.reset) (by rw [hport]; rfl) rfl
  exact ⟨hstanding, hportD⟩

/-- R19, R142: the trip stop that answers a standing demand just reset. -/
theorem govern_reset_restatement {s : State} (hstanding : s.standing = Standing.reset) (hlatch : s.trip.latch = true)
    (hramp : s.spin.tripRamp ≠ 1) :
    govern s s.standing.restatement = { mode := .stop, target := 0, ramp := s.spin.tripRamp, governed := true } := by
  have hwas : demandRamp (Standing.reset.restatement).payload = 1 := by decide
  rw [hstanding]
  simp [govern, hlatch, hwas, hramp]

theorem enterTripped_portD {s : State} (hweigh : s.weigh.state ≠ .armed) (ch : Choice) :
    (enterTripped ch s).portD = s.portD ∧ (enterTripped ch s).standing = s.standing ∧
      (enterTripped ch s).weigh = s.weigh := by
  have hframe := sessionEvents_frame ch.session (withSession .tripped (abortCorrection s))
  have hsame : (inOrder ch.session sessionEvents (withSession .tripped (abortCorrection s))).weigh = s.weigh := by
    rw [hframe]; simp
  rw [enterTripped, abandonWeighing, if_neg (by rw [hsame]; exact hweigh), hframe]
  simp

/-- R142: a trip of a part just reset sends the trip stop, with sequence 0. -/
theorem setTrip_portD_reset {s : State} (hport : s.portD = PortD.reset) (hstanding : s.standing = Standing.reset)
    (hweigh : s.weigh.state ≠ .armed) (hramp : s.spin.tripRamp ≠ 1) (ch : Choice) (c : Cause) :
    (setTrip ch c s).portD = { PortD.reset with
      seq := 1
      sending := some { bytes := frameBytes 0x11 0 (demandPayload 0 s.spin.tripRamp 0 1), start := s.now } } := by
  suffices h : (tripHanded ch c s).weigh = s.weigh ∧ (tripHanded ch c s).standing.mode = .stop ∧
      (tripHanded ch c s).portD = { PortD.reset with
        seq := 1
        sending := some { bytes := frameBytes 0x11 0 (demandPayload 0 s.spin.tripRamp 0 1), start := s.now } } by
    rw [setTrip_eq]
    split <;> exact h.2.2
  refine inOrder_once
    (fun t => t.weigh = s.weigh ∧ t.standing = Standing.reset ∧ t.portD = PortD.reset ∧ t.trip.latch = true ∧
      SameInputs s t)
    (fun t => t.weigh = s.weigh ∧ t.standing.mode = .stop ∧ t.portD = { PortD.reset with
      seq := 1
      sending := some { bytes := frameBytes 0x11 0 (demandPayload 0 s.spin.tripRamp 0 1), start := s.now } })
    (pre := [ringAbort]) (post := [enterTripped ch, judgeLive .trip])
    ⟨rfl, hstanding, hport, rfl, by constructor <;> rfl⟩ (fun f hf t ht => ?_) (fun t ht => ?_) fun f hf t ht => ?_
  · obtain ⟨hw, hst, hp, hl, hinputs⟩ := ht
    have hblock : f ∈ tripBlocks ch := by
      simp only [tripBlocks, List.cons_append, List.nil_append, List.mem_cons, List.not_mem_nil, or_false] at hf ⊢
      tauto
    have heffects := tripBlocks_effects ch hblock t
    refine ⟨?_, ?_, ?_, heffects.latched hl, hinputs.trans heffects.sameInputs⟩
    all_goals
      simp only [List.cons_append, List.nil_append, List.mem_cons, List.not_mem_nil, or_false] at hf
      obtain ⟨hp', hst', hw'⟩ := enterTripped_portD (s := t) (by rw [hw]; exact hweigh) ch
      rcases hf with rfl | rfl | rfl <;> simp_all
  · obtain ⟨hw, hst, hp, hl, hinputs⟩ := ht
    obtain ⟨hst', hp'⟩ := queueRestated_idle hp
    rw [govern_reset_restatement hst hl (by rw [hinputs.spin]; exact hramp)] at hst' hp'
    dsimp only
    rw [recompose_of_same (by simp [hst', Governor.ceiling])]
    refine ⟨by simpa using hw, by rw [hst'], ?_⟩
    dsimp only
    rw [hp', hinputs.now, hinputs.spin]
    rfl
  · obtain ⟨hw, hst, hp⟩ := ht
    simp only [List.cons_append, List.nil_append, List.mem_cons, List.not_mem_nil, or_false] at hf
    obtain ⟨hp', hst', hw'⟩ := enterTripped_portD (s := t) (by rw [hw]; exact hweigh) ch
    rcases hf with rfl | rfl | rfl
    · simpa using ⟨hw, hst, hp⟩
    · exact ⟨hw'.trans hw, by rw [hst']; exact hst, hp'.trans hp⟩
    · simpa using ⟨hw, hst, hp⟩

/-! ### POWER_ON_RESET -/

theorem powerOnValues_other_causes (s : State) {c : Cause} (hc : c ≠ .strike) : (powerOnValues s).causeHolds c = false := by
  cases c with
  | strike => exact absurd rfl hc
  | lid => exact Bool.and_false _
  | mass => rfl
  | overspeed => rfl
  | drive => rfl

/-- R148: with STRIKE low the only live value after power-on reset is LID_OPEN. -/
theorem powerOn_liveWord (lid : Bool) (p : List Instr) :
    State.liveWord { State.reset with
      lid := { raw := lid, debounced := lid, pending := false, since := 0 }
      strike := { raw := false, debounced := false, pending := false, since := 0 }
      pending := p } = if lid then 0 else 0x1000 := by
  have hempty : ∀ lid : Bool, State.liveWord { State.reset with
      lid := { raw := lid, debounced := lid, pending := false, since := 0 }
      strike := { raw := false, debounced := false, pending := false, since := 0 } } = if lid then 0 else 0x1000 := by
    decide +kernel
  exact hempty lid

/-- Settles O5: power-on reset with STRIKE low and with STRIKE high. -/
theorem powerOnReset : Obligations.PowerOnReset := by
  intro s
  have heffects : Effects (powerOnValues s) (powerOn s) := judgeCauses_effects _ _ _
  have hinputs := heffects.sameInputs
  refine ⟨_, rfl, hinputs.now, hinputs.held, hinputs.pending, hinputs.lid, hinputs.strike, fun hlow => ?_, fun hhigh => ?_⟩
  · rw [powerOn, judgeCauses_strike_low hlow fun c hc => powerOnValues_other_causes s hc]
    unfold powerOnValues takeLive
    rw [hlow, powerOn_liveWord]
    rfl
  · have hset : powerOn s = setTrip Choice.listed .strike (powerOnValues s) :=
      judgeCauses_strike_high hhigh (fun c hc => powerOnValues_other_causes s hc) rfl rfl _
    obtain ⟨-, -, htrip, hsession, -, hstopped⟩ := setTrip_trippedBy Choice.listed .strike (powerOnValues s)
    have hport := setTrip_portD_reset (s := powerOnValues s) rfl rfl
      (show Weighing.reset.state ≠ .armed by decide) (show (600 : Nat) ≠ 1 by decide) Choice.listed .strike
    rw [hset]
    exact ⟨htrip, by rw [hsession], hstopped.spin, hstopped.agitate, by rw [hport]; rfl⟩

end Sys2Proof.Machine
end


section
/-! SUPPORT. SOFT RESET: what every block holds as it completes, before and after the trip unit's part, and the statement of it. -/

namespace Sys2Proof.Machine
open Sys2Proof.Safety

/-! ### The state before the trip unit's part -/

/-- R169: every block at its SOFT RESET value, the values judged at once among them. -/
def softBase (s : State) : State := resumeTrip (takeLive (judgeBleed (composeSilently (softValues s))))

/-- R76, R135: the SOFT RESET values with the ceilings and the bleed timer judged. -/
def softJudged (s : State) : State := judgeBleed (composeSilently (softValues s))

/-- R96, R148, R169: what the part holds before the trip unit's part. -/
theorem softBase_eq (s : State) :
    softBase s = { softJudged s with
      events := { Events.reset with live := (softJudged s).liveWord }
      session := { Session.reset with state := if s.trip.latch then .tripped else .idle } } := by
  unfold softBase softJudged resumeTrip
  split
  · next h => rw [if_pos (by exact h)]; rfl
  · next h => rw [if_neg (by exact h)]; rfl

theorem softReset_eq (ch : Choice) (s : State) : softReset ch s = judgeCauses ch allCauses (softBase s) := rfl

theorem softJudged_speed (s : State) : (softJudged s).speed = some 0 := rfl

theorem softBase_speed (s : State) : (softBase s).speed = some 0 := by
  rw [softBase_eq]; rfl

/-- R83: after SOFT RESET ABS_LIMIT and BLIND_CEILING are terms, and the trip term while the latch is kept set. -/
theorem softValues_spinCeiling {s : State} (hblind : s.spin.blindCeiling ≤ 1500) :
    (softValues s).spinCeiling =
      if s.trip.latch then 0 else (match s.limits.abs with
        | some a => min a s.spin.blindCeiling
        | none => s.spin.blindCeiling) := by
  have hterms : (softValues s).spinTerms =
      s.limits.abs.toList ++ [s.spin.blindCeiling] ++ (if s.trip.latch then [0] else []) := by
    simp [State.spinTerms, softValues, Estimator.reset, State.sessionTerm, Session.reset]
    rfl
  rw [State.spinCeiling, hterms]
  cases s.trip.latch <;> cases s.limits.abs <;> simp <;> omega

theorem softValues_agitateCeiling (s : State) :
    (softValues s).agitateCeiling =
      if s.trip.latch then 0 else (match s.limits.abs with
        | some a => min a s.spin.agitateLimit
        | none => s.spin.agitateLimit) := by
  unfold State.agitateCeiling
  cases hlatch : s.trip.latch <;> cases habs : s.limits.abs <;> simp [softValues, hlatch, habs, min_comm]

/-- R139 to R141: as SOFT RESET completes no cause but STRIKE is true. -/
theorem softBase_other_causes {s : State} (hretain : 0 < s.spin.retainSpeed) {c : Cause} (hc : c ≠ .strike) :
    (softBase s).causeHolds c = false := by
  have hspeed := softBase_speed s
  rw [softBase_eq] at hspeed ⊢
  cases c with
  | strike => exact absurd rfl hc
  | lid =>
    simp only [State.causeHolds, State.speedAtLeast, hspeed]
    have hslow : decide (s.spin.retainSpeed ≤ (0 : Int).natAbs) = false := by
      simpa using Nat.pos_iff_ne_zero.mp hretain
    exact (congrArg _ hslow).trans (Bool.and_false _)
  | mass => rfl
  | overspeed => rfl
  | drive => rfl

theorem Kind.number_surjective (n : Fin 16) : ∃ k : Kind, k.number = n := by
  have h : ∀ n : Fin 16, ∃ k ∈ allKinds, k.number = n := by decide
  obtain ⟨k, -, hk⟩ := h n
  exact ⟨k, hk⟩

/-- R148: the live values as SOFT RESET completes. -/
theorem softBase_live (s : State) (k : Kind) : (softBase s).events.live.getLsbD k.number.val =
    (match k with
      | .ringFull => s.ring.contents.toList.any (fun g => g == s.spin.chamberCap)
      | .trip => s.trip.latch
      | .lidOpen => !s.lid.raw
      | .strike => s.strike.raw
      | _ => false) := by
  rw [softBase_eq]
  exact (liveWord_eq (softJudged s) k).trans (by cases k <;> rfl)

theorem softBase_bleed {s : State} (hretain : 0 < s.spin.retainSpeed) : (softBase s).ring.bleed = some s.now := by
  have hbelow : (composeSilently (softValues s)).speedBelow s.spin.retainSpeed = true := by
    simp [State.speedBelow, show (composeSilently (softValues s)).speed = some 0 from rfl, hretain]
  rw [softBase_eq]
  simp only [softJudged, judgeBleed]
  rw [if_pos (by exact hbelow)]
  rfl

theorem softBase_ring {s : State} (hretain : 0 < s.spin.retainSpeed) :
    (softBase s).ring =
      { contents := s.ring.contents, available := s.ring.available, lead := s.ring.lead
        strayCount := 0, strayTime := 0, bleed := some s.now, valve := false
        ctx := if s.ring.ctx.state = .active then
            { s.ring.ctx with
              outcome := .aborted, endTime := s.now
              state := if s.spin.flowTail = 0 then .closed else .tail }
          else s.ring.ctx } := by
  have hbleed := softBase_bleed hretain
  rw [softBase_eq] at hbleed ⊢
  simp only [softJudged, judgeBleed] at hbleed ⊢
  rw [hbleed]
  rfl

theorem retainSpeed_pos {p : SpinSettings} (h : spinInRange p = true) : 0 < p.retainSpeed := by
  have hretain : 30 ≤ p.retainSpeed ∧ p.retainSpeed ≤ 200 := ((spinInRange_iff p).mp h).1 2 (by decide)
  omega

theorem blindCeiling_le {p : SpinSettings} (h : spinInRange p = true) : p.blindCeiling ≤ 300 :=
  (((spinInRange_iff p).mp h).1 0 (by decide)).2

theorem tripRamp_ne_one {p : SpinSettings} (h : spinInRange p = true) : p.tripRamp ≠ 1 := by
  have hramp : 100 ≤ p.tripRamp ∧ p.tripRamp ≤ 2000 := ((spinInRange_iff p).mp h).1 20 (by decide)
  omega

/-! ### The response and the events -/

/-- R159, R169: on a Port C just reset a response leaves first, with sequence 0. -/
theorem joinLocal_reset (now : Time) (f : QFrame) :
    PortC.joinLocal now f PortC.reset =
      { PortC.reset with
        seq := 1, mark := .localQ, sending := some { bytes := frameBytes f.cls 0 f.payload, start := now } } := rfl

theorem exec_softReset {s : State} {r : Request} {rest : List Request} (hheld : s.held = false)
    (hr : s.requests = r :: rest) (hop : r.op = 9) (hroom : s.portC.localQ.length < 4) (m : Moment) :
    exec (.softReset m) s = .next (runSoftReset m.choice r { tick m s with requests := rest }) :=
  happen_execute m _ hheld hr (by simp [hop]) hroom

theorem runSoftReset_portC {r : Request} (hop : r.op = 9) (hdata : r.data = []) (ch : Choice) (s : State) :
    (runSoftReset ch r s).portC = { PortC.reset with
      seq := 1, mark := .localQ
      sending := some { bytes := frameBytes 0x3D 0 [r.tag, 9, 0, r.object], start := s.now } } := by
  have hinputs : SameInputs (softBase s) (softReset ch s) := (judgeCauses_effects ch allCauses _).sameInputs
  have hnow : (softReset ch s).now = s.now := by rw [hinputs.now, softBase_eq]; rfl
  rw [runSoftReset, if_neg (by simp [hdata]), respond_portC]
  dsimp only
  rw [softReset_portC, joinLocal_reset, hnow]
  simp only [responseFrame, responsePayload, hop]
  rfl

/-- R153: with no attention enable set ATTN is not asserted, whatever latches. -/
def AttnQuiet (s : State) : Prop := s.events.attention = 0 ∧ s.events.attn = false

theorem latchKind_attnQuiet {s : State} (h : AttnQuiet s) (k : Kind) : AttnQuiet (latchKind k s) := by
  obtain ⟨hattention, -⟩ := h
  refine ⟨hattention, ?_⟩
  simp [Events.latched, hattention]

theorem judgeLive_attnQuiet {s : State} (h : AttnQuiet s) (k : Kind) : AttnQuiet (judgeLive k s) := by
  rcases offerLive_cases k (s.condition k) s with ⟨-, heq⟩ | ⟨-, heq⟩
  · rw [judgeLive, heq]; exact h
  · rw [judgeLive, heq]
    split
    · exact latchKind_attnQuiet (by exact h) k
    · exact h

theorem attnQuiet_portDFree : PortDFree AttnQuiet where
  queue _ _ h := h
  sent _ _ _ h := h
  offer _ h := judgeLive_attnQuiet h _

theorem Effect.attnQuiet {s t : State} (h : Effect s t) (hs : AttnQuiet s) : AttnQuiet t := by
  cases h with
  | latch k => exact latchKind_attnQuiet hs k
  | compose => exact attnQuiet_portDFree.recompose (fun _ _ h => h) hs
  | restate => exact attnQuiet_portDFree.queueRestated hs
  | _ => exact hs

theorem Effects.attnQuiet {s t : State} (h : Effects s t) (hs : AttnQuiet s) : AttnQuiet t :=
  h.keeps (fun _ _ => Effect.attnQuiet) hs

/-! ### The statement -/

/-- R169: with STRIKE low the trip unit's part moves nothing. -/
theorem softReset_strike_low {s : State} (hstrike : s.strike.raw = false) (hspin : spinInRange s.spin = true)
    (ch : Choice) : softReset ch s = softBase s :=
  judgeCauses_strike_low (by rw [softBase_eq]; exact hstrike)
    (fun _ hc => softBase_other_causes (retainSpeed_pos hspin) hc) ch _

/-- R143, R169: a latch kept set takes STRIKE into its cause set. -/
theorem softReset_strike_joins {s : State} (hstrike : s.strike.raw = true) (hspin : spinInRange s.spin = true)
    (hlatch : s.trip.latch = true) (ch : Choice) : softReset ch s = addCause .strike (softBase s) := by
  have hcause : (softBase s).causeHolds .strike = true := by rw [softBase_eq]; exact hstrike
  have hset := judgeCause_set hcause (by rw [softBase_eq]; exact hlatch) ch
  have hothers : ∀ c, c ≠ .strike → (softBase s).causeHolds c = false := fun _ hc =>
    softBase_other_causes (retainSpeed_pos hspin) hc
  rw [softReset_eq, ← hset]
  refine judgeCauses_only ch (by decide) (by decide) (fun c _ hc => hothers c hc) fun c _ hc => ?_
  rw [hset, ← hothers c hc]
  cases c <;> rfl

/-- R138, R169: a clear latch is set by STRIKE. -/
theorem softReset_strike_trips {s : State} (hstrike : s.strike.raw = true) (hspin : spinInRange s.spin = true)
    (hlatch : s.trip.latch = false) (ch : Choice) : softReset ch s = setTrip ch .strike (softBase s) :=
  judgeCauses_strike_high (by rw [softBase_eq]; exact hstrike)
    (fun _ hc => softBase_other_causes (retainSpeed_pos hspin) hc) (by rw [softBase_eq]; exact hlatch)
    (by rw [softBase_eq]; rfl) ch

theorem softReset_effects (ch : Choice) (s : State) : Effects (softBase s) (softReset ch s) := judgeCauses_effects _ _ _

/-- R148, R169: with STRIKE high its live value and that of TRIP are set as the reset completes, and ATTN is not
asserted. -/
theorem softReset_strike_events {s : State} (hstrike : s.strike.raw = true) (hspin : spinInRange s.spin = true)
    (ch : Choice) :
    (softReset ch s).events.live.getLsbD 13 = true ∧ (softReset ch s).events.live.getLsbD 11 = true ∧
      (softReset ch s).events.attn = false := by
  have hquiet : AttnQuiet (softBase s) := by rw [softBase_eq]; exact ⟨rfl, rfl⟩
  refine ⟨?_, ?_, ((softReset_effects ch s).attnQuiet hquiet).2⟩
  · exact ((judgeCauses_kinds ch allCauses (softBase s)).live .strike (by decide)).trans
      ((softBase_live s .strike).trans hstrike)
  · cases hlatch : s.trip.latch with
    | true =>
      rw [softReset_strike_joins hstrike hspin hlatch]
      exact (softBase_live s .trip).trans hlatch
    | false =>
      rw [softReset_strike_trips hstrike hspin hlatch]
      exact setTrip_live _ _ _

/-- R138, R142, R143: what SOFT RESET with STRIKE high leaves, the latch kept set or set by it. -/
theorem softReset_strike_stopped {s : State} (hstrike : s.strike.raw = true) (hspin : spinInRange s.spin = true)
    (ch : Choice) :
    (softReset ch s).session.state = .tripped ∧ (softReset ch s).gov.spin = 0 ∧ (softReset ch s).gov.agitate = 0 ∧
      (softReset ch s).ring.valve = false := by
  have hring := softBase_ring (s := s) (retainSpeed_pos hspin)
  cases hlatch : s.trip.latch with
  | true =>
    have hspinCeiling := softValues_spinCeiling (s := s) ((blindCeiling_le hspin).trans (by decide))
    have hagitate := softValues_agitateCeiling s
    rw [softReset_strike_joins hstrike hspin hlatch]
    rw [softBase_eq] at hring ⊢
    rw [hlatch] at hspinCeiling hagitate
    refine ⟨?_, hspinCeiling, hagitate, congrArg Ring.valve hring⟩
    simp [addCause, hlatch]
  | false =>
    rw [softReset_strike_trips hstrike hspin hlatch]
    obtain ⟨-, -, -, hsession, hring', hstopped⟩ := setTrip_trippedBy ch .strike (softBase s)
    refine ⟨by rw [hsession], hstopped.spin, hstopped.agitate, ?_⟩
    rw [hring']
    exact ringAbort_valve fun _ => congrArg Ring.valve hring

theorem runSoftReset_eq {r : Request} (hdata : r.data = []) (ch : Choice) (s : State) :
    runSoftReset ch r s = { softReset ch s with portC := (runSoftReset ch r s).portC } := by
  rw [runSoftReset, if_neg (by simp [hdata]), respond_portC]

/-- Settles O7: SOFT RESET with STRIKE low and high, and with data. -/
theorem softReset_spec : Obligations.SoftReset := by
  refine ⟨fun m s r rest hheld hr hop hdata hroom hstrike hspin => ?_,
    fun m s r rest hheld hr hop hdata hroom hstrike hspin => ?_,
    fun m s r rest hheld hr hop hdata hroom hbusy => ?_⟩
  · refine ⟨_, exec_softReset hheld hr hop hroom m, ?_⟩
    have hport := runSoftReset_portC hop hdata m.choice { tick m s with requests := rest }
    have hrun := runSoftReset_eq hdata m.choice { tick m s with requests := rest }
    rw [softReset_strike_low (s := { tick m s with requests := rest }) hstrike hspin] at hrun
    have hring := softBase_ring (s := { tick m s with requests := rest }) (retainSpeed_pos hspin)
    have hlive := softBase_live { tick m s with requests := rest }
    have hspinCeiling := softValues_spinCeiling (s := { tick m s with requests := rest })
      ((blindCeiling_le hspin).trans (by decide))
    have hagitate := softValues_agitateCeiling { tick m s with requests := rest }
    rw [softBase_eq] at hrun hring hlive
    generalize runSoftReset m.choice r { tick m s with requests := rest } = t at hrun hport
    generalize t.portC = p at hrun hport
    subst hrun hport
    refine ⟨rfl, rfl, rfl, rfl, rfl, rfl, rfl, rfl, rfl, rfl, rfl, rfl, rfl, rfl, rfl, ?_, rfl, rfl, rfl, rfl, rfl, rfl,
      ?_, rfl, fun k => ?_, rfl, rfl, rfl, rfl, rfl, hring, rfl⟩
    · exact congrArg (fun level => { s.strike with debounced := level, pending := false }) hstrike
    · exact congrArg₂ (fun spin agitate => ({ eHeld := 0, eNew := 0, rise := 0, spin, agitate } : Governor)) hspinCeiling
        hagitate
    · obtain ⟨kind, rfl⟩ := Kind.number_surjective k
      refine (hlive kind).trans ?_
      cases kind with
      | strike => exact hstrike
      | _ => rfl
  · refine ⟨_, exec_softReset hheld hr hop hroom m, ?_⟩
    have hport := runSoftReset_portC hop hdata m.choice { tick m s with requests := rest }
    have hrun := runSoftReset_eq hdata m.choice { tick m s with requests := rest }
    obtain ⟨hstrikeLive, htripLive, hattn⟩ :=
      softReset_strike_events (s := { tick m s with requests := rest }) hstrike hspin m.choice
    obtain ⟨hsession, hceiling, hagitate, hvalve⟩ :=
      softReset_strike_stopped (s := { tick m s with requests := rest }) hstrike hspin m.choice
    have hinputs := (softReset_effects m.choice { tick m s with requests := rest }).sameInputs
    have htripped : s.trip.latch = false → TrippedBy .strike (softBase { tick m s with requests := rest })
        (softReset m.choice { tick m s with requests := rest }) := fun hlatch => by
      rw [softReset_strike_trips (s := { tick m s with requests := rest }) hstrike hspin hlatch]
      exact setTrip_trippedBy _ _ _
    refine ⟨hport, ?_, ?_, ?_, ?_, ?_, ?_, ?_, ?_, fun hlatch => ?_, fun hlatch => ?_⟩ <;> rw [hrun]
    · rw [hinputs.strike, softBase_eq]
      exact congrArg (fun level => { s.strike with debounced := level, pending := false }) hstrike
    · exact hstrikeLive
    · exact htripLive
    · exact hattn
    · exact hsession
    · exact hceiling
    · exact hagitate
    · exact hvalve
    · rw [softReset_strike_joins (s := { tick m s with requests := rest }) hstrike hspin hlatch, softBase_eq]
      exact ⟨congrArg (fun line => { s.trip with line := line, causes := s.trip.causes.add .strike }) hlatch, rfl⟩
    · obtain ⟨-, -, htrip, -, -, -⟩ := htripped hlatch
      rw [softReset_strike_trips (s := { tick m s with requests := rest }) hstrike hspin hlatch] at htrip ⊢
      have hportD := setTrip_portD_reset (s := softBase { tick m s with requests := rest }) (by rw [softBase_eq]; rfl)
        (by rw [softBase_eq]; rfl) (by rw [softBase_eq]; exact (by decide : Weighing.reset.state ≠ .armed))
        (by rw [softBase_eq]; exact tripRamp_ne_one hspin) m.choice .strike
      refine ⟨htrip.trans ?_, hportD.trans ?_⟩
      · rw [softBase_eq]; rfl
      · rw [softBase_eq]; rfl
  · refine ⟨_, exec_softReset hheld hr hop hroom m, ?_⟩
    rw [runSoftReset, if_pos hdata, respond_taken_busy hbusy, responseFrame, hop]
    rfl

end Sys2Proof.Machine
end


section
/-! SUPPORT. READ: its status, the elements of the objects of Table 10-2, and the statement of it. -/

namespace Sys2Proof.Machine
open Sys2Proof.Safety

/-! ### The status -/

/-- R163: the front request of READ is run at its moment. -/
theorem exec_read {s : State} {r : Request} {rest : List Request} (m : Moment) (hheld : s.held = false)
    (hr : s.requests = r :: rest) (hop : r.op = 1) (hroom : s.portC.localQ.length < 4) :
    exec (.read m) s = .next (runRead r { tick m s with requests := rest }) :=
  happen_execute m runRead hheld hr (by simp [hop]) hroom

/-- R160, R163: the first failure of a READ in order, or 0. -/
theorem readStatusOf_eq (r : Request) :
    readStatusOf r =
      (let n := (r.words.getD 0 0).toNat
       if objectSize r.object = none then 3 else if r.data.length ≠ 2 ∨ n = 0 ∨ 10 < n then 5
       else if (objectSize r.object).getD 0 < r.index.toNat + n then 4 else 0) := by
  have hbad : (!r.hasWords 1 || r.wanted == 0 || decide (10 < r.wanted)) = true ↔
      r.data.length ≠ 2 ∨ r.wanted = 0 ∨ 10 < r.wanted := by simp [Request.hasWords, or_assoc]
  unfold readStatusOf
  cases hsize : objectSize r.object with
  | none => rfl
  | some size => simp only [hbad]; rfl

/-! ### The elements of the larger objects -/

theorem Correction.words_length (c : Correction) : c.words.length = 6 := rfl

theorem Progress.words_length (p : Progress) : p.words.length = 3 := rfl

theorem correctionWords_length (cs : List Correction) : (cs.flatMap Correction.words).length = 6 * cs.length := by
  rw [List.length_flatMap]
  simp [Correction.words_length, mul_comm]

/-- The records of a list stand one after the other, six elements each. -/
theorem correctionWords_record {cs : List Correction} {k : Nat} {x : Correction} (h : cs[k]? = some x) (tail : List Word) :
    ((cs.flatMap Correction.words ++ tail).drop (6 * k)).take 6 = x.words := by
  induction cs generalizing k with
  | nil => simp at h
  | cons c cs ih =>
    cases k with
    | zero => cases h; rfl
    | succ k =>
      rw [List.flatMap_cons, List.append_assoc, show 6 * (k + 1) = c.words.length + 6 * k by
        rw [Correction.words_length]; omega, List.drop_length_add_append]
      exact ih h

/-- R96: the first 22 elements of object 0x52. -/
def Session.headWords (x : Session) : List Word :=
  [x.state.code.setWidth 16, uWord ((x.failed.map Fin.val).getD 255), uWord x.dwell, uWord x.settle] ++
    x.progress.toList.flatMap Progress.words

/-- R109: the elements of object 0x52 from the 25th on. -/
def Session.listWords (x : Session) : List Word :=
  x.corrections.flatMap Correction.words ++ List.replicate (48 - 6 * x.corrections.length) 0

theorem Vector.toList_six {α : Type} (v : Vector α 6) : v.toList = [v[0], v[1], v[2], v[3], v[4], v[5]] := by
  apply List.ext_getElem <;> simp
  intro i hi
  interval_cases i <;> rfl

theorem Session.headWords_eq (x : Session) :
    x.headWords =
      [x.state.code.setWidth 16, uWord ((x.failed.map Fin.val).getD 255), uWord x.dwell, uWord x.settle] ++
        (x.progress[0].words ++ x.progress[1].words ++ x.progress[2].words ++ x.progress[3].words ++
          x.progress[4].words ++ x.progress[5].words) := by
  simp [headWords, Vector.toList_six]

theorem Session.headWords_length (x : Session) : x.headWords.length = 22 := by
  rw [headWords_eq]; rfl

theorem Session.words_eq (x : Session) :
    x.words = x.headWords ++ ([uWord x.redist, uWord x.corrections.length] ++ x.listWords) := by
  simp [words, headWords, listWords]

theorem Session.words_drop_list (x : Session) (n : Nat) : x.words.drop (24 + n) = x.listWords.drop n := by
  rw [words_eq, ← List.append_assoc]
  have hlength : (x.headWords ++ [uWord x.redist, uWord x.corrections.length]).length = 24 := by
    simp [headWords_length]
  conv_lhs => rw [← hlength]
  exact List.drop_length_add_append ..

theorem Session.listWords_length {x : Session} (h : x.corrections.length ≤ 8) : x.listWords.length = 48 := by
  rw [listWords, List.length_append, correctionWords_length, List.length_replicate]
  omega

theorem Session.words_length {x : Session} (h : x.corrections.length ≤ 8) : x.words.length = 72 := by
  simp [words_eq, headWords_length, listWords_length h]

theorem Session.words_beyond {x : Session} {k : Nat} (h : x.corrections.length ≤ 8)
    (hlow : 24 + 6 * x.corrections.length ≤ k) (hhigh : k < 72) : x.words[k]? = some 0 := by
  obtain ⟨j, rfl⟩ : ∃ j, k = 24 + j := ⟨k - 24, by omega⟩
  have hlist : x.words[24 + j]? = x.listWords[j]? := by
    rw [← List.getElem?_drop (xs := x.words) (i := 24) (j := j)]
    exact congrArg (·[j]?) (by simpa using x.words_drop_list 0)
  rw [hlist, listWords, List.getElem?_append_right (by rw [correctionWords_length]; omega), correctionWords_length,
    List.getElem?_replicate, if_pos (by omega)]

/-- R8, Table 1-14: the classes without a fixed entry. -/
theorem fixedAction_ordinary (port : Port) (k : Fin 64) (h : k.val ∉ [0x11, 0x31, 0x3C, 0x3D, 0x3E, 0x3F]) :
    fixedAction port (BitVec.ofNat 6 k.val) = none := by
  revert k
  cases port <;> decide

theorem classWord_ordinary (s : State) (k : Fin 64) (h : k.val ∉ [0x11, 0x31, 0x3C, 0x3D, 0x3E, 0x3F]) :
    s.classWord k.val = s.classTable[k].atD.code ++ s.classTable[k].atC.code := by
  have hlook : look s.classTable (BitVec.ofNat 6 k.val).toNat { atC := .pass, atD := .pass } = s.classTable[k] := by
    have : (BitVec.ofNat 6 k.val).toNat = k.val := by simp
    rw [this]
    simp [look, k.isLt]
  simp only [State.classWord, State.action, fixedAction_ordinary _ k h, hlook]
  cases s.classTable[k].atD <;> cases s.classTable[k].atC <;> rfl

theorem classWord_fixed (s : State) {k : Nat} {atD atC : Action} (hd : fixedAction .d (BitVec.ofNat 6 k) = some atD)
    (hc : fixedAction .c (BitVec.ofNat 6 k) = some atC) : s.classWord k = actionCode atD ++ actionCode atC := by
  simp only [State.classWord, State.action, hd, hc]

/-- R145, R146: the condition word is the mask of the causes with bit 0 for the speed. -/
theorem conditionsWord_eq (s : State) :
    s.conditionsWord =
      uWord ((if s.causeHolds .strike then 2 else 0) + (if s.causeHolds .lid then 4 else 0) +
        (if s.causeHolds .mass then 8 else 0) + (if s.causeHolds .overspeed then 16 else 0) +
        (if s.causeHolds .drive then 32 else 0)) + (if s.speedBelow s.spin.retainSpeed then 0 else 1) := by
  have hone : (if s.speedBelow s.spin.retainSpeed then 0 else 1 : Word) =
      uWord (if s.speedBarsClear then 1 else 0) := by
    rw [State.speedBarsClear]
    cases s.speedBelow s.spin.retainSpeed <;> rfl
  rw [hone, uWord, uWord, ← BitVec.ofNat_add, State.conditionsWord, uWord]
  congr 1
  omega

/-! ### The statement -/

/-- Table 10-2: the objects. -/
def objectList : List Byte :=
  [0x01, 0x10, 0x11, 0x12, 0x13, 0x14, 0x15, 0x20, 0x21, 0x30, 0x40, 0x50, 0x51, 0x52, 0x53, 0x60]

theorem objectSize_unknown {o : Byte} (h : o ∉ objectList) : objectSize o = none := by
  revert o
  decide +kernel

theorem objectWords_unknown {o : Byte} (h : o ∉ objectList) (s : State) : s.objectWords o = [] := by
  simp only [objectList, List.mem_cons, List.not_mem_nil, or_false, not_or] at h
  obtain ⟨h01, h10, h11, h12, h13, h14, h15, h20, h21, h30, h40, h50, h51, h52, h53, h60⟩ := h
  rw [State.objectWords, if_neg h01, if_neg h10, if_neg h11, if_neg h12, if_neg h13, if_neg h14, if_neg h15, if_neg h20,
    if_neg h21, if_neg h30, if_neg h40, if_neg h50, if_neg h51, if_neg h52, if_neg h53, if_neg h60]

theorem events_words_length (e : Events) : e.words.length = 21 := by
  simp [Events.words]

theorem Ring.words_length (r : Ring) : r.words.length = 18 := by
  simp [Ring.words]

theorem events_words_count (e : Events) (k : Fin 16) : e.words[5 + k.val]? = some (uWord (e.counts[k]).toNat) := by
  have hcount : e.words[5 + k.val]? = (e.counts.toList.map fun c => c.setWidth 16)[k.val]? :=
    (List.getElem?_drop (xs := e.words) (i := 5)).symm
  rw [hcount, List.getElem?_map, Vector.getElem?_toList, Vector.getElem?_eq_getElem k.isLt, uWord,
    BitVec.ofNat_toNat]
  rfl

/-- Table 10-2: the elements of the class table. -/
theorem objectWords_class (s : State) {k : Nat} (h : k < 64) : (s.objectWords 0x01)[k]? = some (s.classWord k) := by
  change ((List.range 64).map s.classWord)[k]? = _
  rw [List.getElem?_map, List.getElem?_range h]
  rfl

theorem Ring.words_eq (r : Ring) :
    r.words =
      [uWord r.contents[0], uWord r.contents[1], uWord r.contents[2], uWord r.contents[3], markWord r.available,
        uWord r.ctx.state.code, uWord r.ctx.chamber.val, uWord r.ctx.requested, uWord r.ctx.credited,
        uWord r.ctx.tailCredited, timeHigh r.ctx.start, timeLow r.ctx.start, timeHigh r.ctx.lastPulse,
        timeLow r.ctx.lastPulse, timeHigh r.ctx.endTime, timeLow r.ctx.endTime, uWord r.ctx.outcome.code,
        uWord r.strayCount] := by
  have hcontents : r.contents.toList = [r.contents[0], r.contents[1], r.contents[2], r.contents[3]] := by
    apply List.ext_getElem <;> simp
    intro i hi
    interval_cases i <;> rfl
  rw [Ring.words, hcontents]
  rfl

/-- R96: the marks, the attempts and the last U of a plateau's entry. -/
theorem Session.words_progress (x : Session) (e : Fin 6) :
    (x.words.drop (4 + 3 * e.val)).take 3 = x.progress[e].words := by
  rw [Session.words_eq, Session.headWords_eq]
  fin_cases e <;> rfl

/-- R109: a record of the list is six elements. -/
theorem Session.words_correction (x : Session) {k : Nat} {c : Correction} (h : x.corrections[k]? = some c) :
    (x.words.drop (24 + 6 * k)).take 6 = c.words := by
  rw [Session.words_drop_list]
  exact correctionWords_record h _

/-- R162: every object holds so many elements as Table 10-2 says. -/
theorem objectWords_length (s : State) (o : Byte) (h : s.session.corrections.length ≤ 8) :
    (s.objectWords o).length = (objectSize o).getD 0 := by
  by_cases ho : o ∈ objectList
  · simp only [objectList, List.mem_cons, List.not_mem_nil, or_false] at ho
    obtain rfl | rfl | rfl | rfl | rfl | rfl | rfl | rfl | rfl | rfl | rfl | rfl | rfl | rfl | rfl | rfl := ho
    case inr.inr.inr.inr.inr.inr.inr.inr.inr.inr.inr.inr.inr.inl => exact Session.words_length h
    case inl => exact (List.length_map _).trans List.length_range
    case inr.inl | inr.inr.inl | inr.inr.inr.inl | inr.inr.inr.inr.inl | inr.inr.inr.inr.inr.inl |
        inr.inr.inr.inr.inr.inr.inl => exact (List.length_map _).trans (Vector.length_toList ..)
    case inr.inr.inr.inr.inr.inr.inr.inr.inr.inr.inl => exact events_words_length s.events
    case inr.inr.inr.inr.inr.inr.inr.inr.inr.inr.inr.inr.inl => exact Ring.words_length s.ring
    all_goals rfl
  · rw [objectWords_unknown ho, objectSize_unknown ho]
    rfl

/-- Settles O45: the status and the frame of an answer, and every object's elements written out. -/
theorem readAnswered : Obligations.ReadAnswered := by
  refine ⟨fun m s r rest hheld hr hop hroom hbusy => ?_, by decide +kernel, objectWords_length, fun s => ?_⟩
  · refine ⟨_, exec_read m hheld hr hop hroom, ?_⟩
    unfold runRead
    rw [respond_taken_busy hbusy, readStatusOf_eq, responseFrame, responsePayload, hop]
    rfl
  · refine ⟨fun k hk => ?_, ?_, (List.length_map _).trans List.length_range, rfl, rfl, rfl, rfl, rfl, rfl, rfl, ?_, rfl, rfl,
      events_words_length s.events, fun k => events_words_count s.events k, ?_, ?_, ?_, fun e => ?_, ?_, fun k x hx => ?_,
      fun h => ⟨Session.words_length h, fun k hlow hhigh => Session.words_beyond h hlow hhigh⟩, ?_, rfl⟩
    · rw [objectWords_class s k.isLt, classWord_ordinary s k hk]
      cases s.classTable[k].atD <;> cases s.classTable[k].atC <;> rfl
    · simp only [List.map_cons, List.map_nil, objectWords_class s (k := 0x11) (by decide),
        objectWords_class s (k := 0x31) (by decide), objectWords_class s (k := 0x3C) (by decide),
        objectWords_class s (k := 0x3D) (by decide), objectWords_class s (k := 0x3E) (by decide),
        objectWords_class s (k := 0x3F) (by decide),
        classWord_fixed s (k := 0x11) (atD := .drop) (atC := .govern) (by decide) (by decide),
        classWord_fixed s (k := 0x31) (atD := .inspect) (atC := .drop) (by decide) (by decide),
        classWord_fixed s (k := 0x3C) (atD := .drop) (atC := .consume) (by decide) (by decide),
        classWord_fixed s (k := 0x3D) (atD := .drop) (atC := .drop) (by decide) (by decide),
        classWord_fixed s (k := 0x3E) (atD := .drop) (atC := .drop) (by decide) (by decide),
        classWord_fixed s (k := 0x3F) (atD := .drop) (atC := .drop) (by decide) (by decide)]
      decide
    · change s.serviceWords = _
      unfold State.serviceWords
      cases s.monitor.source <;> rfl
    · change s.estimateWords = _
      rw [State.estimateWords, ← BitVec.ofNat_toNat]
      cases s.tracker.state <;> cases s.est.state <;> cases s.weigh.state <;> rfl
    · change s.ring.words = _
      rw [Ring.words_eq]
      cases s.ring.ctx.state <;> cases s.ring.ctx.outcome <;> rfl
    · change (s.session.words).take 4 = _
      rw [Session.words_eq, Session.headWords_eq]
      cases s.session.state <;> cases s.session.failed <;> rfl
    · exact Session.words_progress s.session e
    · change ((s.session.words).drop 22).take 2 = _
      rw [Session.words_eq, Session.headWords_eq]
      rfl
    · refine (Session.words_correction s.session hx).trans ?_
      unfold Correction.words
      cases x.outcome <;> rfl
    · change s.tripWords = _
      rw [State.tripWords, conditionsWord_eq]
      rcases s.trip.first with _ | (_ | _ | _ | _ | _) <;> cases s.trip.source <;> rfl

end Sys2Proof.Machine
end


section
/-! SUPPORT. Frames disposed of by DROP and PASS: a transmitting Port C, the drop at a full queue, and the statement of them. -/

namespace Sys2Proof.Machine
open Sys2Proof.Safety

/-! ### A transmitting Port C -/

/-- R14, R16, R18: Port C goes on transmitting as `p` does, with the mark and the forwarded queue of `p`. -/
structure CarriesC (p : PortC) (s : State) : Prop where
  busy : s.portC.sending ≠ none
  sending : s.portC.sending = p.sending
  seq : s.portC.seq = p.seq
  mark : s.portC.mark = p.mark
  forwarded : s.portC.forwardedQ = p.forwardedQ

section

variable {p : PortC} {s t : State}

theorem CarriesC.of_portC (h : CarriesC p s) (hport : t.portC = s.portC := by rfl) : CarriesC p t := by
  constructor <;> rw [hport]
  exacts [h.busy, h.sending, h.seq, h.mark, h.forwarded]

theorem offered_carriesC (h : CarriesC p s) (same : QFrame → Bool) (g : QFrame) (e : Events) :
    CarriesC p { s with events := e, portC := (s.portC.offerLocal same g).kick s.now } := by
  have hbusy : (s.portC.offerLocal same g).sending ≠ none := by simpa using h.busy
  constructor <;> dsimp only <;> rw [PortC.kick_busy hbusy] <;> simp
  exacts [h.busy, h.sending, h.seq, h.mark, h.forwarded]

theorem latchKind_carriesC (h : CarriesC p s) (k : Kind) : CarriesC p (latchKind k s) := by
  unfold latchKind
  split
  · exact offered_carriesC h _ _ _
  · exact h.of_portC

theorem judgeLive_carriesC (h : CarriesC p s) (k : Kind) : CarriesC p (judgeLive k s) := by
  rcases offerLive_cases k (s.condition k) s with ⟨-, heq⟩ | ⟨-, heq⟩
  · rw [judgeLive, heq]; exact h
  · rw [judgeLive, heq]; split
    · exact latchKind_carriesC (h.of_portC) k
    · exact h.of_portC

theorem countSource_carriesC (h : CarriesC p s) (src : Source) : CarriesC p (countSource src s) := by
  unfold countSource
  split
  · exact judgeLive_carriesC (h.of_portC) _
  · exact h

theorem carriesC_portDFree (p : PortC) : PortDFree (CarriesC p) where
  queue _ _ h := h.of_portC
  sent _ _ _ h := h.of_portC
  offer _ h := judgeLive_carriesC h _

theorem Effect.carriesC (h : Effect s t) (hs : CarriesC p s) : CarriesC p t := by
  cases h with
  | latch k => exact latchKind_carriesC hs k
  | report => exact offered_carriesC hs _ _ _
  | compose => exact (carriesC_portDFree p).recompose (fun _ _ h => h.of_portC) hs
  | restate => exact (carriesC_portDFree p).queueRestated hs
  | _ => exact hs.of_portC

/-- R16: while Port C transmits, the effects of the moment leave its forwarded queue alone. -/
theorem Effects.carriesC (h : Effects s t) (hs : CarriesC p s) : CarriesC p t :=
  h.keeps (P := CarriesC p) (fun _ _ => Effect.carriesC) hs

theorem checkSeqD_carriesC (h : CarriesC p s) (seq : Byte) : CarriesC p (checkSeqD seq s) := by
  unfold checkSeqD; dsimp only; split
  · exact countSource_carriesC (h.of_portC) _
  · exact h.of_portC

end

theorem carriesC_self {s : State} (h : s.portC.sending ≠ none) : CarriesC s.portC s := ⟨h, rfl, rfl, rfl, rfl⟩

/-! ### The sequence checks -/

/-- R149, R156: nothing but the monitor counter, the event unit and Port C moves. -/
def CountsOnly (s t : State) : Prop := t = { s with monitor := t.monitor, events := t.events, portC := t.portC }

theorem CountsOnly.refl (s : State) : CountsOnly s s := rfl

theorem CountsOnly.trans {s t u : State} (h₁ : CountsOnly s t) (h₂ : CountsOnly t u) : CountsOnly s u := by
  unfold CountsOnly at *
  rw [h₂, h₁]

theorem countSource_counts (src : Source) (s : State) : CountsOnly s (countSource src s) := by
  apply State.eq_of_fields <;> simp

theorem CountsOnly.listens {s t : State} (h : CountsOnly s t) : ListensOnly s t := by
  unfold CountsOnly at h
  rw [h]
  rfl

theorem checkSeqD_counts (seq : Byte) (s : State) :
    CountsOnly { s with rxD := { lastSeq := seq, armed := true } } (checkSeqD seq s) := by
  unfold checkSeqD; dsimp only; split
  · exact countSource_counts _ _
  · rfl

theorem RxCheck.gap_iff (seq : Byte) (r : RxCheck) : r.gap seq = true ↔ r.armed = true ∧ seq ≠ r.lastSeq + 1 := by
  simp [RxCheck.gap]

/-- R7, R156: a gap is one occurrence, offered to the counter. -/
theorem checkSeqD_monitor (seq : Byte) (s : State) :
    (checkSeqD seq s).monitor = { s.monitor with
      count := if s.monitor.source = .seqGap ∧ s.rxD.armed = true ∧ seq ≠ s.rxD.lastSeq + 1 then
        min 65535 (s.monitor.count + 1) else s.monitor.count } := by
  have hiff := RxCheck.gap_iff seq s.rxD
  unfold checkSeqD
  by_cases hgap : s.rxD.armed = true ∧ seq ≠ s.rxD.lastSeq + 1
  · rw [if_pos (hiff.mpr hgap), countSource_monitor]
    by_cases hsource : s.monitor.source = .seqGap
    · rw [if_pos hsource, if_pos ⟨hsource, hgap⟩]
    · rw [if_neg hsource, if_neg fun h => hsource h.1]
  · rw [if_neg (mt hiff.mp hgap), if_neg fun h => hgap h.2]

/-- R7, R156: a gap is one occurrence, offered to the counter. -/
theorem checkSeqC_monitor_eq (seq : Byte) (s : State) :
    (checkSeqC seq s).monitor = { s.monitor with
      count := if s.monitor.source = .seqGap ∧ s.rxC.armed = true ∧ seq ≠ s.rxC.lastSeq + 1 then
        min 65535 (s.monitor.count + 1) else s.monitor.count } := by
  have hiff := RxCheck.gap_iff seq s.rxC
  unfold checkSeqC
  by_cases hgap : s.rxC.armed = true ∧ seq ≠ s.rxC.lastSeq + 1
  · rw [if_pos (hiff.mpr hgap), countSource_monitor]
    by_cases hsource : s.monitor.source = .seqGap
    · rw [if_pos hsource, if_pos ⟨hsource, hgap⟩]
    · rw [if_neg hsource, if_neg fun h => hsource h.1]
  · rw [if_neg (mt hiff.mp hgap), if_neg fun h => hgap h.2]

/-- R7, R23: whatever the order, the check of Port C counts its gap. -/
theorem hearC_monitor_eq (ch : Choice) (seq : Byte) (s : State) :
    (hearC ch seq s).monitor = { s.monitor with
      count := if s.monitor.source = .seqGap ∧ s.rxC.armed = true ∧ seq ≠ s.rxC.lastSeq + 1 then
        min 65535 (s.monitor.count + 1) else s.monitor.count } := by
  rcases inOrder_pair ch.effects (checkSeqC seq) heardC s with h | h
  · rw [hearC, h, heardC_monitor, checkSeqC_monitor_eq]
  · rw [hearC, h, checkSeqC_monitor_eq, heardC_monitor, heardC_rxC]

theorem checkSeqC_kinds (seq : Byte) (s : State) : KindsStand [.counterSaturated] s (checkSeqC seq s) := by
  unfold checkSeqC; dsimp only; split
  · exact (countSource_kinds _ _).after
  · exact .of_events rfl

theorem checkSeqD_kinds (seq : Byte) (s : State) : KindsStand [.counterSaturated] s (checkSeqD seq s) := by
  unfold checkSeqD; dsimp only; split
  · exact (countSource_kinds _ _).after
  · exact .of_events rfl

theorem hearC_kinds (ch : Choice) (seq : Byte) (s : State) :
    KindsStand [.counterSaturated, .controllerSilent] s (hearC ch seq s) :=
  .inOrder (.refl _ _) fun f hf u => by
    rcases List.mem_pair.mp hf with rfl | rfl
    · exact (checkSeqC_kinds seq u).mono
    · exact ((judgeLive_kinds .controllerSilent _).after).mono

/-- R7: with another source held, the check of Port D moves its record alone. -/
theorem checkSeqD_quiet {seq : Byte} {s : State} (h : s.monitor.source ≠ .seqGap) :
    checkSeqD seq s = { s with rxD := { lastSeq := seq, armed := true } } := by
  unfold checkSeqD countSource
  dsimp only
  rw [if_neg h]
  split <;> rfl

/-! ### A frame dropped -/

/-- R13, R14, R150: in either order QUEUE_OVERFLOW latches once. -/
theorem dropFromQueue_once (ch : Choice) (s : State) : LatchedOnce .queueOverflow s (dropFromQueue ch s) := by
  rcases inOrder_pair ch.drop (latchKind .queueOverflow) (countSource .drops) s with h | h <;> rw [dropFromQueue, h]
  · exact (latchKind_once .queueOverflow s).then_kinds (countSource_kinds .drops _)
  · exact (countSource_kinds .drops s).then_once (latchKind_once .queueOverflow _)

/-- R13, R14, R156: in either order one DROPS is offered. -/
theorem dropFromQueue_monitor (ch : Choice) (s : State) :
    (dropFromQueue ch s).monitor = (countSource .drops s).monitor := by
  rcases inOrder_pair ch.drop (latchKind .queueOverflow) (countSource .drops) s with h | h <;>
    simp [dropFromQueue, h, countSource_monitor]

theorem dropFromQueue_counts (ch : Choice) (s : State) : CountsOnly s (dropFromQueue ch s) :=
  inOrder_keeps (CountsOnly s) (.refl s) fun f hf t ht => ht.trans (by
    rcases List.mem_pair.mp hf with rfl | rfl
    · rfl
    · exact countSource_counts .drops t)

theorem dropFromQueue_carriesC {p : PortC} {s : State} (h : CarriesC p s) (ch : Choice) :
    CarriesC p (dropFromQueue ch s) :=
  inOrder_keeps (CarriesC p) h fun f hf t ht => by
    rcases List.mem_pair.mp hf with rfl | rfl
    · exact latchKind_carriesC ht _
    · exact countSource_carriesC ht _

/-! ### The class table -/

theorem action_congr {s t : State} (h : t.classTable = s.classTable) (port : Port) (cls : Class) :
    t.action port cls = s.action port cls := by
  simp only [State.action, h]

/-- R8: no entry of the class table is GOVERN. -/
theorem ne_speedDemand_of_pass {s : State} {cls : Class} (h : s.action .c cls = .pass) : cls ≠ speedDemandClass := by
  rintro rfl
  exact absurd h (by simp [State.action, show fixedAction .c speedDemandClass = some .govern from rfl])

/-! ### The statement -/

theorem offerForwardedD_busy {s : State} (hbusy : s.portD.sending ≠ none) (hroom : s.portD.forwardedQ.length < 8)
    (ch : Choice) (f : QFrame) :
    offerForwardedD ch f s = { s with portD := { s.portD with forwardedQ := s.portD.forwardedQ ++ [f] } } := by
  rw [offerForwardedD, if_pos (show _ < Config.forwardedCapacity from hroom)]
  exact if_neg (by simpa [Option.isNone_iff_eq_none] using hbusy)

theorem PortD.pick_joined {p : PortD} (hfq : p.forwardedQ = []) (hlq : p.localQ = []) (f : QFrame) :
    PortD.pick { p with forwardedQ := p.forwardedQ ++ [f] } = some (f, p) := by
  obtain ⟨fq, lq, seq, sending⟩ := p
  subst hfq hlq
  rfl

/-- R16: on an idle Port D with nothing waiting a frame that is no SPEED DEMAND leaves as it is. -/
theorem offerForwardedD_idle {s : State} (hidle : s.portD.sending = none) (hfq : s.portD.forwardedQ = [])
    (hlq : s.portD.localQ = []) {f : QFrame} (hcls : f.cls ≠ speedDemandClass) (ch : Choice) :
    offerForwardedD ch f s = { s with portD := s.portD.send s.now f.cls f.payload } := by
  have hroom : s.portD.forwardedQ.length < Config.forwardedCapacity := by rw [hfq]; decide
  rw [offerForwardedD, if_pos hroom, kickD, if_pos (by simp [hidle])]
  refine (startD_plain (f := f) (p := s.portD) ?_ hcls).trans rfl
  exact PortD.pick_joined hfq hlq f

theorem offerForwardedD_full {s : State} (h : 8 ≤ s.portD.forwardedQ.length) (ch : Choice) (f : QFrame) :
    offerForwardedD ch f s = dropFromQueue ch s := if_neg (Nat.not_lt.mpr h)

theorem offerForwardedC_room {s : State} {f : QFrame} (hcls : f.cls ≠ driveStatusClass)
    (h : s.portC.forwardedQ.length < 8) (ch : Choice) :
    offerForwardedC ch f s =
      { s with portC := ({ s.portC with forwardedQ := s.portC.forwardedQ ++ [f] }).kick s.now } := by
  rw [offerForwardedC, if_neg (by simp [hcls])]
  exact if_pos h

theorem offerForwardedC_full {s : State} {f : QFrame} (hcls : f.cls ≠ driveStatusClass)
    (h : 8 ≤ s.portC.forwardedQ.length) (ch : Choice) : offerForwardedC ch f s = dropFromQueue ch s := by
  rw [offerForwardedC, if_neg (by simp [hcls])]
  exact if_neg (Nat.not_lt.mpr h)

theorem ne_driveStatus_of_pass {s : State} {cls : Class} (h : s.action .d cls = .pass) : cls ≠ driveStatusClass := by
  rintro rfl
  exact absurd h (by simp [State.action, show fixedAction .d driveStatusClass = some .inspect from rfl])

/-- R9: a frame passed at Port C is offered to the forwarded queue of Port D. -/
theorem portTaken_pass_c {s : State} {cls : Class} (h : s.action .c cls = .pass) (ch : Choice) (seq : Byte)
    (payload : List Byte) :
    portTaken ch .c cls seq payload s = offerForwardedD ch (plainFrame cls payload) (hearC ch seq s) := by
  have haction : (hearC ch seq s).action .c cls = .pass :=
    (action_congr (by rw [hearC_listens ch seq s]) _ _).trans h
  change dispose ch .c cls payload (hearC ch seq s) = _
  simp only [dispose, haction, passFrame]

/-- R9: a frame passed at Port D is offered to the forwarded queue of Port C. -/
theorem portTaken_pass_d {s : State} {cls : Class} (h : s.action .d cls = .pass) (ch : Choice) (seq : Byte)
    (payload : List Byte) :
    portTaken ch .d cls seq payload s = offerForwardedC ch (plainFrame cls payload) (checkSeqD seq s) := by
  have haction : (checkSeqD seq s).action .d cls = .pass :=
    (action_congr (by rw [checkSeqD_listens seq s]) _ _).trans h
  simp only [portTaken, dispose, haction, passFrame]

/-- R9: a frame dropped at Port C is only heard. -/
theorem portTaken_drop_c {s : State} {cls : Class} (h : s.action .c cls = .drop) (ch : Choice) (seq : Byte)
    (payload : List Byte) : portTaken ch .c cls seq payload s = hearC ch seq s := by
  have haction : (hearC ch seq s).action .c cls = .drop :=
    (action_congr (by rw [hearC_listens ch seq s]) _ _).trans h
  change dispose ch .c cls payload (hearC ch seq s) = _
  simp only [dispose, haction]

/-- R9: a frame dropped at Port D passes the sequence check. -/
theorem portTaken_drop_d {s : State} {cls : Class} (h : s.action .d cls = .drop) (ch : Choice) (seq : Byte)
    (payload : List Byte) : portTaken ch .d cls seq payload s = checkSeqD seq s := by
  have haction : (checkSeqD seq s).action .d cls = .drop :=
    (action_congr (by rw [checkSeqD_listens seq s]) _ _).trans h
  simp only [portTaken, dispose, haction]

/-- R6: the state in which a whole good frame of a link is taken. -/
def taking (m : Moment) (link : Link) (n : Nat) (s : State) : State :=
  (tick m s).withFramer link (restFramer (tick m s) n)

@[simp] theorem taking_kept (m : Moment) (link : Link) (n : Nat) (s : State) :
    (taking m link n s).now = s.now + m.elapsed ∧ (taking m link n s).portC = s.portC ∧
      (taking m link n s).portD = s.portD ∧ (taking m link n s).monitor = s.monitor ∧
      (taking m link n s).events = s.events ∧ (taking m link n s).rxC = s.rxC ∧ (taking m link n s).rxD = s.rxD ∧
      (taking m link n s).silence = s.silence ∧ (taking m link n s).classTable = s.classTable := by
  cases link <;> exact ⟨rfl, rfl, rfl, rfl, rfl, rfl, rfl, rfl, rfl⟩

@[simp] theorem taking_action (m : Moment) (link : Link) (n : Nat) (s : State) (port : Port) (cls : Class) :
    (taking m link n s).action port cls = s.action port cls := action_congr (by simp) port cls

theorem exec_frameTaken {s : State} (hheld : s.held = false) (m : Moment) (port : Port) {cls : Class} (seq : Byte)
    {payload : List Byte} (hlength : lengthAllowed cls payload.length = true) :
    happen m (wholeFrame m.choice (portLink port) cls seq payload) s =
      .next (portTaken m.choice port cls seq payload (taking m (portLink port) payload.length s)) := by
  rw [happen_wholeFrame hheld m m.choice _ seq hlength]
  cases port <;> rfl

/-- R16, R18: on an idle Port C with nothing waiting a forwarded frame leaves, and the mark names its queue. -/
theorem PortC.kick_joined {p : PortC} (hidle : p.sending = none) (hfq : p.forwardedQ = []) (hlq : p.localQ = [])
    (now : Time) (f : QFrame) :
    PortC.kick now { p with forwardedQ := p.forwardedQ ++ [f] } =
      { p with
        seq := p.seq + 1, mark := .forwarded
        sending := some { bytes := frameBytes f.cls p.seq f.payload, start := now } } := by
  obtain ⟨fq, lq, seq, sending, mark⟩ := p
  subst hidle hfq hlq
  rfl

/-- R7, R9: what a frame taken at Port D moves when it is dropped or forwarded. -/
theorem frame_of_checkSeqD {s t u : State} {f : Framer} {x : RxCheck} (hs : s = { u with framerD := f })
    (h : CountsOnly { s with rxD := x } t) :
    t = { u with
      framerD := t.framerD, rxD := t.rxD, monitor := t.monitor, events := t.events, portC := t.portC } := by
  subst hs
  unfold CountsOnly at h
  rw [h]

/-- R7, R23: what a frame taken at Port C moves beside Port D. -/
theorem frame_of_hearC {s t u : State} {f : Framer} (hs : s = { u with framerC := f })
    (h : ListensOnly { s with portD := t.portD } t) :
    t = { u with
      framerC := t.framerC, rxC := t.rxC, silence := t.silence, monitor := t.monitor, events := t.events
      portC := t.portC, portD := t.portD } := by
  subst hs
  unfold ListensOnly at h
  rw [h]

/-- R9, R23: a frame dropped at Port C. -/
theorem dropTaken_c {s : State} (m : Moment) (seq : Byte) (n : Nat) :
    (let t := hearC m.choice seq (taking m .portC n s)
     t.rxC = { lastSeq := seq, armed := true } ∧
      t.silence = { s.silence with
        controllerSince := s.now + m.elapsed, controllerSilent := false, orphan := none } ∧
      t.monitor = { s.monitor with
        count := if s.monitor.source = .seqGap ∧ s.rxC.armed = true ∧ seq ≠ s.rxC.lastSeq + 1 then
          min 65535 (s.monitor.count + 1) else s.monitor.count } ∧
      t = { tick m s with
        framerC := t.framerC, rxC := t.rxC, silence := t.silence, monitor := t.monitor, events := t.events
        portC := t.portC }) := by
  refine ⟨hearC_rxC .., by simp [hearC_silence], by simp [hearC_monitor_eq], ?_⟩
  have hframe := hearC_listens m.choice seq (taking m .portC n s)
  unfold ListensOnly at hframe
  rw [hframe]
  rfl

/-- R7, R9: a frame dropped at Port D. -/
theorem dropTaken_d {s : State} (m : Moment) (seq : Byte) (n : Nat) :
    (let t := checkSeqD seq (taking m .portD n s)
     t.rxD = { lastSeq := seq, armed := true } ∧
      t.monitor = { s.monitor with
        count := if s.monitor.source = .seqGap ∧ s.rxD.armed = true ∧ seq ≠ s.rxD.lastSeq + 1 then
          min 65535 (s.monitor.count + 1) else s.monitor.count } ∧
      t = { tick m s with
        framerD := t.framerD, rxD := t.rxD, monitor := t.monitor, events := t.events, portC := t.portC }) :=
  ⟨checkSeqD_rxD .., by simp [checkSeqD_monitor], frame_of_checkSeqD rfl (checkSeqD_counts seq _)⟩

theorem hearC_portD (ch : Choice) (seq : Byte) (s : State) : (hearC ch seq s).portD = s.portD := by
  rw [hearC_listens ch seq s]

theorem hearC_now (ch : Choice) (seq : Byte) (s : State) : (hearC ch seq s).now = s.now := by
  rw [hearC_listens ch seq s]

theorem ListensOnly.withPortD {s t : State} (h : ListensOnly s t) (p : PortD) :
    ListensOnly { s with portD := p } { t with portD := p } := by
  unfold ListensOnly at *
  rw [h]

/-- R14: what a frame offered to Port D moves while the standing demand stands. -/
theorem offerForwardedD_listens {ch : Choice} {f : QFrame} {s : State}
    (h : (offerForwardedD ch f s).standing = s.standing) :
    ListensOnly { s with portD := (offerForwardedD ch f s).portD } (offerForwardedD ch f s) := by
  apply State.eq_of_fields <;> simp [h]

/-- R9, R14, R16: a frame passed at Port C. -/
theorem passTaken_c {s : State} {cls : Class} (hcls : cls ≠ speedDemandClass) (m : Moment) (seq : Byte)
    (payload : List Byte) (n : Nat) :
    (let t := offerForwardedD m.choice (plainFrame cls payload) (hearC m.choice seq (taking m .portC n s))
     (s.portD.sending ≠ none → s.portD.forwardedQ.length < 8 →
        t.portD = { s.portD with
          forwardedQ := s.portD.forwardedQ ++
            [{ cls := cls, payload := payload, changed := false, restated := false }] }) ∧
      (s.portD.sending = none → s.portD.forwardedQ = [] → s.portD.localQ = [] →
        t.portD = { s.portD with
          seq := s.portD.seq + 1
          sending := some { bytes := frameBytes cls s.portD.seq payload, start := s.now + m.elapsed } }) ∧
      (8 ≤ s.portD.forwardedQ.length →
        t.portD = s.portD ∧ t.events.latch.getLsbD 14 = true ∧
          t.events.counts[14] = s.events.counts[14] + 1) ∧
      t.rxC = { lastSeq := seq, armed := true } ∧
      (s.portD.sending ≠ none ∨ (s.portD.localQ = [] ∧ s.portD.forwardedQ = []) ∨ 8 ≤ s.portD.forwardedQ.length →
        t = { tick m s with
          framerC := t.framerC, rxC := t.rxC, silence := t.silence, monitor := t.monitor, events := t.events
          portC := t.portC, portD := t.portD })) := by
  have hlistens := hearC_listens m.choice seq (taking m .portC n s)
  have hrx := hearC_rxC m.choice seq (taking m .portC n s)
  have hkinds := hearC_kinds m.choice seq (taking m .portC n s)
  have hport : (hearC m.choice seq (taking m .portC n s)).portD = s.portD := by simp [hearC_portD]
  have hnow : (hearC m.choice seq (taking m .portC n s)).now = s.now + m.elapsed := by simp [hearC_now]
  generalize hearC m.choice seq (taking m .portC n s) = u at *
  have hbusy (h : s.portD.sending ≠ none) (hroom : s.portD.forwardedQ.length < 8) :=
    offerForwardedD_busy (s := u) (by rwa [hport]) (by rwa [hport]) m.choice (plainFrame cls payload)
  have hidle (h : s.portD.sending = none) (hfq : s.portD.forwardedQ = []) (hlq : s.portD.localQ = []) :=
    offerForwardedD_idle (s := u) (f := plainFrame cls payload) (by rwa [hport]) (by rwa [hport]) (by rwa [hport])
      hcls m.choice
  have hfull (h : 8 ≤ s.portD.forwardedQ.length) :=
    offerForwardedD_full (s := u) (by rwa [hport]) m.choice (plainFrame cls payload)
  have hdrop := dropFromQueue_counts m.choice u
  unfold CountsOnly at hdrop
  refine ⟨fun h hroom => ?_, fun h hfq hlq => ?_, fun h => ?_, ?_, fun h => frame_of_hearC (s := taking m .portC n s) rfl ?_⟩
  · rw [hbusy h hroom, hport]; rfl
  · rw [hidle h hfq hlq, hport, hnow]; rfl
  · rw [hfull h]
    have honce := hkinds.then_once (dropFromQueue_once m.choice u)
    exact ⟨by rw [hdrop, hport], honce.latch, honce.count.trans (by simp [Kind.number])⟩
  · simpa using hrx
  · refine (hlistens.withPortD _).trans (offerForwardedD_listens ?_)
    by_cases hfullQ : 8 ≤ s.portD.forwardedQ.length
    · rw [hfull hfullQ]; simp
    · rcases h with h | ⟨hlq, hfq⟩ | h
      · rw [hbusy h (by omega)]
      · by_cases hsending : s.portD.sending = none
        · rw [hidle hsending hfq hlq]
        · rw [hbusy hsending (by omega)]
      · exact absurd h hfullQ

theorem offerForwardedC_counts (ch : Choice) (f : QFrame) (s : State) : CountsOnly s (offerForwardedC ch f s) := by
  apply State.eq_of_fields <;> simp

/-- R9, R14, R16, R18: a frame passed at Port D. -/
theorem passTaken_d {s : State} {cls : Class} (hcls : cls ≠ driveStatusClass) (m : Moment) (seq : Byte)
    (payload : List Byte) (n : Nat) :
    (let t := offerForwardedC m.choice (plainFrame cls payload) (checkSeqD seq (taking m .portD n s))
     (s.portC.sending ≠ none → s.portC.forwardedQ.length < 8 →
        t.portC.forwardedQ = s.portC.forwardedQ ++
            [{ cls := cls, payload := payload, changed := false, restated := false }] ∧
          t.portC.sending = s.portC.sending ∧ t.portC.seq = s.portC.seq) ∧
      (s.portC.sending = none → s.portC.forwardedQ = [] → s.portC.localQ = [] → s.monitor.source ≠ .seqGap →
        t.portC = { s.portC with
          seq := s.portC.seq + 1, mark := .forwarded
          sending := some { bytes := frameBytes cls s.portC.seq payload, start := s.now + m.elapsed } }) ∧
      (8 ≤ s.portC.forwardedQ.length → s.portC.sending ≠ none →
        t.portC.forwardedQ = s.portC.forwardedQ ∧ t.events.latch.getLsbD 14 = true ∧
          t.events.counts[14] = s.events.counts[14] + 1 ∧
          (s.monitor.source = .drops → t.monitor.count = min 65535 (s.monitor.count + 1))) ∧
      t.rxD = { lastSeq := seq, armed := true } ∧
      t = { tick m s with
        framerD := t.framerD, rxD := t.rxD, monitor := t.monitor, events := t.events, portC := t.portC }) := by
  have hcarries (h : s.portC.sending ≠ none) : CarriesC s.portC (checkSeqD seq (taking m .portD n s)) :=
    checkSeqD_carriesC ((carriesC_self h).of_portC (by simp)) seq
  have hcounts := (checkSeqD_counts seq (taking m .portD n s)).trans
    (offerForwardedC_counts m.choice (plainFrame cls payload) _)
  refine ⟨fun h hroom => ?_, fun h hfq hlq hsource => ?_, fun h hbusy => ?_, ?_, frame_of_checkSeqD rfl hcounts⟩
  · have hu := hcarries h
    rw [offerForwardedC_room hcls (by rwa [hu.forwarded]), PortC.kick_busy (by exact hu.busy)]
    exact ⟨by rw [hu.forwarded]; rfl, hu.sending, hu.seq⟩
  · rw [checkSeqD_quiet (by simpa using hsource), offerForwardedC_room hcls (by simp [hfq])]
    dsimp only
    rw [PortC.kick_joined (by simpa using h) (by simpa using hfq) (by simpa using hlq)]
    simp [plainFrame]
  · have hu := hcarries hbusy
    have honce := (checkSeqD_kinds seq (taking m .portD n s)).then_once (dropFromQueue_once m.choice _)
    rw [offerForwardedC_full hcls (by rwa [hu.forwarded])]
    refine ⟨(dropFromQueue_carriesC hu m.choice).forwarded, honce.latch, honce.count.trans (by simp [Kind.number]),
      fun hsource => ?_⟩
    have hmonitor : (checkSeqD seq (taking m .portD n s)).monitor = s.monitor := by
      simp [checkSeqD_quiet (s := taking m .portD n s) (seq := seq) (by simp [hsource])]
    rw [dropFromQueue_monitor, countSource_monitor, if_pos (by rw [hmonitor, hsource]), hmonitor]
  · simp

/-- Settles O10: a frame dropped is heard alone; a frame passed is offered to the other port's queue with room, leaves an
idle port, or is dropped at a full queue. -/
theorem framesDisposed : Obligations.FramesDisposed := by
  refine ⟨fun m cls seq payload s hheld hlength haction => ?_, fun m cls seq payload s hheld hlength haction => ?_,
    fun m cls seq payload s hheld hlength haction => ?_, fun m cls seq payload s hheld hlength haction => ?_⟩
  · exact ⟨_, (exec_frameTaken hheld m .d seq hlength).trans
      (congrArg _ (portTaken_drop_d ((taking_action ..).trans haction) _ seq payload)), dropTaken_d m seq _⟩
  · exact ⟨_, (exec_frameTaken hheld m .c seq hlength).trans
      (congrArg _ (portTaken_drop_c ((taking_action ..).trans haction) _ seq payload)), dropTaken_c m seq _⟩
  · exact ⟨_, (exec_frameTaken hheld m .c seq hlength).trans
      (congrArg _ (portTaken_pass_c ((taking_action ..).trans haction) _ seq payload)),
      passTaken_c (ne_speedDemand_of_pass haction) m seq payload _⟩
  · exact ⟨_, (exec_frameTaken hheld m .d seq hlength).trans
      (congrArg _ (portTaken_pass_d ((taking_action ..).trans haction) _ seq payload)),
      passTaken_d (ne_driveStatus_of_pass haction) m seq payload _⟩

end Sys2Proof.Machine
end


section
/-! SUPPORT. A SPEED DEMAND taken at Port C: the request that the session controller takes, and the statement of the ending request. -/

namespace Sys2Proof.Machine
open Sys2Proof.Safety

/-! ### The frame -/

/-- Table 1-2: the payload of a SPEED DEMAND from its fields. -/
abbrev demandBytes (target ramp : Sys2Proof.Word) (mode flags : Byte) : List Byte := be16 target ++ be16 ramp ++ [mode, flags]

@[simp] theorem demandTarget_bytes (target ramp : Sys2Proof.Word) (mode flags : Byte) :
    demandTarget (demandBytes target ramp mode flags) = target.toInt :=
  congrArg BitVec.toInt (be16_append target)

@[simp] theorem demandRamp_bytes (target ramp : Sys2Proof.Word) (mode flags : Byte) :
    demandRamp (demandBytes target ramp mode flags) = ramp.toNat :=
  congrArg BitVec.toNat (be16_append ramp)

@[simp] theorem demandMode_bytes (target ramp : Sys2Proof.Word) (mode flags : Byte) :
    demandMode (demandBytes target ramp mode flags) = mode := rfl

@[simp] theorem demandFlags_bytes (target ramp : Sys2Proof.Word) (mode flags : Byte) :
    demandFlags (demandBytes target ramp mode flags) = flags := rfl

@[simp] theorem receivedTarget_bytes (target ramp : Sys2Proof.Word) (mode flags : Byte) :
    receivedTarget (demandBytes target ramp mode flags) = max (-1500) (min 1500 target.toInt) := by
  rw [receivedTarget, demandTarget_bytes, clampInt_eq_max_min (by decide)]

/-- R6, R7, R23: the state in which a SPEED DEMAND is disposed of. -/
def demandHeard (m : Moment) (seq : Byte) (s : State) : State := hearC m.choice seq (taking m .portC 6 s)

/-- R10: a SPEED DEMAND taken is a request and a frame for Port D. -/
theorem exec_speedDemandTaken {s : State} (hheld : s.held = false) (m : Moment) (seq : Byte)
    (target ramp : Sys2Proof.Word) (mode flags : Byte) :
    exec (.speedDemandTaken m seq target ramp mode flags) s =
      .next (governFrame m.choice (demandBytes target ramp mode flags) (demandHeard m seq s)) := by
  refine (exec_frameTaken hheld m .c seq (cls := speedDemandClass) (payload := demandBytes target ramp mode flags)
    rfl).trans (congrArg _ ?_)
  have haction : (demandHeard m seq s).action .c speedDemandClass = .govern := rfl
  change dispose m.choice .c speedDemandClass _ (demandHeard m seq s) = _
  simp only [dispose, haction]

/-! ### The request -/

/-- R10, stage 2: the state in which the session controller acts on the request. -/
def requesting (mode : Byte) (target : Int) (p : PortD) (s : State) : State :=
  { s with portD := p, requested := { mode := mode, target := target } }

/-- R97, R98: what the session controller does with a request. -/
def actOnRequest (ch : Choice) (s : State) : State :=
  if isSpinRequest s.spin.blindCeiling s.requested.mode s.requested.target then spinRequest ch s else endingRequest ch s

theorem takeRequest_eq (ch : Choice) (mode : Byte) (target : Int) (s : State) :
    takeRequest ch mode target s = recompose (actOnRequest ch (requesting mode target s.portD s)) := rfl

/-- R10, R13: beside Port D, the standing demand and the event unit, a SPEED DEMAND does what its request does. -/
theorem governFrame_request (ch : Choice) (payload : List Byte) (s : State) :
    ∃ p : PortD,
      (let t := governFrame ch payload s
       let v := actOnRequest ch (requesting (demandMode payload) (receivedTarget payload) p s)
       t.session = v.session ∧ t.ring = v.ring ∧ t.trip = v.trip ∧ t.weigh = v.weigh ∧ t.loadClass = v.loadClass ∧
        t.requested = v.requested) := by
  unfold governFrame startAfter
  split
  · exact ⟨s.portD, by simp [takeRequest_eq]⟩
  · exact ⟨{ s.portD with sending := some { bytes := [], start := s.now } }, by simp [takeRequest_eq, requesting]⟩

/-- R97: an ending request is every request that is no spin request. -/
theorem isSpinRequest_eq_false {blind : Nat} {mode : Byte} {target : Int} (h : mode ≠ 2 ∨ target ≤ (blind : Int)) :
    isSpinRequest blind mode target = false := by
  unfold isSpinRequest
  rw [Bool.and_eq_false_iff]
  rcases h with hmode | htarget
  · left
    unfold modeOfByte
    split_ifs <;> rfl
  · right
    simpa using htarget

theorem isSpinRequest_eq_true {blind : Nat} {target : Int} (h : (blind : Int) < target) :
    isSpinRequest blind 2 target = true := by
  simp [isSpinRequest, modeOfByte, h]

/-- R10: the state in which a SPEED DEMAND's request is taken has what the request is judged by from the state before. -/
structure RequestFound (m : Moment) (mode : Byte) (target : Int) (s v : State) : Prop where
  now : v.now = s.now + m.elapsed
  requested : v.requested = { mode := mode, target := target }
  drive : v.drive = s.drive
  driveSilent : v.silence.driveSilent = s.silence.driveSilent
  tracker : v.tracker = s.tracker
  est : v.est = s.est
  weigh : v.weigh = s.weigh
  loadClass : v.loadClass = s.loadClass
  gov : v.gov = s.gov
  tables : v.tables = s.tables
  spin : v.spin = s.spin
  limits : v.limits = s.limits
  session : v.session = s.session
  ring : v.ring = (tick m s).ring
  trip : v.trip = s.trip
  requests : v.requests = s.requests

theorem requestFound (m : Moment) (seq mode : Byte) (target : Int) (p : PortD) (s : State) :
    RequestFound m mode target s (requesting mode target p (demandHeard m seq s)) := by
  have hlistens := hearC_listens m.choice seq (taking m .portC 6 s)
  have hsilence : (demandHeard m seq s).silence.driveSilent = s.silence.driveSilent := by
    simp [demandHeard, hearC_silence]
  unfold ListensOnly at hlistens
  rw [← demandHeard] at hlistens
  constructor
  case driveSilent => exact hsilence
  case requested => rfl
  all_goals
    unfold requesting
    dsimp only
    rw [hlistens]
    rfl

namespace RequestFound

variable {m : Moment} {mode : Byte} {target : Int} {s v : State}

theorem indexSpeed (h : RequestFound m mode target s v) : v.indexSpeed = s.indexSpeed := by
  rw [State.indexSpeed, h.tracker]; rfl

theorem speedBelow (h : RequestFound m mode target s v) (n : Nat) : v.speedBelow n = s.speedBelow n := by
  unfold State.speedBelow State.speed State.driveSpeed State.angleValid State.indexSpeed
  rw [h.tracker, h.drive, h.driveSilent]

end RequestFound

/-! ### The ending request -/

/-- R113: the entry to RUNDOWN, before the speed is judged. -/
def rundownEntered (ch : Choice) (s : State) : State := abandonWeighing (setSession ch .rundown (abortCorrection s))

theorem rundownEntered_session (ch : Choice) (s : State) :
    (rundownEntered ch s).session = { (abortCorrection s).session with state := .rundown } := by
  simp [rundownEntered]

theorem rundownEntered_weigh (ch : Choice) (s : State) :
    (rundownEntered ch s).weigh =
      if s.weigh.state = .armed then { s.weigh with state := .failed, j := 0 } else s.weigh := by
  rw [rundownEntered, abandonWeighing_weigh]
  simp

theorem rundownEntered_ring (ch : Choice) (s : State) : (rundownEntered ch s).ring = (abortCorrection s).ring := by
  simp [rundownEntered]

theorem rundownEntered_speedBelow (ch : Choice) (s : State) (n : Nat) :
    (rundownEntered ch s).speedBelow n = s.speedBelow n :=
  speedBelow_congr (by simp [rundownEntered]) (by simp [rundownEntered]) (by simp [rundownEntered]) n

theorem enterRundown_above {s : State} (h : s.speedBelow s.spin.retainSpeed = false) (ch : Choice) :
    enterRundown ch s = rundownEntered ch s :=
  retainCheck_above (s := rundownEntered ch s)
    (by rw [rundownEntered_speedBelow, show (rundownEntered ch s).spin = s.spin by simp [rundownEntered], h]) ch

theorem enterRundown_below {s : State} (h : s.speedBelow s.spin.retainSpeed = true) (ch : Choice) :
    enterRundown ch s = enterIdle ch (rundownEntered ch s) :=
  retainCheck_rundown (s := rundownEntered ch s)
    (by rw [rundownEntered_speedBelow, show (rundownEntered ch s).spin = s.spin by simp [rundownEntered], h])
    (by simp [rundownEntered_session]) ch

theorem endingRequest_running {s : State} (h : ¬(s.session.state = .idle ∨ s.session.state = .holdDown ∨
    s.session.state = .rundown ∨ s.session.state = .tripped)) (ch : Choice) :
    endingRequest ch s = enterRundown ch s := by
  unfold endingRequest
  cases hstate : s.session.state <;> first | rfl | exact absurd hstate (by tauto)

theorem endingRequest_other {s : State} (h : s.session.state = .idle ∨ s.session.state = .holdDown ∨
    s.session.state = .rundown ∨ s.session.state = .tripped) (ch : Choice) : endingRequest ch s = s := by
  unfold endingRequest
  rcases h with h | h | h | h <;> rw [h]

theorem actOnRequest_ending {s : State}
    (h : s.requested.mode ≠ 2 ∨ s.requested.target ≤ (s.spin.blindCeiling : Int)) (ch : Choice) :
    actOnRequest ch s = endingRequest ch s := by
  rw [actOnRequest, isSpinRequest_eq_false h]
  rfl

theorem ringAbort_session (s : State) : (ringAbort s).session = s.session := by simp

/-- R105: an aborted correction is recorded in the newest record, and its plateau's attempt is used. -/
theorem abortCorrection_append {s : State} (hcorrect : s.session.state = .correct) {l : List Correction} {x : Correction}
    (h : s.session.corrections = l ++ [x]) :
    (abortCorrection s).session.corrections = l ++ [{ x with outcome := .aborted, credited := s.ring.ctx.credited }] ∧
      (abortCorrection s).session.progress[x.plateau].attempts = s.session.progress[x.plateau].attempts + 1 := by
  rw [abortCorrection_correct hcorrect, recordOutcome_append (s := ringAbort s) (by simpa using h)]
  have hattempts := congrArg Progress.attempts (useAttempt_same (ringAbort s).session.progress x.plateau)
  rw [ringAbort_session] at hattempts ⊢
  exact ⟨rfl, hattempts⟩

/-- R130, R131: the ring at an aborted correction. -/
theorem abortCorrection_active {s : State} (hcorrect : s.session.state = .correct) (hactive : s.ring.ctx.state = .active) :
    (abortCorrection s).ring.ctx.outcome = .aborted ∧ (abortCorrection s).ring.ctx.endTime = s.now ∧
      (abortCorrection s).ring.valve = false := by
  rw [abortCorrection_ring, if_pos hcorrect, ringAbort_active hactive]
  exact ⟨rfl, rfl, rfl⟩

theorem abortCorrection_contents (s : State) : (abortCorrection s).ring.contents = s.ring.contents := by
  rw [abortCorrection_ring]
  split
  · exact ringAbort_contents s
  · rfl

/-- R10: a SPEED DEMAND taken, as the session controller, the ring and the trip unit see it. -/
theorem exec_requestTaken {s : State} (hheld : s.held = false) (m : Moment) (seq : Byte)
    (target ramp : Sys2Proof.Word) (mode flags : Byte) :
    ∃ t v, exec (.speedDemandTaken m seq target ramp mode flags) s = .next t ∧
      RequestFound m mode (max (-1500) (min 1500 target.toInt)) s v ∧
      t.session = (actOnRequest m.choice v).session ∧ t.ring = (actOnRequest m.choice v).ring ∧
      t.trip = (actOnRequest m.choice v).trip ∧ t.weigh = (actOnRequest m.choice v).weigh ∧
      t.loadClass = (actOnRequest m.choice v).loadClass ∧ t.requested = v.requested ∧
      t.est = s.est ∧ t.tracker = s.tracker ∧ t.limits = s.limits ∧ t.tables = s.tables ∧ t.requests = s.requests := by
  obtain ⟨p, hsession, hring, htrip, hweigh, hclass, hrequested⟩ :=
    governFrame_request m.choice (demandBytes target ramp mode flags) (demandHeard m seq s)
  rw [demandMode_bytes, receivedTarget_bytes] at *
  have hv := requestFound m seq mode (max (-1500) (min 1500 target.toInt)) p s
  refine ⟨_, _, exec_speedDemandTaken hheld m seq target ramp mode flags, hv, hsession, hring, htrip, hweigh, hclass,
    ?_, ?_⟩
  · rw [hrequested, actOnRequest]
    split <;> simp
  · simp only [governFrame_kept]
    exact ⟨hv.est, hv.tracker, hv.limits, hv.tables, hv.requests⟩

theorem RequestFound.ending {m : Moment} {mode : Byte} {target : Int} {s v : State} (hv : RequestFound m mode target s v)
    (h : mode ≠ 2 ∨ target ≤ (s.spin.blindCeiling : Int)) (ch : Choice) : actOnRequest ch v = endingRequest ch v :=
  actOnRequest_ending (by rw [hv.requested, hv.spin]; exact h) ch

/-- Settles O13: RUNDOWN is entered and judged at once, the correction of CORRECT aborted and recorded before it. -/
theorem endingRequest_spec : Obligations.EndingRequest := by
  refine ⟨fun m seq target ramp mode flags s hheld hidle hhold hrundown htripped _ hspeed hending => ?_,
    fun m seq target ramp mode flags s hheld hstate hspeed hending => ?_,
    fun m seq target ramp mode flags s hheld hstate hending => ?_⟩
  all_goals
    obtain ⟨t, v, hexec, hv, hsession, hring, htrip, hweigh, hclass, hrequested, hest, htracker, hlimits, -, -⟩ :=
      exec_requestTaken hheld m seq target ramp mode flags
    rw [hv.ending hending] at hsession hring htrip hweigh hclass
    refine ⟨t, hexec, ?_⟩
  · rw [endingRequest_running (by rw [hv.session]; tauto),
      enterRundown_above (by rw [hv.speedBelow, hv.spin, hspeed])] at *
    rw [rundownEntered_session] at hsession
    rw [rundownEntered_weigh, hv.weigh] at hweigh
    rw [rundownEntered_ring] at hring
    refine ⟨by rw [hsession], hweigh, fun hother => ?_, fun hcorrect hactive => ?_, ?_, hest, htracker, hlimits⟩
    · rw [hsession, hring, abortCorrection_other (by rwa [hv.session]), hv.session, hv.ring]
      exact ⟨rfl, by simp⟩
    · obtain ⟨houtcome, hend, hvalve⟩ :=
        abortCorrection_active (s := v) (by rwa [hv.session]) (by rw [hv.ring]; simpa using hactive)
      refine ⟨by rw [hring, houtcome], by rw [hring, hend, hv.now], by rw [hring, hvalve], fun l c hrecords => ?_⟩
      obtain ⟨hlist, hattempts⟩ :=
        abortCorrection_append (s := v) (l := l) (x := c) (by rwa [hv.session]) (by rw [hv.session, hrecords])
      rw [hsession]
      refine ⟨hlist.trans (by rw [hv.ring]; simp), hattempts.trans (by rw [hv.session])⟩
    · rw [hring, abortCorrection_contents, hv.ring]; simp
  · have hcorrect : s.session.state ≠ .correct := by
      rcases hstate with h | h | h | h | h <;> simp [h]
    rw [endingRequest_running (by rw [hv.session]; rcases hstate with h | h | h | h | h <;> simp [h]),
      enterRundown_below (by rw [hv.speedBelow, hv.spin, hspeed])] at *
    rw [enterIdle_session, rundownEntered_session, abortCorrection_other (by rwa [hv.session]), hv.session] at hsession
    rw [show (enterIdle m.choice (rundownEntered m.choice v)).weigh = (rundownEntered m.choice v).weigh by simp,
      rundownEntered_weigh, hv.weigh] at hweigh
    rw [show (enterIdle m.choice (rundownEntered m.choice v)).ring = (rundownEntered m.choice v).ring by simp,
      rundownEntered_ring] at hring
    refine ⟨fun e => by rw [hsession]; simp [mapAll], by rw [hsession], hweigh, ?_, hest,
      htrip.trans (by simpa [rundownEntered] using hv.trip)⟩
    rw [hring, abortCorrection_contents, hv.ring]; simp
  · rw [endingRequest_other (by rwa [hv.session])] at *
    rw [hv.requested] at hrequested
    exact ⟨hrequested, hsession.trans hv.session, hring.trans hv.ring, htrip.trans hv.trip, hest, hweigh.trans hv.weigh,
      hclass.trans hv.loadClass⟩

end Sys2Proof.Machine
end


section
/-! SUPPORT. A DRIVE STATUS taken at Port D: its record, its readers in whatever order, and the statements of it and of the weighing that examines it. -/

namespace Sys2Proof.Machine
open Sys2Proof.Safety

/-! ### The frame -/

theorem CountsOnly.inputs {s t : State} (h : CountsOnly s t) : SameInputs s t := by
  unfold CountsOnly at h
  rw [h]
  constructor <;> rfl

theorem judgeLive_counts (k : Kind) (s : State) : CountsOnly s (judgeLive k s) := by
  apply State.eq_of_fields <;> simp

theorem forwardStatus_counts (ch : Choice) (payload : List Byte) (s : State) :
    CountsOnly s (forwardStatus ch payload s) :=
  (judgeLive_counts .driveSilent s).trans (offerForwardedC_counts ch _ _)

@[simp] theorem forwardStatus_kept (ch : Choice) (payload : List Byte) (s : State) :
    (forwardStatus ch payload s).est = s.est ∧ (forwardStatus ch payload s).trip = s.trip ∧
      (forwardStatus ch payload s).weigh = s.weigh ∧ (forwardStatus ch payload s).loadClass = s.loadClass ∧
      (forwardStatus ch payload s).session = s.session ∧ (forwardStatus ch payload s).ring = s.ring := by
  have h := forwardStatus_counts ch payload s
  unfold CountsOnly at h
  rw [h]
  exact ⟨rfl, rfl, rfl, rfl, rfl, rfl⟩

/-- R11: what follows a DRIVE STATUS, in the order left open. -/
def statusReaders (ch : Choice) (payload : List Byte) : List (State → State) :=
  recordReaders ch ++ [examineStatus, forwardStatus ch payload]

/-- R11: the state in which a DRIVE STATUS's readers act. -/
def statusTaken (m : Moment) (seq : Byte) (payload : List Byte) (s : State) : State :=
  recordStatus payload (checkSeqD seq (taking m .portD 8 s))

theorem exec_driveStatusTaken {s : State} (hheld : s.held = false) (m : Moment) (seq : Byte)
    (speed torque bus : Sys2Proof.Word) (driveState driveFault : Byte) :
    exec (.driveStatusTaken m seq speed torque bus driveState driveFault) s =
      .next (inOrder m.choice.readers
        (statusReaders m.choice (statusPayload speed torque bus driveState driveFault))
        (statusTaken m seq (statusPayload speed torque bus driveState driveFault) s)) := by
  refine (exec_frameTaken hheld m .d seq (cls := driveStatusClass)
    (payload := statusPayload speed torque bus driveState driveFault) rfl).trans (congrArg _ ?_)
  have haction : (checkSeqD seq (taking m .portD 8 s)).action .d driveStatusClass = .inspect := rfl
  change dispose m.choice .d driveStatusClass _ (checkSeqD seq (taking m .portD 8 s)) = _
  simp only [dispose, haction]
  rfl

theorem statusPayload_speed (speed torque bus : Sys2Proof.Word) (driveState driveFault : Byte) :
    field16 (statusPayload speed torque bus driveState driveFault) 0 = speed := be16_append speed

theorem statusPayload_torque (speed torque bus : Sys2Proof.Word) (driveState driveFault : Byte) :
    field16 (statusPayload speed torque bus driveState driveFault) 2 = torque := be16_append torque

/-- R11: what the readers of a DRIVE STATUS find, from the state before. -/
structure StatusFound (m : Moment) (seq : Byte) (speed torque : Sys2Proof.Word) (s v : State) : Prop where
  now : v.now = s.now + m.elapsed
  drive : v.drive = { speed := max (-1500) (min 1500 speed.toInt), torque := torque.toInt, time := s.now + m.elapsed }
  silence : v.silence = { s.silence with driveSince := s.now + m.elapsed, driveSilent := false }
  rxD : v.rxD = { lastSeq := seq, armed := true }
  frame : v = { tick m s with
    framerD := v.framerD, drive := v.drive, silence := v.silence, rxD := v.rxD, monitor := v.monitor
    events := v.events, portC := v.portC }

theorem statusFound (m : Moment) (seq : Byte) (speed torque bus : Sys2Proof.Word) (driveState driveFault : Byte)
    (s : State) :
    StatusFound m seq speed torque s
      (statusTaken m seq (statusPayload speed torque bus driveState driveFault) s) := by
  have hcounts := checkSeqD_counts seq (taking m .portD 8 s)
  unfold CountsOnly at hcounts
  unfold statusTaken recordStatus
  rw [statusPayload_speed, statusPayload_torque, clampInt_eq_max_min (by decide), hcounts]
  constructor <;> rfl

/-! ### The readers -/

theorem statusReaders_inputs {ch : Choice} {payload : List Byte} {f : State → State}
    (hf : f ∈ statusReaders ch payload) (t : State) : SameInputs t (f t) := by
  rcases List.mem_append.mp hf with hf | hf
  · exact (recordReaders_effects ch hf t).sameInputs
  · rcases List.mem_pair.mp hf with rfl | rfl
    · exact (examineStatus_effects t).sameInputs
    · exact (forwardStatus_counts ch payload t).inputs

theorem statusReaders_est {ch : Choice} {payload : List Byte} {f : State → State}
    (hf : f ∈ statusReaders ch payload) (t : State) : (f t).est = t.est := by
  simp only [statusReaders, recordReaders, List.cons_append, List.nil_append, List.mem_cons, List.not_mem_nil,
    or_false] at hf
  rcases hf with rfl | rfl | rfl | rfl | rfl | rfl | rfl <;> simp

theorem statusReaders_contents {ch : Choice} {payload : List Byte} {f : State → State}
    (hf : f ∈ statusReaders ch payload) (t : State) : (f t).ring.contents = t.ring.contents := by
  rcases List.mem_append.mp hf with hf | hf
  · exact (recordReaders_effects ch hf t).contents
  · rcases List.mem_pair.mp hf with rfl | rfl <;> simp

/-- R11: whatever the order, the inputs, the estimate and the contents stand. -/
theorem statusReaders_kept (ch : Choice) (payload : List Byte) (code : List Nat) (v : State) :
    SameInputs v (inOrder code (statusReaders ch payload) v) ∧
      (inOrder code (statusReaders ch payload) v).est = v.est ∧
      (inOrder code (statusReaders ch payload) v).ring.contents = v.ring.contents :=
  inOrder_keeps (fun t => SameInputs v t ∧ t.est = v.est ∧ t.ring.contents = v.ring.contents) ⟨.refl v, rfl, rfl⟩
    fun _ hf t ⟨hinputs, hest, hcontents⟩ => ⟨hinputs.trans (statusReaders_inputs hf t),
      (statusReaders_est hf t).trans hest, (statusReaders_contents hf t).trans hcontents⟩

/-- R11, R14: the Port C forwarded queue with the frame of a DRIVE STATUS in it. -/
def offeredStatus (payload : List Byte) (q : List QFrame) : List QFrame :=
  if q.any (fun g => g.cls == driveStatusClass) then
    replaceFirst (fun g => g.cls == driveStatusClass) (plainFrame driveStatusClass payload) q
  else q ++ [plainFrame driveStatusClass payload]

/-- R11, R14: the frame as it joins the Port C forwarded queue. -/
theorem forwardStatus_carriesC {p : PortC} {t : State} (h : CarriesC p t)
    (hroom : p.forwardedQ.any (fun g => g.cls == driveStatusClass) = true ∨ p.forwardedQ.length < 8) (ch : Choice)
    (payload : List Byte) :
    CarriesC { p with forwardedQ := offeredStatus payload p.forwardedQ } (forwardStatus ch payload t) := by
  have hu := judgeLive_carriesC h .driveSilent
  unfold forwardStatus offerForwardedC offeredStatus
  generalize judgeLive .driveSilent t = u at hu ⊢
  by_cases hwaits : p.forwardedQ.any (fun g => g.cls == driveStatusClass) = true
  · rw [if_pos hwaits, if_pos (by rw [hu.forwarded, hwaits]; rfl)]
    exact ⟨hu.busy, hu.sending, hu.seq, hu.mark, by rw [hu.forwarded]⟩
  · have hlength : u.portC.forwardedQ.length < Config.forwardedCapacity := by
      rw [hu.forwarded]; exact hroom.resolve_left hwaits
    rw [if_neg hwaits, if_neg (by rw [hu.forwarded, Bool.eq_false_iff.mpr hwaits]; simp), if_pos hlength,
      PortC.kick_busy (by exact hu.busy)]
    exact ⟨hu.busy, hu.sending, hu.seq, hu.mark, by rw [hu.forwarded]⟩

/-- R11, R14: whatever the order, the frame is offered once to the queue of a transmitting Port C. -/
theorem statusReaders_carriesC {p : PortC} {v : State} (h : CarriesC p v)
    (hroom : p.forwardedQ.any (fun g => g.cls == driveStatusClass) = true ∨ p.forwardedQ.length < 8) (ch : Choice)
    (payload : List Byte) (code : List Nat) :
    CarriesC { p with forwardedQ := offeredStatus payload p.forwardedQ } (inOrder code (statusReaders ch payload) v) := by
  have hothers : ∀ q : PortC, ∀ f ∈ recordReaders ch ++ [examineStatus] ++ [], ∀ t, CarriesC q t → CarriesC q (f t) := by
    intro q f hf t ht
    rw [List.append_nil] at hf
    rcases List.mem_append.mp hf with hf | hf
    · exact (recordReaders_effects ch hf t).carriesC ht
    · obtain rfl := List.mem_singleton.mp hf
      exact (examineStatus_effects t).carriesC ht
  have hlist : statusReaders ch payload = (recordReaders ch ++ [examineStatus]) ++ forwardStatus ch payload :: [] := by
    simp [statusReaders]
  rw [hlist]
  exact inOrder_once (CarriesC p) _ h (hothers p) (fun t ht => forwardStatus_carriesC ht hroom ch payload) (hothers _)

/-- No cause of a trip arises from the record: the readers of it leave the trip unit at rest. -/
def CalmStatus (v : State) : Prop :=
  v.causeHolds .lid = false ∧ v.causeHolds .overspeed = false ∧ v.silence.driveSilent = false

theorem CalmStatus.judgeCauses {v t : State} (h : CalmStatus v) (hinputs : SameInputs v t) (hest : t.est = v.est)
    (ch : Choice) : judgeCauses ch [.lid, .overspeed, .drive] t = t := by
  obtain ⟨hlid, hover, hfresh⟩ := h
  refine judgeCauses_false (fun c hc => ?_) ch
  simp only [List.mem_cons, List.not_mem_nil, or_false] at hc
  rcases hc with rfl | rfl | rfl
  · rw [causeHolds_of_inputs hinputs hest (by decide), hlid]
  · rw [causeHolds_of_inputs hinputs hest (by decide), hover]
  · simp [State.causeHolds, hinputs.silence, hfresh]

/-- R140, R141: a status within the overspeed bound, taken with the lid closed, trips nothing. -/
theorem calmStatus {m : Moment} {seq : Byte} {speed torque : Sys2Proof.Word} {s v : State}
    (hv : StatusFound m seq speed torque s v) (hlid : s.lid.debounced = true) (hlow : -1500 ≤ speed.toInt)
    (hhigh : speed.toInt ≤ 1500) (hover : speed.toInt.natAbs ≤ s.overspeedBound) : CalmStatus v := by
  have hclamp : max (-1500) (min 1500 speed.toInt) = speed.toInt := by omega
  have hbound : v.overspeedBound = s.overspeedBound := by rw [hv.frame]; rfl
  refine ⟨?_, ?_, by rw [hv.silence]⟩
  · have hclosed : v.lid.debounced = true := by rw [hv.frame]; exact hlid
    simp [State.causeHolds, hclosed]
  · simp only [State.causeHolds, State.driveSpeed, hv.silence, hv.drive, hclamp, hbound]
    simpa using hover

/-! ### The statements -/

theorem statusTaken_carriesC {s : State} (h : s.portC.sending ≠ none) (m : Moment) (seq : Byte) (payload : List Byte) :
    CarriesC s.portC (statusTaken m seq payload s) :=
  (checkSeqD_carriesC (s := taking m .portD 8 s) ((carriesC_self h).of_portC (by simp)) seq).of_portC

/-- R11, R14, R23: a DRIVE STATUS taken while Port C transmits. -/
theorem driveStatus_recorded (m : Moment) (seq : Byte) (speed torque bus : Sys2Proof.Word) (driveState driveFault : Byte)
    (s : State) (hheld : s.held = false) (hbusy : s.portC.sending ≠ none)
    (hroom : s.portC.forwardedQ.any (fun g => g.cls == 0x31) = true ∨ s.portC.forwardedQ.length < 8) :
    ∃ t, exec (.driveStatusTaken m seq speed torque bus driveState driveFault) s = .next t ∧
       t.drive = { speed := max (-1500) (min 1500 speed.toInt), torque := torque.toInt, time := s.now + m.elapsed } ∧
       t.silence = { s.silence with driveSince := s.now + m.elapsed, driveSilent := false } ∧
       t.rxD = { lastSeq := seq, armed := true } ∧
       t.portC.forwardedQ =
         offeredStatus (statusPayload speed torque bus driveState driveFault) s.portC.forwardedQ ∧
       t.est = s.est ∧ t.tracker = s.tracker ∧ t.limits = s.limits ∧ t.tables = s.tables ∧ t.spin = s.spin ∧
       t.requested = s.requested ∧ t.requests = s.requests ∧ t.ring.contents = s.ring.contents ∧
       t.intake = s.intake ∧ t.lid = s.lid ∧ t.strike = s.strike := by
  have hv := statusFound m seq speed torque bus driveState driveFault s
  have hcarries := statusReaders_carriesC
    (statusTaken_carriesC hbusy m seq (statusPayload speed torque bus driveState driveFault)) hroom m.choice
    (statusPayload speed torque bus driveState driveFault) m.choice.readers
  refine ⟨_, exec_driveStatusTaken hheld m seq speed torque bus driveState driveFault, ?_⟩
  obtain ⟨hinputs, hest, hcontents⟩ := statusReaders_kept m.choice
    (statusPayload speed torque bus driveState driveFault) m.choice.readers
    (statusTaken m seq (statusPayload speed torque bus driveState driveFault) s)
  have hframe := hv.frame
  refine ⟨hinputs.drive.trans hv.drive, hinputs.silence.trans hv.silence, hinputs.rxD.trans hv.rxD, hcarries.forwarded,
    hest.trans ?_, hinputs.tracker.trans ?_, hinputs.limits.trans ?_, hinputs.tables.trans ?_, hinputs.spin.trans ?_,
    hinputs.requested.trans ?_, hinputs.requests.trans ?_, hcontents.trans ?_, hinputs.intake.trans ?_,
    hinputs.lid.trans ?_, hinputs.strike.trans ?_⟩
  all_goals rw [hframe]; rfl

/-- R139 to R141: the inputs, the estimate and the trip unit stand as they stood. -/
structure TripRests (v t : State) : Prop where
  inputs : SameInputs v t
  est : t.est = v.est
  trip : t.trip = v.trip

theorem statusReaders_rest {ch : Choice} {payload : List Byte} {v t : State} (hcalm : CalmStatus v) {f : State → State}
    (hf : f ∈ statusReaders ch payload) (ht : TripRests v t) : TripRests v (f t) := by
  refine ⟨ht.inputs.trans (statusReaders_inputs hf t), (statusReaders_est hf t).trans ht.est, ?_⟩
  simp only [statusReaders, recordReaders, List.cons_append, List.nil_append, List.mem_cons, List.not_mem_nil,
    or_false] at hf
  rcases hf with rfl | rfl | rfl | rfl | rfl | rfl | rfl
  case inr.inr.inr.inr.inl => rw [hcalm.judgeCauses ht.inputs ht.est]; exact ht.trip
  all_goals simpa using ht.trip

/-- R110, R113, R114: the session that HOLD_DOWN and RUNDOWN end in. -/
def rested (x : Session) : Session :=
  { x with
    state := .idle
    progress := mapAll (fun p => { p with passed := false }) x.progress
    failed := none, dwell := 0, settle := 0
    redist := if x.state = .holdDown then x.redist + 1 else x.redist }

theorem retainCheck_rests {s : State} (h : s.speedBelow s.spin.retainSpeed = true)
    (hstate : s.session.state = .holdDown ∨ s.session.state = .rundown) (ch : Choice) :
    (retainCheck ch s).session = rested s.session := by
  rcases hstate with hstate | hstate
  · rw [retainCheck_holdDown h hstate]
    simp [rested, hstate]
  · rw [retainCheck_rundown h hstate]
    simp [rested, hstate]

/-- R116: an entry to a session state offers REDISTRIBUTE. -/
theorem setSession_redistribute (ch : Choice) (st : SessionState) (s : State) :
    (setSession ch st s).events.live.getLsbD 3 = (st == .holdDown) := by
  refine inOrder_brings_under (fun t => t.session.state = st) (fun t => t.events.live.getLsbD 3 = (st == .holdDown)) rfl
    (fun f hf t ht => ?_) (fun f hf t hstate ht => ?_)
    ⟨judgeLive .redistribute, by simp [sessionEvents], fun t ht => ?_⟩
  · simp only [sessionEvents, List.cons_append, List.nil_append, List.mem_cons, List.not_mem_nil, or_false] at hf
    rcases hf with rfl | rfl | rfl <;> simpa using ht
  · simp only [sessionEvents, List.cons_append, List.nil_append, List.mem_cons, List.not_mem_nil, or_false] at hf
    rcases hf with rfl | rfl | rfl
    · exact (judgeLive_live .redistribute t).trans (by simp [State.condition, hstate])
    · exact ((judgeLive_kinds .limited t).live .redistribute (by decide)).trans ht
    · exact ((recompose_kinds t).live .redistribute (by decide)).trans ht
  · exact (judgeLive_live .redistribute t).trans (by simp [State.condition, ht])

theorem retainCheck_redistribute {s : State} (h : s.speedBelow s.spin.retainSpeed = true)
    (hstate : s.session.state = .holdDown ∨ s.session.state = .rundown) (ch : Choice) :
    (retainCheck ch s).events.live.getLsbD 3 = false := by
  rcases hstate with hstate | hstate
  · rw [retainCheck_holdDown h hstate]; exact setSession_redistribute ch .idle _
  · rw [retainCheck_rundown h hstate]; exact setSession_redistribute ch .idle _

theorem examineStatus_kinds (s : State) : KindsStand [.governing] s (examineStatus s) := by
  unfold examineStatus; split
  · split
    · exact endWeighing_kinds s
    · split
      · exact .of_events rfl
      · exact .refl _ _
  · exact .refl _ _

theorem dropFromQueue_kinds (ch : Choice) (s : State) :
    KindsStand [.queueOverflow, .counterSaturated] s (dropFromQueue ch s) :=
  .inOrder (.refl _ _) fun f hf u => by
    rcases List.mem_pair.mp hf with rfl | rfl
    · exact (latchKind_kinds .queueOverflow u).mono
    · exact (countSource_kinds .drops u).mono

theorem offerForwardedC_kinds (ch : Choice) (f : QFrame) (s : State) :
    KindsStand [.queueOverflow, .counterSaturated] s (offerForwardedC ch f s) := by
  unfold offerForwardedC; split
  · exact .of_localQ rfl fun hbusy => ⟨rfl, hbusy⟩
  · split
    · refine .of_localQ rfl fun hbusy => ?_
      rw [PortC.kick_busy (by exact hbusy)]
      exact ⟨rfl, hbusy⟩
    · exact dropFromQueue_kinds ch s

theorem forwardStatus_kinds (ch : Choice) (payload : List Byte) (s : State) :
    KindsStand [.driveSilent, .queueOverflow, .counterSaturated] s (forwardStatus ch payload s) :=
  ((judgeLive_kinds .driveSilent s).mono).trans ((offerForwardedC_kinds ch _ _).mono)

/-- Every reader but the retain check leaves the session and the live value of REDISTRIBUTE. -/
theorem statusReaders_others {ch : Choice} {payload : List Byte} {v t : State} (hcalm : CalmStatus v)
    {f : State → State} (hf : f ∈ statusReaders ch payload) (ht : TripRests v t) :
    f = retainCheck ch ∨
      ((f t).session = t.session ∧ (f t).events.live.getLsbD 3 = t.events.live.getLsbD 3) := by
  simp only [statusReaders, recordReaders, List.cons_append, List.nil_append, List.mem_cons, List.not_mem_nil,
    or_false] at hf
  rcases hf with rfl | rfl | rfl | rfl | rfl | rfl | rfl
  · exact .inr ⟨by simp, (judgeLive_kinds .driveSilent t).live .redistribute (by decide)⟩
  · exact .inr ⟨by simp, (judgeLive_kinds .indexLoss t).live .redistribute (by decide)⟩
  · exact .inl rfl
  · exact .inr ⟨by simp, by simp⟩
  · rw [hcalm.judgeCauses ht.inputs ht.est]
    exact .inr ⟨rfl, rfl⟩
  · exact .inr ⟨by simp, (examineStatus_kinds t).live .redistribute (by decide)⟩
  · exact .inr ⟨by simp, (forwardStatus_kinds ch payload t).live .redistribute (by decide)⟩

theorem judgeBleed_isSome (s : State) : (judgeBleed s).ring.bleed.isSome = s.speedBelow s.spin.retainSpeed := by
  unfold judgeBleed
  cases s.speedBelow s.spin.retainSpeed <;> rfl

theorem TripRests.speedBelow {v t : State} (ht : TripRests v t) :
    t.speedBelow t.spin.retainSpeed = v.speedBelow v.spin.retainSpeed := by
  rw [speedBelow_congr ht.inputs.tracker ht.inputs.drive ht.inputs.silence, ht.inputs.spin]

theorem TripRests.judgeBleed {v t : State} (ht : TripRests v t) :
    (judgeBleed t).ring.bleed.isSome = v.speedBelow v.spin.retainSpeed := (judgeBleed_isSome t).trans ht.speedBelow

/-- R135: whatever the order, the bleed timer runs as the speed says. -/
theorem statusReaders_bleed {ch : Choice} {payload : List Byte} {v : State} (hcalm : CalmStatus v) (code : List Nat) :
    (inOrder code (statusReaders ch payload) v).ring.bleed.isSome = v.speedBelow v.spin.retainSpeed := by
  refine inOrder_brings_under (TripRests v) (fun t => t.ring.bleed.isSome = v.speedBelow v.spin.retainSpeed)
    ⟨.refl v, rfl, rfl⟩ (fun f hf t ht => statusReaders_rest hcalm hf ht) (fun f hf t ht hbleed => ?_)
    ⟨judgeBleed, by simp [statusReaders, recordReaders], fun t ht => ht.judgeBleed⟩
  simp only [statusReaders, recordReaders, List.cons_append, List.nil_append, List.mem_cons, List.not_mem_nil,
    or_false] at hf
  rcases hf with rfl | rfl | rfl | rfl | rfl | rfl | rfl
  case inr.inr.inr.inl => exact ht.judgeBleed
  case inr.inr.inr.inr.inl => rw [hcalm.judgeCauses ht.inputs ht.est]; exact hbleed
  all_goals simpa using hbleed

/-- R110, R113: below RETAIN_SPEED HOLD_DOWN and RUNDOWN end once, whatever the order. -/
theorem statusReaders_below {ch : Choice} {payload : List Byte} {v : State} (hcalm : CalmStatus v)
    (hstate : v.session.state = .holdDown ∨ v.session.state = .rundown)
    (hbelow : v.speedBelow v.spin.retainSpeed = true) (code : List Nat) :
    (inOrder code (statusReaders ch payload) v).session = rested v.session ∧
      (inOrder code (statusReaders ch payload) v).events.live.getLsbD 3 = false := by
  have hretain : ∀ t, TripRests v t →
      (t.session = v.session ∨ t.session = rested v.session ∧ t.events.live.getLsbD 3 = false) →
      (retainCheck ch t).session = rested v.session ∧ (retainCheck ch t).events.live.getLsbD 3 = false := by
    intro t ht hsession
    rcases hsession with hsession | hdone
    · have hbelow' := ht.speedBelow.trans hbelow
      exact ⟨by rw [retainCheck_rests hbelow' (by rwa [hsession]), hsession],
        retainCheck_redistribute hbelow' (by rwa [hsession]) ch⟩
    · have hidle : t.session.state = .idle := by rw [hdone.1]; rfl
      rw [retainCheck_other (by simp [hidle]) (by simp [hidle])]
      exact hdone
  refine inOrder_brings_under
    (fun t => TripRests v t ∧
      (t.session = v.session ∨ t.session = rested v.session ∧ t.events.live.getLsbD 3 = false))
    (fun t => t.session = rested v.session ∧ t.events.live.getLsbD 3 = false) ⟨⟨.refl v, rfl, rfl⟩, .inl rfl⟩
    (fun f hf t ⟨ht, hsession⟩ => ⟨statusReaders_rest hcalm hf ht, ?_⟩) (fun f hf t ⟨ht, _⟩ hdone => ?_)
    ⟨retainCheck ch, by simp [statusReaders, recordReaders], fun t ⟨ht, hsession⟩ => hretain t ht hsession⟩
  · rcases statusReaders_others hcalm hf ht with rfl | ⟨hsame, hlive⟩
    · exact .inr (hretain t ht hsession)
    · rwa [hsame, hlive]
  · rcases statusReaders_others hcalm hf ht with rfl | ⟨hsame, hlive⟩
    · exact hretain t ht (.inr hdone)
    · rwa [hsame, hlive]

/-- R110, R113: at RETAIN_SPEED or above the readers of a DRIVE STATUS leave the session. -/
theorem statusReaders_above {ch : Choice} {payload : List Byte} {v : State} (hcalm : CalmStatus v)
    (habove : v.speedBelow v.spin.retainSpeed = false) (code : List Nat) :
    (inOrder code (statusReaders ch payload) v).session = v.session := by
  refine (inOrder_keeps (fun t => TripRests v t ∧ t.session = v.session) ⟨⟨.refl v, rfl, rfl⟩, rfl⟩
    fun f hf t ⟨ht, hsession⟩ => ⟨statusReaders_rest hcalm hf ht, ?_⟩).2
  rcases statusReaders_others hcalm hf ht with rfl | ⟨hsame, -⟩
  · rw [retainCheck_above (ht.speedBelow.trans habove), hsession]
  · exact hsame.trans hsession

/-- R11, R110: with the angle invalid the speed is the status's own. -/
theorem StatusFound.speedBelow {m : Moment} {seq : Byte} {speed torque : Sys2Proof.Word} {s v : State}
    (hv : StatusFound m seq speed torque s v) (hangle : s.tracker.state ≠ .locked) (hlow : -1500 ≤ speed.toInt)
    (hhigh : speed.toInt ≤ 1500) : v.speedBelow v.spin.retainSpeed = decide (speed.toInt.natAbs < s.spin.retainSpeed) := by
  have hclamp : max (-1500) (min 1500 speed.toInt) = speed.toInt := by omega
  have hinvalid : v.angleValid = false := by rw [hv.frame]; exact beq_false_of_ne hangle
  have hspin : v.spin = s.spin := by rw [hv.frame]; rfl
  simp [State.speedBelow, State.speed, hinvalid, State.driveSpeed, hv.silence, hv.drive, hclamp, hspin]

/-- R11: a DRIVE STATUS taken is its record and then its readers. -/
theorem exec_statusFound {s : State} (hheld : s.held = false) (m : Moment) (seq : Byte)
    (speed torque bus : Sys2Proof.Word) (driveState driveFault : Byte) :
    ∃ v, StatusFound m seq speed torque s v ∧
      exec (.driveStatusTaken m seq speed torque bus driveState driveFault) s =
        .next (inOrder m.choice.readers
          (statusReaders m.choice (statusPayload speed torque bus driveState driveFault)) v) :=
  ⟨_, statusFound m seq speed torque bus driveState driveFault s,
    exec_driveStatusTaken hheld m seq speed torque bus driveState driveFault⟩

theorem statusReaders_trip {ch : Choice} {payload : List Byte} {v : State} (hcalm : CalmStatus v) (code : List Nat) :
    (inOrder code (statusReaders ch payload) v).trip = v.trip :=
  (inOrder_keeps (TripRests v) ⟨.refl v, rfl, rfl⟩ fun _ hf _ ht => statusReaders_rest hcalm hf ht).trip

/-- Settles O14: the frame is offered once among the readers, and HOLD_DOWN and RUNDOWN end at a slow status. -/
theorem driveStatusTaken : Obligations.DriveStatusTaken := by
  refine ⟨fun m seq speed torque bus driveState driveFault s hheld hbusy hroom =>
      driveStatus_recorded m seq speed torque bus driveState driveFault s hheld hbusy hroom,
    fun m seq speed torque bus driveState driveFault s hheld hstate hangle hlow hhigh hover hlid => ?_⟩
  obtain ⟨v, hv, hexec⟩ := exec_statusFound hheld m seq speed torque bus driveState driveFault
  have hcalm := calmStatus hv hlid hlow hhigh hover
  have hspeed := hv.speedBelow hangle hlow hhigh
  have hsession : v.session = s.session := by rw [hv.frame]; rfl
  have hbleed := statusReaders_bleed (ch := m.choice) (payload := statusPayload speed torque bus driveState driveFault)
    hcalm m.choice.readers
  refine ⟨_, hexec, fun hslow => ?_, fun hfast => ?_, (statusReaders_trip hcalm _).trans ?_,
    (statusReaders_kept ..).2.2.trans ?_⟩
  · have hbelow := hspeed.trans (decide_eq_true hslow)
    obtain ⟨hidle, hlive⟩ := statusReaders_below (ch := m.choice)
      (payload := statusPayload speed torque bus driveState driveFault) hcalm (by rwa [hsession]) hbelow m.choice.readers
    rw [hsession] at hidle
    exact ⟨fun e => by rw [hidle]; simp [rested, mapAll], by rw [hidle]; rfl, hlive, hbleed.trans hbelow⟩
  · have habove := hspeed.trans (decide_eq_false (Nat.not_lt.mpr hfast))
    exact ⟨(statusReaders_above hcalm habove m.choice.readers).trans hsession, by simpa [habove] using hbleed⟩
  · rw [hv.frame]; rfl
  · rw [hv.frame]; simp

/-! ### The weighing -/

/-- R70, R71: the weighing is examined once, whatever the order, as it was found. -/
theorem statusReaders_weigh {ch : Choice} {payload : List Byte} {v : State} (hcalm : CalmStatus v) {w : Weighing} {c : Nat}
    (hexamined : ∀ t, TripRests v t → t.weigh = v.weigh → t.loadClass = v.loadClass →
      (examineStatus t).weigh = w ∧ (examineStatus t).loadClass = c) (code : List Nat) :
    (inOrder code (statusReaders ch payload) v).weigh = w ∧
      (inOrder code (statusReaders ch payload) v).loadClass = c := by
  have hothers : ∀ f ∈ recordReaders ch ++ [forwardStatus ch payload], ∀ t, TripRests v t →
      TripRests v (f t) ∧ (f t).weigh = t.weigh ∧ (f t).loadClass = t.loadClass := by
    intro f hf t ht
    have hmem : f ∈ statusReaders ch payload := by
      simp only [statusReaders, List.mem_append, List.mem_cons, List.not_mem_nil, or_false] at hf ⊢
      tauto
    refine ⟨statusReaders_rest hcalm hmem ht, ?_⟩
    simp only [recordReaders, List.cons_append, List.nil_append, List.mem_cons, List.not_mem_nil, or_false] at hf
    rcases hf with rfl | rfl | rfl | rfl | rfl | rfl
    case inr.inr.inr.inr.inl => rw [hcalm.judgeCauses ht.inputs ht.est]; exact ⟨rfl, rfl⟩
    all_goals simp
  have hlist : statusReaders ch payload = recordReaders ch ++ examineStatus :: [forwardStatus ch payload] := rfl
  rw [hlist]
  refine (inOrder_once (fun t => TripRests v t ∧ t.weigh = v.weigh ∧ t.loadClass = v.loadClass)
    (fun t => TripRests v t ∧ t.weigh = w ∧ t.loadClass = c) ⟨⟨.refl v, rfl, rfl⟩, rfl, rfl⟩
    (fun f hf t ⟨ht, hw, hc⟩ => ?_) (fun t ⟨ht, hw, hc⟩ => ⟨?_, hexamined t ht hw hc⟩)
    fun f hf t ⟨ht, hw, hc⟩ => ?_).2
  · obtain ⟨hrests, hweigh, hclass⟩ := hothers f hf t ht
    exact ⟨hrests, hweigh.trans hw, hclass.trans hc⟩
  · exact statusReaders_rest (ch := ch) (payload := payload) hcalm (by simp [statusReaders]) ht
  · obtain ⟨hrests, hweigh, hclass⟩ := hothers f hf t ht
    exact ⟨hrests, hweigh.trans hw, hclass.trans hc⟩

/-- R70: a status in the window is recorded; the sum and n stand at n = 65535. -/
theorem record_eq {w : Weighing} (h : w.n ≤ 65535) (now : Time) (speed torque : Int) :
    w.record now speed torque = { w with
      cSum := if w.n = 65535 then w.cSum else w.cSum + torque
      n := min 65535 (w.n + 1)
      tFirst := if w.n = 0 then now else w.tFirst
      sFirst := if w.n = 0 then speed else w.sFirst
      tLast := now
      sLast := speed } := by
  unfold Weighing.record
  by_cases hzero : w.n = 0
  · simp [hzero]
  · by_cases hfull : w.n = 65535
    · simp [hfull]
    · have hlt : w.n < 65535 := by omega
      simp [hzero, hfull, hlt]

theorem Weighing.thin_iff (w : Weighing) :
    w.thin = true ↔ w.n < 5 ∨ w.sLast - w.sFirst < 20 ∨ w.cSum ≤ 0 := by
  simp only [Weighing.thin, Bool.or_eq_true, decide_eq_true_iff, or_assoc]

/-- R71, R73: an ARMED weighing that holds enough is DONE with its figure and its class. -/
theorem endWeighing_done {s : State} (harmed : s.weigh.state = .armed) (hthin : s.weigh.thin = false) :
    (endWeighing s).weigh = { s.weigh with state := .done, j := s.weigh.figure } ∧
      (endWeighing s).loadClass = classOf s.tables.weighThresh s.weigh.figure := by
  rw [endWeighing, if_pos harmed, if_neg (by simp [hthin])]
  exact ⟨by simp, by simp⟩

/-- R71, R72: one that holds too little is FAILED. -/
theorem endWeighing_failed {s : State} (harmed : s.weigh.state = .armed) (hthin : s.weigh.thin = true) :
    (endWeighing s).weigh = { s.weigh with state := .failed, j := 0 } ∧
      (endWeighing s).loadClass = s.spin.defaultClass := by
  rw [endWeighing, if_pos harmed, if_pos hthin]
  exact failWeighing_weigh s

theorem examineStatus_above {s : State} (harmed : s.weigh.state = .armed) (h : (s.spin.weighHi : Int) < s.drive.speed) :
    examineStatus s = endWeighing s := by
  rw [examineStatus, if_pos harmed, if_pos h]

/-- R70: at WEIGH_HI or below a status is recorded in the window, and one below the window is not. -/
theorem examineStatus_within {s : State} (harmed : s.weigh.state = .armed) (h : s.drive.speed ≤ (s.spin.weighHi : Int)) :
    examineStatus s = { s with weigh := (if s.drive.speed < (s.spin.weighLo : Int) then s.weigh
      else s.weigh.record s.drive.time s.drive.speed s.drive.torque) } := by
  rw [examineStatus, if_pos harmed, if_neg (by omega)]
  by_cases hlo : s.drive.speed < (s.spin.weighLo : Int)
  · rw [if_neg (by omega), if_pos hlo]
  · rw [if_pos (by omega), if_neg hlo]

/-- R70, R71: the examination of a DRIVE STATUS within the overspeed bound, by what it does to every state that has the
weighing, the class and the record of this one. -/
theorem status_examined {m : Moment} {seq : Byte} {speed torque bus : Sys2Proof.Word} {driveState driveFault : Byte}
    {s : State} (hheld : s.held = false) (hlid : s.lid.debounced = true) (hlow : -1500 ≤ speed.toInt)
    (hhigh : speed.toInt ≤ 1500) (hover : speed.toInt.natAbs ≤ s.overspeedBound) {w : Weighing} {c : Nat}
    (hexamined : ∀ t : State, t.weigh = s.weigh → t.loadClass = s.loadClass → t.spin = s.spin → t.tables = s.tables →
      t.drive = { speed := speed.toInt, torque := torque.toInt, time := s.now + m.elapsed } →
      (examineStatus t).weigh = w ∧ (examineStatus t).loadClass = c) :
    ∃ t, exec (.driveStatusTaken m seq speed torque bus driveState driveFault) s = .next t ∧ t.weigh = w ∧
      t.loadClass = c := by
  obtain ⟨v, hv, hexec⟩ := exec_statusFound hheld m seq speed torque bus driveState driveFault
  have hclamp : max (-1500) (min 1500 speed.toInt) = speed.toInt := by omega
  refine ⟨_, hexec, statusReaders_weigh (calmStatus hv hlid hlow hhigh hover) (fun t ht hw hc => hexamined t
    (hw.trans ?_) (hc.trans ?_) (ht.inputs.spin.trans ?_) (ht.inputs.tables.trans ?_)
    (ht.inputs.drive.trans (by rw [hv.drive, hclamp]))) m.choice.readers⟩
  all_goals rw [hv.frame]; rfl

/-- Settles O15: the status is examined once among its readers. -/
theorem weighingExamined : Obligations.WeighingExamined := by
  refine ⟨fun m seq speed torque bus driveState driveFault s hheld harmed hn hlid hlow hhi hrange hover => ?_,
    fun m seq speed torque bus driveState driveFault s hheld harmed hcount hspan hsum hlid hhi hhigh hover => ?_,
    fun m seq speed torque bus driveState driveFault s hheld harmed hthin hlid hhi hhigh hover => ?_⟩
  · refine status_examined hheld hlid hlow (by omega) hover fun t hw hc hspin _ hdrive => ?_
    rw [examineStatus_within (by rwa [hw]) (by rw [hdrive, hspin]; exact hhi)]
    refine ⟨?_, hc⟩
    dsimp only
    rw [hw, hdrive, hspin, record_eq hn]
  · have hthin : s.weigh.thin = false := by
      rw [Bool.eq_false_iff, ne_eq, Weighing.thin_iff]
      omega
    obtain ⟨t, hexec, hw, hc⟩ := status_examined (m := m) (seq := seq) (torque := torque) (bus := bus)
      (driveState := driveState) (driveFault := driveFault) hheld hlid (by omega) hhigh hover
      (w := { s.weigh with state := .done, j := s.weigh.figure })
      (c := classOf s.tables.weighThresh s.weigh.figure) fun t hw hc hspin htables hdrive => by
        rw [examineStatus_above (by rwa [hw]) (by rw [hdrive, hspin]; exact hhi)]
        obtain ⟨hdone, hclass⟩ := endWeighing_done (s := t) (by rwa [hw]) (by rwa [hw])
        exact ⟨by rw [hdone, hw], by rw [hclass, hw, htables]⟩
    refine ⟨t, hexec, hw, ?_⟩
    rw [hc, hw, List.countP_eq_length_filter]
    rfl
  · refine status_examined hheld hlid (by omega) hhigh hover fun t hw hc hspin _ hdrive => ?_
    rw [examineStatus_above (by rwa [hw]) (by rw [hdrive, hspin]; exact hhi)]
    obtain ⟨hfailed, hdefault⟩ :=
      endWeighing_failed (s := t) (by rwa [hw]) (by rw [hw]; exact (Weighing.thin_iff _).mpr hthin)
    exact ⟨by rw [hfailed, hw], by rw [hdefault, hspin]⟩

end Sys2Proof.Machine
end


section
/-! SUPPORT. A transmitting Port D under the effects of a moment, the orphan stop, and the statement of it. -/

namespace Sys2Proof.Machine
open Sys2Proof.Safety

/-! ### A transmitting Port D -/

/-- R16, R22: Port D goes on transmitting as `p` does under the standing demand `st`, its queues those of `p` but for a
restatement that joined while no SPEED DEMAND waited. -/
structure CarriesD (p : PortD) (st : Standing) (s : State) : Prop where
  busy : s.portD.sending ≠ none
  sending : s.portD.sending = p.sending
  seq : s.portD.seq = p.seq
  standing : s.standing = st
  forwarded : s.portD.forwardedQ = p.forwardedQ
  localQ : s.portD.localQ = p.localQ ∨ p.demandWaits = false ∧ s.portD.localQ = p.localQ ++ [st.restatement]

section

variable {p : PortD} {st : Standing} {s t : State}

theorem CarriesD.of_portD (h : CarriesD p st s) (hport : t.portD = s.portD := by rfl)
    (hstanding : t.standing = s.standing := by rfl) : CarriesD p st t := by
  constructor <;> simp only [hport, hstanding]
  exacts [h.busy, h.sending, h.seq, h.standing, h.forwarded, h.localQ]

theorem carriesD_self (h : s.portD.sending ≠ none) : CarriesD s.portD s.standing s :=
  ⟨h, rfl, rfl, rfl, rfl, .inl rfl⟩

theorem kickD_busy (h : s.portD.sending ≠ none) : kickD s = s :=
  if_neg (by simpa [Option.isNone_iff_eq_none] using h)

theorem PortD.demandWaits_restated (p : PortD) (st : Standing) :
    PortD.demandWaits { p with localQ := p.localQ ++ [st.restatement] } = true := by
  simp [PortD.demandWaits, Standing.restatement]

theorem queueRestated_carriesD (h : CarriesD p st s) : CarriesD p st (queueRestated s) := by
  unfold queueRestated
  split
  · exact h
  · next hnone =>
    rw [kickD_busy (by exact h.busy)]
    refine ⟨h.busy, h.sending, h.seq, h.standing, h.forwarded, ?_⟩
    rcases h.localQ with hlocal | ⟨-, hlocal⟩
    · right
      refine ⟨?_, by dsimp only; rw [hlocal, h.standing]⟩
      rw [Bool.eq_false_iff]
      rwa [PortD.demandWaits, h.forwarded, hlocal] at hnone
    · exact absurd (by simp [PortD.demandWaits, hlocal, Standing.restatement]) hnone

theorem recompose_carriesD (h : CarriesD p st s) : CarriesD p st (recompose s) := by
  unfold recompose; dsimp only; split
  · exact queueRestated_carriesD h.of_portD
  · exact h.of_portD

theorem judgeLive_carriesD (h : CarriesD p st s) (k : Kind) : CarriesD p st (judgeLive k s) :=
  h.of_portD (by simp) (by simp)

theorem Effect.carriesD (h : Effect s t) (hs : CarriesD p st s) : CarriesD p st t := by
  cases h with
  | latch k => exact hs.of_portD (by simp) (by simp)
  | report => exact hs.of_portD
  | compose => exact recompose_carriesD hs
  | restate => exact queueRestated_carriesD hs
  | _ => exact hs.of_portD

/-- R16, R22: while Port D transmits, the effects of the moment add to its queues a restatement at the most. -/
theorem Effects.carriesD (h : Effects s t) (hs : CarriesD p st s) : CarriesD p st t :=
  h.keeps (P := CarriesD p st) (fun _ _ => Effect.carriesD) hs

theorem actOnRequest_effects (ch : Choice) (s : State) : Effects s (actOnRequest ch s) := by
  unfold actOnRequest; split
  · exact spinRequest_effects ch s
  · exact endingRequest_effects ch s

/-- R10, R98: a request taken while Port D transmits. -/
theorem takeRequest_carriesD (h : CarriesD p st s) (ch : Choice) (mode : Byte) (target : Int) :
    CarriesD p st (takeRequest ch mode target s) := by
  rw [takeRequest_eq]
  exact recompose_carriesD ((actOnRequest_effects ch _).carriesD h.of_portD)

end

/-- R13, R22: with one SPEED DEMAND waiting at the most, and restated demands alone in the local queue, that queue is
empty or holds one. -/
theorem oneDemand_localQ {s : State} (h : oneDemand s = true) :
    (∀ f ∈ s.portD.localQ, f.cls = speedDemandClass ∧ f.restated = true) ∧
      (s.portD.localQ = [] ∨ ∃ f, s.portD.localQ = [f] ∧ f.restated = true) := by
  simp only [oneDemand, Bool.and_eq_true, decide_eq_true_eq, List.all_eq_true, beq_iff_eq] at h
  obtain ⟨⟨hone, hlocal⟩, -⟩ := h
  have hall : ofClass speedDemandClass s.portD.localQ = s.portD.localQ :=
    List.filter_eq_self.mpr fun f hf => by simp [(hlocal f hf).1]
  refine ⟨hlocal, ?_⟩
  rw [hall] at hone
  match hq : s.portD.localQ with
  | [] => exact .inl rfl
  | [f] => exact .inr ⟨f, rfl, (hlocal f (by simp [hq])).2⟩
  | f :: g :: rest => rw [hq] at hone; simp at hone; omega

/-! ### The orphan stop -/

@[simp] theorem queueOrphan_kept (s : State) :
    (queueOrphan s).now = s.now ∧ (queueOrphan s).session = s.session ∧ (queueOrphan s).est = s.est ∧
      (queueOrphan s).tracker = s.tracker ∧ (queueOrphan s).trip = s.trip ∧ (queueOrphan s).limits = s.limits ∧
      (queueOrphan s).silence = s.silence ∧ (queueOrphan s).rxC = s.rxC ∧ (queueOrphan s).requested = s.requested ∧
      (queueOrphan s).drive = s.drive ∧ (queueOrphan s).spin = s.spin := by
  unfold queueOrphan; dsimp only; split <;> simp

/-- R24: Port D with the orphan stop queued: no SPEED DEMAND in the forwarded queue, and the stop alone in the local one. -/
structure OrphanQueued (p : PortD) (downRamp : Nat) (s : State) : Prop where
  sending : s.portD.sending = p.sending
  forwarded : s.portD.forwardedQ = p.forwardedQ.filter (fun g => g.cls != speedDemandClass)
  localQ : s.portD.localQ = [orphanFrame downRamp]

/-- R24: whatever waits in the local queue, the orphan stop alone is left in it. -/
theorem queueOrphan_queued {p : PortD} {st : Standing} {s : State} (h : CarriesD p st s)
    (hempty : p.localQ = [] ∨ ∃ f, p.localQ = [f] ∧ f.restated = true)
    (hdemand : ∀ f ∈ p.localQ, f.cls = speedDemandClass) : OrphanQueued p s.spin.downRamp (queueOrphan s) := by
  have hlocal : s.portD.localQ = [] ∨ ∃ f, s.portD.localQ = [f] ∧ f.restated = true := by
    rcases h.localQ with hsame | ⟨hnone, hjoined⟩
    · rwa [hsame]
    · rcases hempty with hnil | ⟨f, hone, -⟩
      · exact .inr ⟨st.restatement, by rw [hjoined, hnil]; rfl, rfl⟩
      · exact absurd hnone (by simp [PortD.demandWaits, hone, hdemand f (by simp [hone])])
  unfold queueOrphan
  dsimp only
  rcases hlocal with hnil | ⟨f, hone, hrestated⟩
  · rw [if_neg (by simp [hnil]), kickD_busy (by exact h.busy)]
    exact ⟨h.sending, by dsimp only; rw [h.forwarded], by simp [hnil]⟩
  · rw [if_pos (by simp [hone, hrestated])]
    exact ⟨h.sending, by dsimp only; rw [h.forwarded], by simp [hone, replaceFirst, hrestated]⟩

/-- R22: while the orphan stop waits nothing is restated. -/
theorem Effects.orphanQueued {p : PortD} {n : Nat} {s t : State} (h : Effects s t) (hbusy : p.sending ≠ none)
    (hs : OrphanQueued p n s) : OrphanQueued p n t := by
  have hcarries := h.carriesD (carriesD_self (s := s) (by rw [hs.sending]; exact hbusy))
  refine ⟨hcarries.sending.trans hs.sending, hcarries.forwarded.trans hs.forwarded, ?_⟩
  rcases hcarries.localQ with hsame | ⟨hnone, -⟩
  · exact hsame.trans hs.localQ
  · exact absurd hnone (by simp [PortD.demandWaits, hs.localQ, orphanFrame])

theorem takeRequest_orphanQueued {p : PortD} {n : Nat} {s : State} (hbusy : p.sending ≠ none) (hs : OrphanQueued p n s)
    (ch : Choice) (mode : Byte) (target : Int) : OrphanQueued p n (takeRequest ch mode target s) := by
  rw [takeRequest_eq]
  refine Effects.orphanQueued ((actOnRequest_effects ch _).trans (recompose_effects _)) hbusy ?_
  exact ⟨hs.sending, hs.forwarded, hs.localQ⟩

/-- R7, R24: what an orphan stop leaves as it was. -/
structure OrphanKept (s t : State) : Prop where
  silence : t.silence = s.silence
  rxC : t.rxC = s.rxC
  est : t.est = s.est
  tracker : t.tracker = s.tracker
  trip : t.trip = s.trip
  limits : t.limits = s.limits
  drive : t.drive = s.drive
  spin : t.spin = s.spin

theorem takeRequest_stop_session (ch : Choice) (s : State) :
    (takeRequest ch 0 0 s).session = (endingRequest ch (requesting 0 0 s.portD s)).session ∧
      (takeRequest ch 0 0 s).trip = s.trip ∧ (takeRequest ch 0 0 s).requested = { mode := 0, target := 0 } := by
  rw [takeRequest_eq, actOnRequest_ending (s := requesting 0 0 s.portD s) (.inl (by simp [requesting]))]
  simp [requesting]

/-- R24: the steps of an orphan stop beside the queuing of the demand. -/
def OrphanOthers (ch : Choice) (fs : List (State → State)) : Prop :=
  ∀ f ∈ fs, f = judgeLive .controllerSilent ∨ f = takeRequest ch 0 0

theorem orphanStep_kept {ch : Choice} {f : State → State}
    (hf : f = judgeLive .controllerSilent ∨ f = takeRequest ch 0 0 ∨ f = queueOrphan) {s t : State} (h : OrphanKept s t) :
    OrphanKept s (f t) := by
  obtain ⟨hsilence, hrx, hest, htracker, htrip, hlimits, hdrive, hspin⟩ := h
  rcases hf with rfl | rfl | rfl
  · constructor <;> simpa
  · constructor
    case trip => exact (takeRequest_stop_session ch t).2.1.trans htrip
    all_goals simpa
  · constructor <;> simpa

variable {ch : Choice} {pre : List (State → State)} {v : State} {code : List Nat}

/-- R24: whatever the order, an orphan stop queues its demand alone. -/
theorem orphanStop_queued (hpre : OrphanOthers ch pre) (hone : oneDemand v = true) (hbusy : v.portD.sending ≠ none) :
    OrphanQueued v.portD v.spin.downRamp (inOrder code (pre ++ queueOrphan :: []) v) := by
  obtain ⟨hdemand, hempty⟩ := oneDemand_localQ hone
  refine inOrder_once (fun t => CarriesD v.portD v.standing t ∧ t.spin = v.spin) _ ⟨carriesD_self hbusy, rfl⟩
    (fun f hf t ⟨ht, hspin⟩ => ?_) (fun t ⟨ht, hspin⟩ => ?_) fun f hf t ht => ?_
  · rw [List.append_nil] at hf
    rcases hpre f hf with rfl | rfl
    · exact ⟨judgeLive_carriesD ht _, by simpa using hspin⟩
    · exact ⟨takeRequest_carriesD ht ch 0 0, by simpa using hspin⟩
  · rw [← hspin]
    exact queueOrphan_queued ht hempty fun f hf => (hdemand f hf).1
  · rw [List.append_nil] at hf
    rcases hpre f hf with rfl | rfl
    · exact (judgeLive_effects _ t).orphanQueued hbusy ht
    · exact takeRequest_orphanQueued hbusy ht ch 0 0

theorem orphanStop_kept (hpre : OrphanOthers ch pre) : OrphanKept v (inOrder code (pre ++ queueOrphan :: []) v) :=
  inOrder_keeps (OrphanKept v) (by constructor <;> rfl) fun f hf t ht => orphanStep_kept (ch := ch) (by
    rcases List.mem_append.mp hf with hf | hf
    · exact (hpre f hf).imp_right .inl
    · exact .inr (.inr (List.mem_singleton.mp hf))) ht

/-- R24, R97: whatever the order, the requested demand is STOP. -/
theorem orphanStop_requested (hpre : OrphanOthers ch pre) (htake : takeRequest ch 0 0 ∈ pre) :
    (inOrder code (pre ++ queueOrphan :: []) v).requested = { mode := 0, target := 0 } := by
  refine inOrder_brings (fun t => t.requested = { mode := 0, target := 0 }) (fun f hf t ht => ?_)
    ⟨takeRequest ch 0 0, List.mem_append_left _ htake, fun t => (takeRequest_stop_session ch t).2.2⟩
  rcases List.mem_append.mp hf with hf | hf
  · rcases hpre f hf with rfl | rfl
    · simpa using ht
    · exact (takeRequest_stop_session ch t).2.2
  · obtain rfl := List.mem_singleton.mp hf
    simpa using ht

/-- R98, R113: whatever the order, a running session enters RUNDOWN at an orphan stop, the speed not being below
RETAIN_SPEED. -/
theorem orphanStop_rundown (hpre : OrphanOthers ch pre) (htake : takeRequest ch 0 0 ∈ pre)
    (hstate : v.session.state = .opened ∨ v.session.state = .limited ∨ v.session.state = .climb ∨
      v.session.state = .dwell) (hspeed : v.speedBelow v.spin.retainSpeed = false) :
    (inOrder code (pre ++ queueOrphan :: []) v).session.state = .rundown := by
  have htakes : ∀ t, OrphanKept v t → (t.session = v.session ∨ t.session.state = .rundown) →
      (takeRequest ch 0 0 t).session.state = .rundown := by
    intro t ht hsession
    rw [(takeRequest_stop_session ch t).1]
    rcases hsession with hsession | hrundown
    · rw [endingRequest_running, enterRundown_above, rundownEntered_session]
      · rw [speedBelow_congr (s := v) (t := requesting 0 0 t.portD t) ht.tracker ht.drive ht.silence]
        exact (congrArg (fun p => v.speedBelow p.retainSpeed) ht.spin).trans hspeed
      · change ¬(t.session.state = _ ∨ t.session.state = _ ∨ t.session.state = _ ∨ t.session.state = _)
        rw [hsession]
        rcases hstate with h | h | h | h <;> simp [h]
    · rw [endingRequest_other (s := requesting 0 0 t.portD t) (.inr (.inr (.inl hrundown)))]
      exact hrundown
  have hmem : ∀ f ∈ pre ++ queueOrphan :: [],
      f = judgeLive .controllerSilent ∨ f = takeRequest ch 0 0 ∨ f = queueOrphan := by
    intro f hf
    rcases List.mem_append.mp hf with hf | hf
    · exact (hpre f hf).imp_right .inl
    · exact .inr (.inr (List.mem_singleton.mp hf))
  refine inOrder_brings_under (fun t => OrphanKept v t ∧ (t.session = v.session ∨ t.session.state = .rundown))
    (fun t => t.session.state = .rundown) ⟨by constructor <;> rfl, .inl rfl⟩
    (fun f hf t ⟨ht, hsession⟩ => ⟨orphanStep_kept (hmem f hf) ht, ?_⟩) (fun f hf t ⟨ht, _⟩ hdone => ?_)
    ⟨takeRequest ch 0 0, List.mem_append_left _ htake, fun t ⟨ht, hsession⟩ => htakes t ht hsession⟩
  · rcases hmem f hf with rfl | rfl | rfl
    · simpa using hsession
    · exact .inr (htakes t ht hsession)
    · simpa using hsession
  · rcases hmem f hf with rfl | rfl | rfl
    · simpa using hdone
    · exact htakes t ht (.inr hdone)
    · simpa using hdone

/-- Settles O22: the stop and its request are made in either order, and the demand queued is the one that waits. -/
theorem orphanStop_spec : Obligations.OrphanStop := by
  refine ⟨fun m s hheld hfresh hdue hone hbusy => ?_, fun m s since hheld horphan hdue hone hbusy => ?_⟩
  · have hdue' : (tick m s).controllerDue = true := by
      simp only [State.controllerDue, tick_kept, hfresh, Bool.not_false, Bool.true_and, decide_eq_true_iff]
      exact hdue
    have hpre : OrphanOthers m.choice [judgeLive .controllerSilent, takeRequest m.choice 0 0] := by simp [OrphanOthers]
    let v : State := { tick m s with
      rxC := { s.rxC with armed := false }
      silence := { s.silence with controllerSilent := true, orphan := some (s.now + m.elapsed) } }
    have hqueued := orphanStop_queued (v := v) (code := m.choice.effects) hpre hone hbusy
    have hkept := orphanStop_kept (v := v) (code := m.choice.effects) hpre
    refine ⟨_, (happen_live hheld m _).trans (congrArg _ ((if_pos hdue').trans rfl)), hkept.silence, hkept.rxC,
      orphanStop_requested (v := v) hpre (by simp), hqueued.forwarded, hqueued.localQ, hqueued.sending,
      fun hstate hspeed => orphanStop_rundown (v := v) hpre (by simp) hstate hspeed, hkept.est, hkept.tracker, hkept.trip,
      hkept.limits⟩
  · have hdue' : (tick m s).orphanDue = some (since + 100000) := by
      simp only [State.orphanDue, tick_kept, horphan]
      exact if_pos hdue
    have hpre : OrphanOthers m.choice [takeRequest m.choice 0 0] := by simp [OrphanOthers]
    let v : State := { tick m s with silence := { s.silence with orphan := some (since + 100000) } }
    have hqueued := orphanStop_queued (v := v) (code := m.choice.effects) hpre hone hbusy
    have hkept := orphanStop_kept (v := v) (code := m.choice.effects) hpre
    refine ⟨inOrder m.choice.effects (orphanStop m.choice) v, (happen_live hheld m _).trans (congrArg _ ?_), hkept.silence,
      hqueued.forwarded, hqueued.localQ, orphanStop_requested (v := v) hpre (by simp), hkept.rxC, hkept.est, hkept.tracker,
      hkept.trip⟩
    simp only [orphanRepeats, hdue']
    rfl

end Sys2Proof.Machine
end


section
/-! SUPPORT. A SPEED DEMAND as it joins its queue or leaves an idle Port D, and the statement of it. -/

namespace Sys2Proof.Machine
open Sys2Proof.Safety

/-! ### The frame on receipt -/

/-- R10, R13: the frame of a SPEED DEMAND as it joins its queue. -/
theorem receivedDemand_bytes (target ramp : Sys2Proof.Word) (mode flags : Byte) :
    receivedDemand (demandBytes target ramp mode flags) =
      { cls := 0x11
        payload := be16 (BitVec.ofInt 16 (max (-1500) (min 1500 target.toInt))) ++ be16 ramp ++ [mode, flags]
        changed := decide (target.toInt < -1500 ∨ 1500 < target.toInt)
        restated := false } := by
  have hchanged : (max (-1500) (min 1500 target.toInt) != target.toInt) =
      decide (target.toInt < -1500 ∨ 1500 < target.toInt) := by
    rw [Bool.eq_iff_iff, bne_iff_ne, decide_eq_true_iff]
    omega
  simp only [receivedDemand, receivedTarget_bytes, demandTarget_bytes, demandRamp_bytes, demandMode_bytes,
    demandFlags_bytes, hchanged, demandPayload, s16Bytes, u16Bytes, sWord, uWord, BitVec.ofNat_toNat,
    BitVec.setWidth_eq]
  rfl

/-- R10: the target on receipt is what the frame carries. -/
theorem receivedDemand_target (target ramp : Sys2Proof.Word) (mode flags : Byte) :
    demandTarget (receivedDemand (demandBytes target ramp mode flags)).payload = max (-1500) (min 1500 target.toInt) := by
  rw [receivedDemand_bytes]
  refine (demandTarget_bytes _ ramp mode flags).trans (BitVec.toInt_ofInt_eq_self (by decide) ?_ ?_) <;> omega

theorem receivedDemand_ramp (target ramp : Sys2Proof.Word) (mode flags : Byte) :
    demandRamp (receivedDemand (demandBytes target ramp mode flags)).payload = ramp.toNat := by
  rw [receivedDemand_bytes]
  exact demandRamp_bytes _ ramp mode flags

theorem receivedDemand_mode (target ramp : Sys2Proof.Word) (mode flags : Byte) :
    demandMode (receivedDemand (demandBytes target ramp mode flags)).payload = mode := by
  rw [receivedDemand_bytes]
  rfl

/-! ### The frame offered -/

section

variable {p : PortD} {st : Standing} {s : State}

theorem offerDemandD_replaces (h : CarriesD p st s)
    (hwaits : p.forwardedQ.any (fun g => g.cls == speedDemandClass) = true) (ch : Choice) (f : QFrame) :
    offerDemandD ch f s = { s with portD := { s.portD with
      forwardedQ := replaceFirst (fun g => g.cls == speedDemandClass) f p.forwardedQ
      localQ := s.portD.localQ.filter fun g => !g.restated } } := by
  rw [offerDemandD, if_pos (by rwa [h.forwarded]), h.forwarded]

theorem offerDemandD_joins (h : CarriesD p st s)
    (hnone : p.forwardedQ.any (fun g => g.cls == speedDemandClass) = false) (hroom : p.forwardedQ.length < 8)
    (ch : Choice) (f : QFrame) :
    offerDemandD ch f s = { s with portD := { s.portD with
      forwardedQ := p.forwardedQ ++ [f], localQ := s.portD.localQ.filter fun g => !g.restated } } := by
  rw [offerDemandD, if_neg (by rw [h.forwarded, hnone]; decide), if_pos (by rw [h.forwarded]; exact hroom),
    kickD_busy (by exact h.busy), h.forwarded]

theorem offerDemandD_full (h : CarriesD p st s)
    (hnone : p.forwardedQ.any (fun g => g.cls == speedDemandClass) = false) (hfull : 8 ≤ p.forwardedQ.length)
    (ch : Choice) (f : QFrame) : offerDemandD ch f s = dropFromQueue ch s := by
  rw [offerDemandD, if_neg (by rw [h.forwarded, hnone]; decide),
    if_neg (by rw [h.forwarded]; exact Nat.not_lt.mpr hfull)]

/-- R13, R22: the frame removes the restatement that joined while it was on its way. -/
theorem offerDemandD_alone (h : CarriesD p st s) (hfq : p.forwardedQ = []) (hlq : p.localQ = []) (ch : Choice)
    (f : QFrame) :
    (offerDemandD ch f s) = { s with portD := { p with forwardedQ := [f] } } := by
  have hfilter : (s.portD.localQ.filter fun g => !g.restated) = [] := by
    rcases h.localQ with hsame | ⟨-, hjoined⟩
    · simp [hsame, hlq]
    · simp [hjoined, hlq, Standing.restatement]
  have hport : ({ s.portD with forwardedQ := [f], localQ := [] } : PortD) = { p with forwardedQ := [f] } := by
    simp [h.sending, h.seq, hlq]
  rw [offerDemandD_joins h (by simp [hfq]) (by simp [hfq]) ch f, hfilter, hfq]
  exact congrArg (fun q => { s with portD := q }) hport

end

/-- R10, R13, R16, R22: on an idle Port D with nothing waiting the frame is governed and leaves as its request has been
taken (log 33). -/
theorem governFrame_idle {s : State} (hidle : s.portD.sending = none) (hfq : s.portD.forwardedQ = [])
    (hlq : s.portD.localQ = []) (ch : Choice) (payload : List Byte) :
    ∃ (p : PortD) (d : State), p.sending ≠ none ∧ p.forwardedQ = [] ∧ p.localQ = [] ∧
      d = takeRequest ch (demandMode payload) (receivedTarget payload) { s with portD := p } ∧
      CarriesD p s.standing d ∧
      governFrame ch payload s =
        judgeLive .governing
          { d with
            portD := s.portD.send s.now speedDemandClass (govern d (receivedDemand payload)).payload
            standing := govern d (receivedDemand payload) } := by
  obtain ⟨busy, hafter⟩ := startAfter_idle hidle fun s => offerDemandD ch (receivedDemand payload)
    (takeRequest ch (demandMode payload) (receivedTarget payload) s)
  let p : PortD := { s.portD with sending := some busy }
  let d : State := takeRequest ch (demandMode payload) (receivedTarget payload) { s with portD := p }
  have hcarries : CarriesD p s.standing d :=
    takeRequest_carriesD (carriesD_self (s := { s with portD := p }) (by simp [p])) ch _ _
  have hnow : d.now = s.now := by simp [d]
  refine ⟨p, d, by simp [p], hfq, hlq, rfl, hcarries, ?_⟩
  have hpick : PortD.pick { s.portD with forwardedQ := s.portD.forwardedQ ++ [receivedDemand payload] } =
      some (receivedDemand payload, s.portD) := PortD.pick_joined hfq hlq _
  rw [governFrame, hafter]
  change kickD (let t := offerDemandD ch (receivedDemand payload) d
    { t with portD := { t.portD with sending := none } }) = _
  rw [offerDemandD_alone hcarries hfq hlq]
  dsimp only
  rw [kickD, if_pos (by rfl), startD_demand (f := receivedDemand payload) (p := s.portD) ?_ rfl, hnow]
  · rfl
  · rw [hfq] at hpick
    exact (congrArg PortD.pick (by simp [p, hidle])).trans hpick

/-! ### QUEUE_OVERFLOW among the effects -/

/-- R149: QUEUE_OVERFLOW has not latched on the way from `s` to `t`. -/
structure OverflowRests (s t : State) : Prop where
  latch : t.events.latch.getLsbD 14 = s.events.latch.getLsbD 14
  count : t.events.counts[14] = s.events.counts[14]

theorem OverflowRests.of_kinds {K : List Kind} {s t : State} (h : KindsStand K s t)
    (hk : Kind.queueOverflow ∉ K := by decide) : OverflowRests s t :=
  ⟨h.latch .queueOverflow hk, h.counts .queueOverflow hk⟩

theorem OverflowRests.trans {s t u : State} (h : OverflowRests s t) (h' : OverflowRests t u) : OverflowRests s u :=
  ⟨h'.latch.trans h.latch, h'.count.trans h.count⟩

/-- R13, R14: QUEUE_OVERFLOW is the command's own: no shared effect latches it. -/
theorem Effect.overflowRests {s t : State} (h : Effect s t) : OverflowRests s t := by
  cases h with
  | latch k hk => exact .of_kinds (latchKind_kinds k s) (by simpa using hk.symm)
  | compose => exact .of_kinds (recompose_kinds s)
  | restate => exact .of_kinds (queueRestated_kinds s)
  | _ => exact ⟨rfl, rfl⟩

theorem Effects.overflowRests {s t : State} (h : Effects s t) : OverflowRests s t :=
  h.keeps (P := OverflowRests s) (fun _ _ hstep hs => hs.trans hstep.overflowRests) ⟨rfl, rfl⟩

theorem OverflowRests.then_once {s t u : State} (h : OverflowRests s t) (h' : LatchedOnce .queueOverflow t u) :
    u.events.latch.getLsbD 14 = true ∧ u.events.counts[14] = s.events.counts[14] + 1 :=
  ⟨h'.latch, by rw [← h.count]; exact h'.count⟩

theorem takeRequest_overflowRests (ch : Choice) (mode : Byte) (target : Int) (s : State) :
    OverflowRests s (takeRequest ch mode target s) := by
  rw [takeRequest_eq]
  have h := ((actOnRequest_effects ch (requesting mode target s.portD s)).trans (recompose_effects _)).overflowRests
  exact ⟨h.latch, h.count⟩

/-! ### The statement -/

theorem RequestFound.speedBand {m : Moment} {mode : Byte} {target : Int} {s v : State}
    (h : RequestFound m mode target s v) : v.speedBand = s.speedBand := by
  unfold State.speedBand State.speed State.driveSpeed State.angleValid State.indexSpeed
  rw [h.tracker, h.drive, h.driveSilent]

/-- R83, R84, R86: outside the plateaus no ceiling is a matter of the request. -/
theorem RequestFound.composed_idle {m : Moment} {mode : Byte} {target : Int} {s v : State}
    (h : RequestFound m mode target s v) (hidle : s.session.state = .idle) (hcomposed : ceilingsComposed s = true) :
    v.composed := by
  simp only [ceilingsComposed, Bool.and_eq_true, beq_iff_eq] at hcomposed
  have hterm : v.sessionTerm = s.sessionTerm := by
    simp [State.sessionTerm, h.session, hidle]
  refine ⟨?_, ?_⟩
  · rw [h.gov, hcomposed.1]
    simp only [State.spinCeiling, State.spinTerms, hterm, h.limits, h.est, h.spin, h.gov, h.trip]
  · rw [h.gov, hcomposed.2]
    simp only [State.agitateCeiling, h.limits, h.spin, h.trip]

theorem recompose_of_composed {s : State} (h : s.composed) : recompose s = s := by
  obtain ⟨hspin, hagitate⟩ := h
  rw [recompose_of_same (by rw [← hspin, ← hagitate]), ← hspin, ← hagitate]

/-- R98, R22: an ending request taken in IDLE is recorded, and nothing follows from it. -/
theorem takeRequest_idle {m : Moment} {seq mode : Byte} {target : Int} {s : State} {p : PortD}
    (hidle : s.session.state = .idle) (hending : mode ≠ 2 ∨ target ≤ (s.spin.blindCeiling : Int))
    (hcomposed : ceilingsComposed s = true) (ch : Choice) :
    takeRequest ch mode target { demandHeard m seq s with portD := p } = requesting mode target p (demandHeard m seq s) := by
  have hv := requestFound m seq mode target p s
  rw [takeRequest_eq]
  change recompose (actOnRequest ch (requesting mode target p (demandHeard m seq s))) = _
  rw [hv.ending hending, endingRequest_other (.inl (by rw [hv.session, hidle])),
    recompose_of_composed (hv.composed_idle hidle hcomposed)]

theorem demandHeard_kept (m : Moment) (seq : Byte) (s : State) :
    (demandHeard m seq s).portD = s.portD ∧ (demandHeard m seq s).standing = s.standing ∧
      (demandHeard m seq s).now = s.now + m.elapsed ∧
      (demandHeard m seq s).rxC = { lastSeq := seq, armed := true } ∧
      (demandHeard m seq s).silence = { s.silence with
        controllerSince := s.now + m.elapsed, controllerSilent := false, orphan := none } := by
  refine ⟨by simp [demandHeard, hearC_portD], ?_, by simp [demandHeard, hearC_now], hearC_rxC .., by
    simp [demandHeard, hearC_silence]⟩
  have hlistens := hearC_listens m.choice seq (taking m .portC 6 s)
  unfold ListensOnly at hlistens
  rw [demandHeard, hlistens]
  rfl

theorem demandHeard_carriesD {s : State} (h : s.portD.sending ≠ none) (m : Moment) (seq : Byte) :
    CarriesD s.portD s.standing (demandHeard m seq s) := by
  obtain ⟨hport, hstanding, -⟩ := demandHeard_kept m seq s
  exact (carriesD_self h).of_portD hport hstanding

/-- R10, R13: while Port D transmits, a SPEED DEMAND is a request and then a frame offered. -/
theorem governFrame_busy {s : State} (h : s.portD.sending ≠ none) (ch : Choice) (payload : List Byte) :
    governFrame ch payload s =
      offerDemandD ch (receivedDemand payload) (takeRequest ch (demandMode payload) (receivedTarget payload) s) :=
  startAfter_busy h _

theorem governFrame_requested (ch : Choice) (payload : List Byte) (s : State) :
    (governFrame ch payload s).requested = { mode := demandMode payload, target := receivedTarget payload } := by
  obtain ⟨p, -, -, -, -, -, hrequested⟩ := governFrame_request ch payload s
  rw [hrequested, actOnRequest]
  split <;> simp [requesting]

/-- Settles O11: the frame is offered as its request has been taken, to the queue or to an idle Port D. -/
theorem speedDemandTaken : Obligations.SpeedDemandTaken := by
  refine ⟨fun m seq target ramp mode flags s hheld hbusy hroom => ?_,
    fun m seq target ramp mode flags s hheld hsending hfq hlq hidle hending hlatch hcomposed => ?_,
    fun m seq target ramp mode flags s hheld hbusy hnone hfull => ?_⟩
  all_goals
    refine ⟨_, exec_speedDemandTaken hheld m seq target ramp mode flags, ?_⟩
    obtain ⟨hport, hstanding, hnow, hrx, hsilence⟩ := demandHeard_kept m seq s
    have hrequested := governFrame_requested m.choice (demandBytes target ramp mode flags) (demandHeard m seq s)
    rw [demandMode_bytes, receivedTarget_bytes] at hrequested
    refine ⟨hrequested, ?_⟩
  · have hd := takeRequest_carriesD (demandHeard_carriesD hbusy m seq) m.choice mode
      (max (-1500) (min 1500 target.toInt))
    have hplain : ∀ g ∈ (List.filter (fun g : QFrame => !g.restated)
      (takeRequest m.choice mode (max (-1500) (min 1500 target.toInt)) (demandHeard m seq s)).portD.localQ),
        g.restated = false := fun g hg => by simpa using (List.mem_filter.mp hg).2
    have hlisten : (governFrame m.choice (demandBytes target ramp mode flags) (demandHeard m seq s)).rxC =
        { lastSeq := seq, armed := true } ∧
        (governFrame m.choice (demandBytes target ramp mode flags) (demandHeard m seq s)).silence = { s.silence with
          controllerSince := s.now + m.elapsed, controllerSilent := false, orphan := none } := by
      simp [hrx, hsilence]
    obtain ⟨hrx', hsilence'⟩ := hlisten
    rw [governFrame_busy (by rwa [hport]), demandMode_bytes, receivedTarget_bytes] at *
    by_cases hwaits : s.portD.forwardedQ.any (fun g => g.cls == 0x11) = true
    · rw [offerDemandD_replaces hd hwaits, receivedDemand_bytes] at *
      exact ⟨by rw [if_pos hwaits]; rfl, hplain, hd.sending, hd.seq, hrx', by rw [hsilence'], by rw [hsilence']⟩
    · rw [offerDemandD_joins hd (Bool.eq_false_iff.mpr hwaits) (hroom.resolve_left hwaits), receivedDemand_bytes] at *
      exact ⟨by rw [if_neg hwaits], hplain, hd.sending, hd.seq, hrx', by rw [hsilence'], by rw [hsilence']⟩
  · obtain ⟨p, d, -, -, -, hd, -, hleaves⟩ := governFrame_idle (s := demandHeard m seq s) (by rwa [hport])
      (by rwa [hport]) (by rwa [hport]) m.choice (demandBytes target ramp mode flags)
    have hv := requestFound m seq mode (max (-1500) (min 1500 target.toInt)) p s
    rw [demandMode_bytes, receivedTarget_bytes, takeRequest_idle hidle hending hcomposed] at hd
    rw [← hd] at hv
    have hgov := govern_mode d (receivedDemand (demandBytes target ramp mode flags))
    have htarget := govern_target d (receivedDemand (demandBytes target ramp mode flags))
    have hramp := govern_ramp d (receivedDemand (demandBytes target ramp mode flags))
    have hgoverned := govern_governed_iff d (receivedDemand (demandBytes target ramp mode flags))
    rw [receivedDemand_mode, hv.trip, hlatch] at hgov
    rw [receivedDemand_target, hv.gov] at htarget
    rw [receivedDemand_ramp, hv.trip, hlatch, hv.tables, hv.speedBand] at hramp
    rw [receivedDemand_mode, receivedDemand_target, receivedDemand_ramp] at hgoverned
    rw [hleaves]
    generalize govern d (receivedDemand (demandBytes target ramp mode flags)) = st at *
    have hst : (judgeLive .governing { d with
        portD := (demandHeard m seq s).portD.send (demandHeard m seq s).now speedDemandClass st.payload
        standing := st }).standing = st := by simp
    have hchanged : (receivedDemand (demandBytes target ramp mode flags)).changed = true ↔
        max (-1500) (min 1500 target.toInt) ≠ target.toInt := by
      simp only [receivedDemand, receivedTarget_bytes, demandTarget_bytes, bne_iff_ne]
    rw [hst]
    refine ⟨by simpa using hv.session, by simpa using hv.gov, hgov, htarget, hramp, hgoverned.trans (or_congr_left hchanged),
      ?_⟩
    simp only [judgeLive_kept, hport, hnow]
    rfl
  · rw [governFrame_busy (by rwa [hport]), demandMode_bytes, receivedTarget_bytes]
    have hd := takeRequest_carriesD (demandHeard_carriesD hbusy m seq) m.choice mode
      (max (-1500) (min 1500 target.toInt))
    have hrests : OverflowRests s (demandHeard m seq s) :=
      .of_kinds ((hearC_kinds m.choice seq (taking m .portC 6 s)).after (by simp))
    have hrests' := hrests.trans (takeRequest_overflowRests m.choice mode (max (-1500) (min 1500 target.toInt)) _)
    have hmonitor : s.monitor.source = .drops →
        (takeRequest m.choice mode (max (-1500) (min 1500 target.toInt)) (demandHeard m seq s)).monitor = s.monitor := by
      intro hsource
      simp [demandHeard, hearC_monitor (s := taking m .portC 6 s) (by simp [hsource])]
    generalize takeRequest m.choice mode (max (-1500) (min 1500 target.toInt)) (demandHeard m seq s) = d at *
    obtain ⟨hlatch, hcount⟩ := hrests'.then_once (dropFromQueue_once m.choice d)
    rw [offerDemandD_full hd hnone hfull]
    refine ⟨by simpa using hd.forwarded, ?_, by simpa using hd.sending, by simpa using hd.standing, hlatch, hcount,
      fun hsource => ?_⟩
    · intro g hg
      rcases hd.localQ with hsame | ⟨-, hjoined⟩
      · simpa [hsame] using hg
      · simp [hjoined, hg]
    · rw [dropFromQueue_monitor, countSource_monitor, if_pos (by rw [hmonitor hsource, hsource]), hmonitor hsource]

end Sys2Proof.Machine
end


section
/-! SUPPORT. The current plateau as chapter 6 words it, spin requests in every session state, and the statement of them. -/

namespace Sys2Proof.Machine
open Sys2Proof.Safety

/-! ### The current plateau -/

/-- R95: an entry lies within a run exactly where no entry up to it ends the program. -/
theorem lt_programRun_iff (t : Tables) (n k i : Nat) :
    k < programRun t n i ↔ k < n ∧ ∀ j ≤ k, endsProgram t (i + j) = false := by
  induction n generalizing k i with
  | zero => simp [programRun]
  | succ n ih =>
    unfold programRun
    by_cases hends : endsProgram t i = true
    · rw [if_pos hends]
      refine ⟨fun h => absurd h (Nat.not_lt_zero k), fun h => ?_⟩
      exact absurd (h.2 0 (Nat.zero_le k)) (by simp [hends])
    · rw [if_neg hends]
      have hfirst : endsProgram t (i + 0) = false := by simpa using hends
      cases k with
      | zero => exact ⟨fun _ => ⟨by omega, fun j hj => by rwa [Nat.le_zero.mp hj]⟩, fun _ => by omega⟩
      | succ k =>
        rw [Nat.add_comm 1, Nat.add_lt_add_iff_right, ih, Nat.add_lt_add_iff_right]
        refine and_congr_right fun _ => ⟨fun h j hj => ?_, fun h j hj => ?_⟩
        · cases j with
          | zero => exact hfirst
          | succ j => rw [show i + (j + 1) = i + 1 + j by omega]; exact h j (by omega)
        · rw [show i + 1 + j = i + (j + 1) by omega]; exact h (j + 1) (by omega)

theorem endsProgram_eq_false_iff (t : Tables) (e : Nat) :
    endsProgram t e = false ↔
      look t.plateau (e * 6) 0 ≠ 0 ∧ (e ≠ 0 → look t.plateau ((e - 1) * 6) 0 < look t.plateau (e * 6) 0) := by
  simp [endsProgram]

/-- R95: an entry lies in the program exactly where the speeds up to it are above 0 and rise. -/
theorem lt_programLength_iff (t : Tables) (e : Fin 6) :
    e.val < programLength t ↔
      (∀ d : Fin 6, d ≤ e → look t.plateau (d.val * 6) 0 ≠ 0) ∧
        ∀ c d : Fin 6, c < d → d ≤ e → look t.plateau (c.val * 6) 0 < look t.plateau (d.val * 6) 0 := by
  rw [programLength, lt_programRun_iff]
  simp only [Nat.zero_add, endsProgram_eq_false_iff]
  refine ⟨fun ⟨_, h⟩ => ⟨fun d hd => (h d.val hd).1, fun c d hcd hde => ?_⟩,
    fun ⟨hpos, hrise⟩ => ⟨e.isLt, fun j hj => ⟨hpos ⟨j, by omega⟩ hj, fun hne =>
      hrise ⟨j - 1, by omega⟩ ⟨j, by omega⟩ (by rw [Fin.lt_def]; dsimp only; omega) hj⟩⟩⟩
  have hchain : ∀ n, c.val < n → n ≤ e.val → look t.plateau (c.val * 6) 0 < look t.plateau (n * 6) 0 := by
    intro n hcn
    induction n, hcn using Nat.le_induction with
    | base => exact fun hn => (h (c.val + 1) hn).2 (by omega)
    | succ n hcn ih => exact fun hn => (ih (by omega)).trans ((h (n + 1) hn).2 (by omega))
  exact hchain d.val hcd hde

/-- R97: whether an entry applies under a spin request of a target. -/
def appliesUnder (t : Tables) (target : Int) (e : Fin 6) : Bool :=
  (∀ d : Fin 6, d ≤ e → look t.plateau (d.val * 6) 0 ≠ 0) ∧
    (∀ c d : Fin 6, c < d → d ≤ e → look t.plateau (c.val * 6) 0 < look t.plateau (d.val * 6) 0) ∧
    ((look t.plateau (e.val * 6) 0 : Nat) : Int) < target

/-- R97: whether an entry is the current plateau under a spin request of a target. -/
def currentUnder (t : Tables) (progress : Vector Progress 6) (target : Int) (e : Fin 6) : Bool :=
  appliesUnder t target e = true ∧ progress[e].passed = false ∧
    ∀ d : Fin 6, d < e → appliesUnder t target d = true → progress[d].passed = true

theorem applies_eq {s : State} {target : Int} (h : s.requested = { mode := 2, target := target }) (e : Fin 6) :
    s.applies e = appliesUnder s.tables target e := by
  rw [Bool.eq_iff_iff]
  simp only [State.applies, appliesUnder, h, Bool.and_eq_true, decide_eq_true_iff, lt_programLength_iff, and_assoc]
  simp [modeOfByte, plateauSpeed, plateauField]

theorem find_allPlateaus (p : Fin 6 → Bool) (e : Fin 6) :
    allPlateaus.find? p = some e ↔ p e = true ∧ ∀ d : Fin 6, d < e → p d = false := by
  revert p e
  decide +kernel

/-- R97: the current plateau is the lowest entry that applies and has not passed. -/
theorem currentPlateau_iff {s : State} {target : Int} (h : s.requested = { mode := 2, target := target }) (e : Fin 6) :
    s.currentPlateau = some e ↔ currentUnder s.tables s.session.progress target e = true := by
  simp only [State.currentPlateau, find_allPlateaus, currentUnder, decide_eq_true_iff, applies_eq h, Bool.and_eq_true,
    Bool.not_eq_true', Bool.and_eq_false_iff, Bool.not_eq_false', and_assoc]
  refine and_congr_right fun _ => and_congr_right fun _ => forall_congr' fun d => forall_congr' fun _ => ?_
  cases appliesUnder s.tables target d <;> simp

/-! ### A spin request outside IDLE -/

theorem actOnRequest_spin {m : Moment} {target : Int} {s v : State} (hv : RequestFound m 2 target s v)
    (h : (s.spin.blindCeiling : Int) < target) (ch : Choice) : actOnRequest ch v = spinRequest ch v := by
  rw [actOnRequest, hv.requested, hv.spin, isSpinRequest_eq_true h]
  rfl

/-- R71: no entry by the index speed touches a weighing that is not ARMED. -/
theorem climbCheck_weigh {s : State} (h : s.weigh.state ≠ .armed) (ch : Choice) :
    (climbCheck ch s).weigh = s.weigh ∧ (climbCheck ch s).loadClass = s.loadClass := by
  have hdwell : (enterDwell ch s).weigh = s.weigh ∧ (enterDwell ch s).loadClass = s.loadClass := by
    rw [enterDwell, endWeighing_of_not_armed (by simpa using h)]
    simp
  unfold climbCheck
  split
  · split
    · split
      · exact hdwell
      · exact ⟨rfl, rfl⟩
    · exact ⟨rfl, rfl⟩
  · exact ⟨rfl, rfl⟩

theorem enterClimb_weigh {s : State} (h : s.weigh.state ≠ .armed) (ch : Choice) :
    (enterClimb ch s).weigh = s.weigh ∧ (enterClimb ch s).loadClass = s.loadClass := by
  refine inOrder_keeps (fun t => t.weigh = s.weigh ∧ t.loadClass = s.loadClass) ⟨rfl, rfl⟩ fun f hf t ⟨hw, hc⟩ => ?_
  simp only [sessionEvents, List.cons_append, List.nil_append, List.mem_cons, List.not_mem_nil, or_false] at hf
  rcases hf with rfl | rfl | rfl | rfl
  · simpa using ⟨hw, hc⟩
  · simpa using ⟨hw, hc⟩
  · simpa using ⟨hw, hc⟩
  · obtain ⟨hw', hc'⟩ := climbCheck_weigh (s := t) (by rwa [hw]) ch
    exact ⟨hw'.trans hw, hc'.trans hc⟩

/-- R97: outside IDLE a spin request leaves the weighing, the trip unit and the ring but for an injection that it aborts. -/
structure SpinKept (s t : State) : Prop where
  trip : t.trip = s.trip
  available : t.ring.available = s.ring.available
  contents : t.ring.contents = s.ring.contents
  weigh : s.weigh.state ≠ .armed → t.weigh = s.weigh ∧ t.loadClass = s.loadClass

theorem enterOpen_spinKept (ch : Choice) (s : State) : SpinKept s (enterOpen ch s) := by
  constructor <;> simp

theorem enterClimb_spinKept (ch : Choice) (s : State) : SpinKept s (enterClimb ch s) :=
  ⟨by simp, by simp, by simp, fun h => enterClimb_weigh h ch⟩

theorem ringAbort_available (s : State) : (ringAbort s).ring.available = s.ring.available := by
  unfold ringAbort; split <;> rfl

theorem abortCorrection_spinKept (s : State) : SpinKept s (abortCorrection s) := by
  refine ⟨by simp, ?_, abortCorrection_contents s, by simp⟩
  rw [abortCorrection_ring]
  split
  · exact ringAbort_available s
  · rfl

theorem SpinKept.trans {s t u : State} (h : SpinKept s t) (h' : SpinKept t u) : SpinKept s u :=
  ⟨h'.trip.trans h.trip, h'.available.trans h.available, h'.contents.trans h.contents, fun harmed => by
    obtain ⟨hw, hc⟩ := h.weigh harmed
    obtain ⟨hw', hc'⟩ := h'.weigh (by rwa [hw])
    exact ⟨hw'.trans hw, hc'.trans hc⟩⟩

theorem SpinKept.refl (s : State) : SpinKept s s := ⟨rfl, rfl, rfl, fun _ => ⟨rfl, rfl⟩⟩

section

variable {s : State} (ch : Choice)

theorem spinRequest_onPlateau (h : s.session.state = .climb ∨ s.session.state = .dwell ∨ s.session.state = .settle) :
    spinRequest ch s = if s.currentPlateau.isSome then s else enterOpen ch s := by
  rcases h with h | h | h <;> simp only [spinRequest, h]

theorem spinRequest_correct (h : s.session.state = .correct) :
    spinRequest ch s = if s.currentPlateau.isSome then s else enterOpen ch (abortCorrection s) := by
  simp only [spinRequest, h]

theorem spinRequest_opened (h : s.session.state = .opened) :
    spinRequest ch s = if s.currentPlateau.isSome then enterClimb ch s else s := by
  simp only [spinRequest, h]

theorem spinRequest_rundown (h : s.session.state = .rundown) : spinRequest ch s = enterClimbOrOpen ch s := by
  simp only [spinRequest, h]

theorem spinRequest_stands (h : s.session.state = .limited ∨ s.session.state = .holdDown ∨ s.session.state = .tripped) :
    spinRequest ch s = s := by
  rcases h with h | h | h <;> simp only [spinRequest, h]

theorem spinRequest_spinKept (h : s.session.state ≠ .idle) : SpinKept s (spinRequest ch s) := by
  cases hstate : s.session.state with
  | idle => exact absurd hstate h
  | climb | dwell | settle =>
    rw [spinRequest_onPlateau ch (by simp [hstate])]
    split
    · exact .refl s
    · exact enterOpen_spinKept ch s
  | correct =>
    rw [spinRequest_correct ch hstate]
    split
    · exact .refl s
    · exact (abortCorrection_spinKept s).trans (enterOpen_spinKept ch _)
  | opened =>
    rw [spinRequest_opened ch hstate]
    split
    · exact enterClimb_spinKept ch s
    · exact .refl s
  | rundown =>
    rw [spinRequest_rundown ch hstate, enterClimbOrOpen]
    split
    · exact enterClimb_spinKept ch s
    · exact enterOpen_spinKept ch s
  | limited | holdDown | tripped =>
    rw [spinRequest_stands ch (by simp [hstate])]
    exact .refl s

end

/-- R94, R97: the current plateau under a spin request of a target, where there is one. -/
theorem currentPlateau_cases {s : State} {target : Int} (h : s.requested = { mode := 2, target := target }) :
    (∃ e, currentUnder s.tables s.session.progress target e = true ∧ s.currentPlateau = some e) ∨
      ((∀ e, currentUnder s.tables s.session.progress target e = false) ∧ s.currentPlateau = none) := by
  cases hcurrent : s.currentPlateau with
  | some e => exact .inl ⟨e, (currentPlateau_iff h e).mp hcurrent, rfl⟩
  | none =>
    refine .inr ⟨fun e => Bool.eq_false_iff.mpr fun he => ?_, rfl⟩
    rw [(currentPlateau_iff h e).mpr he] at hcurrent
    cases hcurrent

/-- R94, R97, R100, R105, R111, R113: a spin request outside IDLE, row by row of Table 6-3. -/
theorem spinRequested_running (m : Moment) (seq : Byte) (target ramp : Sys2Proof.Word) (flags : Byte) (s : State)
    (hheld : s.held = false) (hidle : s.session.state ≠ .idle)
    (hspin : (s.spin.blindCeiling : Int) < max (-1500) (min 1500 target.toInt)) :
    ∃ t, exec (.speedDemandTaken m seq target ramp 2 flags) s = .next t ∧
      t.requested = { mode := 2, target := max (-1500) (min 1500 target.toInt) } ∧
      (let speed (e : Fin 6) : Nat := look s.tables.plateau (e.val * 6) 0
       let current (e : Fin 6) : Bool :=
        currentUnder s.tables s.session.progress (max (-1500) (min 1500 target.toInt)) e
       let entered (x : Session) (e : Fin 6) : Session :=
        if speed e ≤ s.indexSpeed + 10 then { x with state := .dwell, dwell := 0, midRev := true }
        else { x with state := .climb }
       let opened (x : Session) : Session := { x with state := .opened, redist := 0 }
       (s.session.state = .climb ∨ s.session.state = .dwell ∨ s.session.state = .settle →
        t.session = (if ∃ e, current e = true then s.session else opened s.session) ∧ t.ring.ctx = s.ring.ctx) ∧
       (s.session.state = .correct → (∃ e, current e = true) → t.session = s.session ∧ t.ring.ctx = s.ring.ctx) ∧
       (s.session.state = .correct → (∀ e, current e = false) → s.ring.ctx.state = .active →
        t.session.state = .opened ∧ t.session.redist = 0 ∧ t.ring.valve = false ∧ t.ring.ctx.outcome = .aborted ∧
          t.ring.ctx.endTime = s.now + m.elapsed ∧
          ∀ (l : List Correction) (c : Correction), s.session.corrections = l ++ [c] →
            t.session.corrections = l ++ [{ c with outcome := .aborted, credited := s.ring.ctx.credited }] ∧
              t.session.progress[c.plateau].attempts = s.session.progress[c.plateau].attempts + 1) ∧
       (s.session.state = .opened →
        (∀ e, current e = true → t.session = entered s.session e) ∧
          ((∀ e, current e = false) → t.session = s.session)) ∧
       (s.session.state = .rundown →
        (∀ e, current e = true → t.session = entered s.session e) ∧
          ((∀ e, current e = false) → t.session = opened s.session)) ∧
       (s.session.state = .limited ∨ s.session.state = .holdDown ∨ s.session.state = .tripped →
        t.session = s.session)) ∧
      (s.weigh.state ≠ .armed → t.weigh = s.weigh ∧ t.loadClass = s.loadClass) ∧
      t.ring.available = s.ring.available ∧ t.ring.contents = s.ring.contents ∧ t.trip = s.trip ∧ t.est = s.est ∧
      t.tracker = s.tracker ∧ t.limits = s.limits ∧ t.tables = s.tables ∧ t.requests = s.requests := by
  obtain ⟨t, v, hexec, hv, hsession, hring, htrip, hweigh, hclass, hrequested, hest, htracker, hlimits, htables, hrequests⟩ :=
    exec_requestTaken hheld m seq target ramp 2 flags
  rw [actOnRequest_spin hv hspin] at hsession hring htrip hweigh hclass
  have hkept := spinRequest_spinKept (s := v) m.choice (by rwa [hv.session])
  have hctx : v.ring.ctx = s.ring.ctx := by rw [hv.ring]; simp
  have hcurrent (e : Fin 6) := currentPlateau_iff hv.requested e
  have hcases := currentPlateau_cases hv.requested
  rw [hv.tables, hv.session] at hcases
  simp only [hv.tables, hv.session] at hcurrent
  generalize max (-1500) (min 1500 target.toInt) = target at *
  refine ⟨t, hexec, hrequested.trans hv.requested, ⟨fun hstate => ?_, fun hstate hsome => ?_, fun hstate hnone hactive => ?_,
    fun hstate => ?_, fun hstate => ?_, fun hstate => ?_⟩, ?_, ?_, ?_, ?_, hest, htracker, hlimits, htables, hrequests⟩
  · rw [spinRequest_onPlateau _ (by rwa [hv.session])] at hsession hring
    rcases hcases with ⟨e, he, hsome⟩ | ⟨hnone, hcur⟩
    · rw [hsome] at hsession hring
      exact ⟨(hsession.trans hv.session).trans (if_pos ⟨e, he⟩).symm, (congrArg Ring.ctx hring).trans hctx⟩
    · rw [hcur] at hsession hring
      have hopened := hsession.trans (enterOpen_session m.choice v)
      rw [hv.session] at hopened
      have hno : ¬∃ e, currentUnder s.tables s.session.progress target e = true := by simp [hnone]
      exact ⟨hopened.trans (if_neg hno).symm, (congrArg Ring.ctx hring).trans (by simpa using hctx)⟩
  · rw [spinRequest_correct _ (by rwa [hv.session])] at hsession hring
    obtain ⟨e, he⟩ := hsome
    rw [(hcurrent e).mpr he] at hsession hring
    exact ⟨hsession.trans hv.session, (congrArg Ring.ctx hring).trans hctx⟩
  · have hstate' : v.session.state = .correct := by rwa [hv.session]
    rw [spinRequest_correct _ hstate'] at hsession hring
    rcases hcases with ⟨e, he, -⟩ | ⟨-, hcur⟩
    · exact absurd he (by simp [hnone e])
    · rw [hcur] at hsession hring
      have hsession : t.session = { (abortCorrection v).session with state := .opened, redist := 0 } :=
        hsession.trans (by simp)
      have hring : t.ring = (abortCorrection v).ring := hring.trans (by simp)
      obtain ⟨houtcome, hend, hvalve⟩ := abortCorrection_active hstate' (by rw [hctx]; exact hactive)
      refine ⟨by rw [hsession], by rw [hsession], by rw [hring, hvalve], by rw [hring, houtcome],
        by rw [hring, hend, hv.now], fun l c hrecords => ?_⟩
      obtain ⟨hlist, hattempts⟩ := abortCorrection_append (l := l) (x := c) hstate' (by rw [hv.session, hrecords])
      rw [hsession]
      exact ⟨hlist.trans (by rw [hctx]), hattempts.trans (by rw [hv.session])⟩
  · rw [spinRequest_opened _ (by rwa [hv.session])] at hsession
    refine ⟨fun e he => ?_, fun hnone => ?_⟩
    · rw [(hcurrent e).mpr he] at hsession
      refine hsession.trans ((enterClimb_session _ ((hcurrent e).mpr he)).trans ?_)
      rw [hv.session, hv.tables, hv.indexSpeed]
      rfl
    · rcases hcases with ⟨e, he, -⟩ | ⟨-, hcur⟩
      · exact absurd he (by simp [hnone e])
      · rw [hcur] at hsession
        exact hsession.trans hv.session
  · rw [spinRequest_rundown _ (by rwa [hv.session])] at hsession
    refine ⟨fun e he => ?_, fun hnone => ?_⟩
    · rw [enterClimbOrOpen_some _ ((hcurrent e).mpr he)] at hsession
      refine hsession.trans ((enterClimb_session _ ((hcurrent e).mpr he)).trans ?_)
      rw [hv.session, hv.tables, hv.indexSpeed]
      rfl
    · rcases hcases with ⟨e, he, -⟩ | ⟨-, hcur⟩
      · exact absurd he (by simp [hnone e])
      · rw [enterClimbOrOpen_none _ hcur] at hsession
        exact hsession.trans (by simp [hv.session])
  · rw [hsession, spinRequest_stands _ (by rwa [hv.session]), hv.session]
  · intro harmed
    obtain ⟨hw, hc⟩ := hkept.weigh (by rwa [hv.weigh])
    exact ⟨hweigh.trans (hw.trans hv.weigh), hclass.trans (hc.trans hv.loadClass)⟩
  · rw [hring, hkept.available, hv.ring]; simp
  · rw [hring, hkept.contents, hv.ring]; simp
  · rw [htrip, hkept.trip, hv.trip]

/-! ### A session that starts -/

/-- R69, R99: the session begun, IDLE not yet left. -/
def sessionBegun (s : State) : State :=
  armWeighing
    { s with
      session := { s.session with progress := Vector.replicate 6 Progress.reset, corrections := [] }
      ring := { s.ring with available := true } }

theorem spinRequest_idle {s : State} (h : s.session.state = .idle) (ch : Choice) :
    spinRequest ch s = startEntry ch (sessionBegun s) := by
  simp only [spinRequest, h]
  rfl

theorem sessionBegun_inputs (s : State) : SameInputs s (sessionBegun s) := by
  constructor <;> simp [sessionBegun]

theorem sessionBegun_kept (s : State) :
    (sessionBegun s).session =
        { s.session with progress := Vector.replicate 6 Progress.reset, corrections := [] } ∧
      (sessionBegun s).ring = { s.ring with available := true } ∧
      (sessionBegun s).weigh = { Weighing.reset with state := .armed } ∧
      (sessionBegun s).loadClass = s.spin.defaultClass ∧ (sessionBegun s).trip = s.trip ∧
      (sessionBegun s).est = s.est := by
  simp [sessionBegun, armWeighing]

/-- R99, R139: with the drive fresh and no plateau reached, the session leaves IDLE and nothing follows. -/
theorem leaveIdle_calm {ch : Choice} {s : State} {st : SessionState} (hfresh : s.silence.driveSilent = false)
    (hclimb : ∀ t : State, SameInputs s t → t.session = { s.session with state := st } → climbCheck ch t = t) :
    (leaveIdle ch st s).session = { s.session with state := st } ∧ (leaveIdle ch st s).weigh = s.weigh ∧
      (leaveIdle ch st s).loadClass = s.loadClass ∧ (leaveIdle ch st s).trip = s.trip ∧
      (leaveIdle ch st s).ring = s.ring := by
  unfold leaveIdle
  refine (inOrder_keeps (fun t => SameInputs s t ∧ t.session = { s.session with state := st } ∧ t.weigh = s.weigh ∧
    t.loadClass = s.loadClass ∧ t.trip = s.trip ∧ t.ring = s.ring) ?_
    fun f hf t ⟨hinputs, hsession, hrest⟩ => ?_).2
  · exact ⟨by constructor <;> rfl, rfl, rfl, rfl, rfl, rfl⟩
  simp only [sessionEvents, List.cons_append, List.nil_append, List.mem_cons, List.not_mem_nil, or_false] at hf
  rcases hf with rfl | rfl | rfl | rfl | rfl
  · exact ⟨hinputs.trans (judgeLive_effects _ t).sameInputs, by simpa using ⟨hsession, hrest⟩⟩
  · exact ⟨hinputs.trans (judgeLive_effects _ t).sameInputs, by simpa using ⟨hsession, hrest⟩⟩
  · exact ⟨hinputs.trans (recompose_effects t).sameInputs, by simpa using ⟨hsession, hrest⟩⟩
  · rw [judgeCause_false (by simp [State.causeHolds, hinputs.silence, hfresh])]
    exact ⟨hinputs, hsession, hrest⟩
  · rw [hclimb t hinputs hsession]
    exact ⟨hinputs, hsession, hrest⟩

theorem currentUnder_none {t : Tables} (h : look t.plateau 0 0 = 0) (progress : Vector Progress 6) (target : Int)
    (e : Fin 6) : currentUnder t progress target e = false := by
  rw [Bool.eq_false_iff]
  intro hcurrent
  simp only [currentUnder, appliesUnder, decide_eq_true_iff] at hcurrent
  obtain ⟨⟨hpos, -⟩, -⟩ := hcurrent
  exact hpos 0 (Fin.zero_le e) h

theorem currentUnder_first {t : Tables} {progress : Vector Progress 6} {target : Int} (hpos : look t.plateau 0 0 ≠ 0)
    (hbelow : ((look t.plateau 0 0 : Nat) : Int) < target) (hpassed : progress[(0 : Fin 6)].passed = false) :
    currentUnder t progress target 0 = true := by
  simp only [currentUnder, appliesUnder, decide_eq_true_iff]
  refine ⟨⟨fun d hd => ?_, fun c d hcd hd => ?_, hbelow⟩, hpassed, fun d hd => absurd hd (by simp)⟩
  · obtain rfl : d = 0 := by simpa using hd
    exact hpos
  · obtain rfl : d = 0 := by simpa using hd
    exact absurd hcd (by simp)

/-- R69, R99: a session started with the drive fresh and the first plateau not yet reached. -/
structure Started (s t : State) : Prop where
  state : t.session.state = if look s.tables.plateau 0 0 = 0 then .opened else .climb
  redist : t.session.redist = if look s.tables.plateau 0 0 = 0 then 0 else s.session.redist
  corrections : t.session.corrections = []
  progress : t.session.progress = Vector.replicate 6 Progress.reset
  available : t.ring.available = true
  contents : t.ring.contents = s.ring.contents
  weigh : t.weigh = { Weighing.reset with state := .armed }
  loadClass : t.loadClass = s.spin.defaultClass
  trip : t.trip = s.trip

theorem spinRequest_started {s : State} {target : Int} (hidle : s.session.state = .idle)
    (hfresh : s.silence.driveSilent = false) (hrequested : s.requested = { mode := 2, target := target })
    (hfirst : look s.tables.plateau 0 0 = 0 ∨
      (((look s.tables.plateau 0 0 : Nat) : Int) < target ∧ s.indexSpeed + 10 < look s.tables.plateau 0 0))
    (ch : Choice) : Started s (spinRequest ch s) := by
  have hinputs := sessionBegun_inputs s
  obtain ⟨hsession, hring, hweigh, hclass, htrip, -⟩ := sessionBegun_kept s
  have hrequested' : (sessionBegun s).requested = { mode := 2, target := target } := hinputs.requested.trans hrequested
  have hfresh' : (sessionBegun s).silence.driveSilent = false := by rw [hinputs.silence]; exact hfresh
  rw [spinRequest_idle hidle, startEntry]
  by_cases hempty : look s.tables.plateau 0 0 = 0
  · have hnone : (sessionBegun s).currentPlateau = none := by
      rcases currentPlateau_cases hrequested' with ⟨e, he, -⟩ | ⟨-, hcur⟩
      · exact absurd he (by simp [currentUnder_none (t := (sessionBegun s).tables) (by rw [hinputs.tables]; exact hempty)])
      · exact hcur
    rw [hnone, if_neg (by simp)]
    obtain ⟨hs, hw, hc, ht, hr⟩ := leaveIdle_calm (ch := ch) (st := .opened)
      (s := { sessionBegun s with session := { (sessionBegun s).session with redist := 0 } }) hfresh'
      fun t _ hopened => climbCheck_of_not_climb ch (by simp [hopened])
    constructor
    · rw [hs, if_pos hempty]
    · rw [hs, if_pos hempty]
    · rw [hs]; exact (congrArg Session.corrections hsession :)
    · rw [hs]; exact (congrArg Session.progress hsession :)
    · rw [hr]; exact (congrArg Ring.available hring :)
    · rw [hr]; exact (congrArg Ring.contents hring :)
    · exact hw.trans hweigh
    · exact hc.trans hclass
    · exact ht.trans htrip
  · obtain ⟨hbelow, hslow⟩ := hfirst.resolve_left hempty
    have hzero : (sessionBegun s).currentPlateau = some 0 := by
      refine (currentPlateau_iff hrequested' 0).mpr (currentUnder_first ?_ ?_ ?_)
      · rw [hinputs.tables]; exact hempty
      · rw [hinputs.tables]; exact hbelow
      · rw [hsession]; rfl
    rw [hzero, if_pos (by rfl)]
    obtain ⟨hs, hw, hc, ht, hr⟩ := leaveIdle_calm (ch := ch) (st := .climb) (s := sessionBegun s) hfresh'
      fun t ht hclimb => by
        have hcur : t.currentPlateau = some 0 :=
          (currentPlateau_congr ht.tables ht.requested (by rw [hclimb])).trans hzero
        rw [climbCheck_eq ch (by rw [hclimb]) hcur, if_neg]
        rw [ht.tables, State.indexSpeed, ht.tracker, hinputs.tables, hinputs.tracker]
        exact Nat.not_le.mpr hslow
    constructor
    · rw [hs, if_neg hempty]
    · rw [hs, if_neg hempty]; exact (congrArg Session.redist hsession :)
    · rw [hs]; exact (congrArg Session.corrections hsession :)
    · rw [hs]; exact (congrArg Session.progress hsession :)
    · rw [hr]; exact (congrArg Ring.available hring :)
    · rw [hr]; exact (congrArg Ring.contents hring :)
    · exact hw.trans hweigh
    · exact hc.trans hclass
    · exact ht.trans htrip

theorem takeRequest_spin {m : Moment} {seq : Byte} {target : Int} {s : State} (p : PortD)
    (h : (s.spin.blindCeiling : Int) < target) (ch : Choice) :
    takeRequest ch 2 target { demandHeard m seq s with portD := p } =
      recompose (spinRequest ch (requesting 2 target p (demandHeard m seq s))) := by
  rw [takeRequest_eq]
  exact congrArg recompose (actOnRequest_spin (requestFound m seq 2 target p s) h ch)

/-- R10, R13, R16: the spin request of an idle Port D leaves governed by what stands as its session has been served. -/
theorem spinTaken_leaves {s : State} (hsending : s.portD.sending = none) (hfq : s.portD.forwardedQ = [])
    (hlq : s.portD.localQ = []) (m : Moment) (seq : Byte) (target ramp : Sys2Proof.Word) (flags : Byte)
    (hspin : (s.spin.blindCeiling : Int) < max (-1500) (min 1500 target.toInt)) :
    ∃ v d, RequestFound m 2 (max (-1500) (min 1500 target.toInt)) s v ∧ d = recompose (spinRequest m.choice v) ∧
      (let st := govern d (receivedDemand (demandBytes target ramp 2 flags))
       let t := governFrame m.choice (demandBytes target ramp 2 flags) (demandHeard m seq s)
       t.gov = d.gov ∧ t.trip = d.trip ∧ t.session = d.session ∧ t.ring = d.ring ∧ t.weigh = d.weigh ∧
        t.events.live.getLsbD 11 = d.events.live.getLsbD 11 ∧ t.standing = st ∧
        t.portD = { s.portD with
          seq := s.portD.seq + 1
          sending := some
            { bytes := frameBytes 0x11 s.portD.seq (be16 (BitVec.ofInt 16 st.target) ++ be16 (BitVec.ofNat 16 st.ramp) ++
                [st.mode.code, if st.governed then 1 else 0])
              start := s.now + m.elapsed } }) := by
  obtain ⟨hport, -, hnow, -, -⟩ := demandHeard_kept m seq s
  obtain ⟨p, d, -, -, -, hd, -, hleaves⟩ := governFrame_idle (s := demandHeard m seq s) (by rwa [hport])
    (by rwa [hport]) (by rwa [hport]) m.choice (demandBytes target ramp 2 flags)
  rw [demandMode_bytes, receivedTarget_bytes, takeRequest_spin p hspin] at hd
  refine ⟨_, d, requestFound m seq 2 _ p s, hd, ?_⟩
  dsimp only
  rw [hleaves]
  refine ⟨by simp, by simp, by simp, by simp, by simp, (judgeLive_kinds .governing _).live .trip (by decide), by simp, ?_⟩
  simp only [judgeLive_kept, hport, hnow]
  rfl

/-- R69, R97, R98, R99, R123: a spin request that starts a session. -/
theorem spinTaken_starts (m : Moment) (seq : Byte) (target ramp : Sys2Proof.Word) (flags : Byte) (s : State)
    (hheld : s.held = false) (hidle : s.session.state = .idle) (hlatch : s.trip.latch = false)
    (hfresh : s.silence.driveSilent = false)
    (hspin : (s.spin.blindCeiling : Int) < max (-1500) (min 1500 target.toInt))
    (hfirst : look s.tables.plateau 0 0 = 0 ∨
      (((look s.tables.plateau 0 0 : Nat) : Int) < max (-1500) (min 1500 target.toInt) ∧
        s.indexSpeed + 10 < look s.tables.plateau 0 0)) :
    ∃ t, exec (.speedDemandTaken m seq target ramp 2 flags) s = .next t ∧
      t.session.state = (if look s.tables.plateau 0 0 = 0 then .opened else .climb) ∧
      t.session.redist = (if look s.tables.plateau 0 0 = 0 then 0 else s.session.redist) ∧
      t.session.corrections = [] ∧ t.session.progress = Vector.replicate 6 Progress.reset ∧
      t.ring.available = true ∧ t.ring.contents = s.ring.contents ∧
      t.weigh = { Weighing.reset with state := .armed } ∧ t.loadClass = s.spin.defaultClass ∧
      t.trip = s.trip ∧ t.est = s.est ∧ t.tracker = s.tracker ∧ t.drive = s.drive ∧ t.limits = s.limits ∧
      t.tables = s.tables ∧ t.spin = s.spin ∧ t.requests = s.requests ∧
      (s.portD.sending = none → s.portD.forwardedQ = [] → s.portD.localQ = [] →
        t.standing.mode = .spin ∧ t.standing.target = min (max (-1500) (min 1500 target.toInt)) t.gov.spin ∧
          t.portD = { s.portD with
            seq := s.portD.seq + 1
            sending := some
              { bytes := frameBytes 0x11 s.portD.seq (be16 (BitVec.ofInt 16 t.standing.target) ++
                  be16 (BitVec.ofNat 16 t.standing.ramp) ++ [2, if t.standing.governed then 1 else 0])
                start := s.now + m.elapsed } }) := by
  obtain ⟨t, v, hexec, hv, hsession, hring, htrip, hweigh, hclass, -, hest, htracker, hlimits, htables, hrequests⟩ :=
    exec_requestTaken hheld m seq target ramp 2 flags
  have ht : t = governFrame m.choice (demandBytes target ramp 2 flags) (demandHeard m seq s) :=
    Host.Outcome.next.inj (hexec.symm.trans (exec_speedDemandTaken hheld m seq target ramp 2 flags))
  have hstarted (v : State) (hv : RequestFound m 2 (max (-1500) (min 1500 target.toInt)) s v) :
      Started v (spinRequest m.choice v) :=
    spinRequest_started (by rw [hv.session, hidle]) (hv.driveSilent.trans hfresh) hv.requested
      (by rw [hv.tables, hv.indexSpeed]; exact hfirst) m.choice
  rw [actOnRequest_spin hv hspin] at hsession hring htrip hweigh hclass
  have hstart := hstarted v hv
  have hfound := requestFound m seq 2 (max (-1500) (min 1500 target.toInt)) s.portD s
  refine ⟨t, hexec, ?_, ?_, ?_, ?_, ?_, ?_, ?_, ?_, ?_, hest, htracker, ?_, hlimits, htables, ?_, hrequests,
    fun hsending hfq hlq => ?_⟩
  · rw [hsession, hstart.state, hv.tables]
  · rw [hsession, hstart.redist, hv.tables, hv.session]
  · rw [hsession, hstart.corrections]
  · rw [hsession, hstart.progress]
  · rw [hring, hstart.available]
  · rw [hring, hstart.contents, hv.ring]; simp
  · rw [hweigh, hstart.weigh]
  · rw [hclass, hstart.loadClass, hv.spin]
  · rw [htrip, hstart.trip, hv.trip]
  · rw [ht]; simp only [governFrame_kept]; exact hfound.drive
  · rw [ht]; simp only [governFrame_kept]; exact hfound.spin
  · obtain ⟨v', d, hv', hd, hgov, -, -, -, -, -, hstanding, hport⟩ :=
      spinTaken_leaves hsending hfq hlq m seq target ramp flags hspin
    rw [← ht] at hgov hstanding hport
    have hclear : d.trip.latch = false := by
      rw [hd]
      simpa [(hstarted v' hv').trip, hv'.trip] using hlatch
    have hmode : (govern d (receivedDemand (demandBytes target ramp 2 flags))).mode = .spin := by
      rw [govern_mode, hclear, receivedDemand_mode]; rfl
    have htarget := govern_target d (receivedDemand (demandBytes target ramp 2 flags))
    rw [hmode, receivedDemand_target] at htarget
    refine ⟨by rw [hstanding, hmode], ?_, ?_⟩
    · rw [hstanding, hgov, htarget]
      exact max_eq_right (le_min (by omega) (Int.natCast_nonneg _))
    · rw [hport, hstanding, hmode]
      rfl

/-! ### A session that starts with the drive silent -/

/-- R72: a weighing ARMED with nothing recorded, or one that has failed, fails wherever it ends. -/
def WeighingEmpty (w : Weighing) : Prop := w = { Weighing.reset with state := .armed } ∨ w.state = .failed

theorem endWeighing_empty {s : State} (h : WeighingEmpty s.weigh) : (endWeighing s).weigh.state = .failed := by
  rcases h with h | h
  · rw [(endWeighing_failed (by rw [h]) (by rw [h]; rfl)).1]
  · rw [endWeighing_of_not_armed (by simp [h]), h]

theorem abandonWeighing_empty {s : State} (h : WeighingEmpty s.weigh) : (abandonWeighing s).weigh.state = .failed := by
  rw [abandonWeighing_weigh]
  rcases h with h | h
  · rw [if_pos (by rw [h])]
  · rw [if_neg (by simp [h]), h]

theorem enterTripped_empty {s : State} (h : WeighingEmpty s.weigh) (ch : Choice) :
    (enterTripped ch s).weigh.state = .failed := by
  refine abandonWeighing_empty ?_
  rw [sessionEvents_frame]
  simpa using h

/-- R72, R142: an empty weighing is FAILED once the trip has been handed on. -/
theorem setTrip_weigh {s : State} (h : WeighingEmpty s.weigh) (ch : Choice) (c : Cause) :
    (setTrip ch c s).weigh.state = .failed := by
  have hhanded : (tripHanded ch c s).weigh.state = .failed := by
    refine inOrder_brings_under (fun t => WeighingEmpty t.weigh) (fun t => t.weigh.state = .failed) h
      (fun f hf t ht => ?_) (fun f hf t _ ht => ?_)
      ⟨enterTripped ch, by simp [tripBlocks], fun t ht => enterTripped_empty ht ch⟩
    · simp only [tripBlocks, List.mem_cons, List.not_mem_nil, or_false] at hf
      rcases hf with rfl | rfl | rfl | rfl
      · simpa using ht
      · simpa using ht
      · exact .inr (enterTripped_empty ht ch)
      · simpa using ht
    · simp only [tripBlocks, List.mem_cons, List.not_mem_nil, or_false] at hf
      rcases hf with rfl | rfl | rfl | rfl
      · simpa using ht
      · simpa using ht
      · exact enterTripped_empty (.inr ht) ch
      · simpa using ht
  rw [setTrip_eq]
  split <;> exact hhanded

/-- R139, R142: the trip by DRIVE is in force. -/
structure DriveTripped (t : State) : Prop where
  stopped : Stopped t
  line : t.trip.line = true
  first : t.trip.first = some .drive
  causes : t.trip.causes.has .drive = true
  session : t.session.state = .tripped
  weigh : t.weigh.state = .failed
  valve : t.ring.valve = false
  live : t.events.live.getLsbD 11 = true

/-- R139: on its way out of IDLE a session has not yet tripped. -/
structure LeavingIdle (s t : State) : Prop where
  inputs : SameInputs s t
  trip : t.trip = s.trip
  ring : t.ring = s.ring
  running : t.session.state ≠ .idle
  weigh : WeighingEmpty t.weigh

theorem LeavingIdle.trips {s t : State} (h : LeavingIdle s t) (hlatch : s.trip.latch = false)
    (hsilent : s.silence.driveSilent = true) (hvalve : s.ring.ctx.state ≠ .active → s.ring.valve = false)
    (ch : Choice) : DriveTripped (judgeCause ch .drive t) := by
  have hholds : t.causeHolds .drive = true := by
    rw [causeHolds_drive (by rw [h.inputs.silence]; exact hsilent)]
    exact bne_iff_ne.mpr h.running
  rw [judgeCause_clear hholds (by rw [h.trip]; exact hlatch)]
  obtain ⟨-, -, htrip, hsession, hring, hstopped⟩ := setTrip_trippedBy ch .drive t
  refine ⟨hstopped, by rw [htrip]; rfl, by rw [htrip]; rfl, ?_, by rw [hsession], setTrip_weigh h.weigh ch .drive, ?_,
    setTrip_live ch .drive t⟩
  · rw [htrip]
    split <;> rfl
  · rw [hring]
    by_cases hactive : t.ring.ctx.state = .active
    · rw [ringAbort_active hactive]; rfl
    · rw [ringAbort_not_active hactive, h.ring]
      exact hvalve (by rwa [← h.ring])

/-- R139, R142: what follows a trip by DRIVE leaves it in force. -/
theorem DriveTripped.kept {K : List Kind} {s t : State} (h : DriveTripped s) (heffects : Effects s t)
    (htrip : t.trip = s.trip) (hsession : t.session = s.session) (hweigh : t.weigh = s.weigh) (hring : t.ring = s.ring)
    (hkinds : KindsStand K s t) (hk : Kind.trip ∉ K := by decide) : DriveTripped t :=
  ⟨heffects.stopped h.stopped, by rw [htrip, h.line], by rw [htrip, h.first], by rw [htrip, h.causes],
    by rw [hsession, h.session], by rw [hweigh, h.weigh], by rw [hring, h.valve], (hkinds.live .trip hk).trans h.live⟩

theorem judgeLive_driveTripped {s : State} (h : DriveTripped s) {k : Kind} (hk : k ≠ .trip)
    (hoverflow : k ≠ .queueOverflow) : DriveTripped (judgeLive k s) :=
  h.kept (judgeLive_effects k s hoverflow) (by simp) (by simp) (by simp) (by simp) (judgeLive_kinds k s) (by simpa using hk.symm)

theorem recompose_driveTripped {s : State} (h : DriveTripped s) : DriveTripped (recompose s) :=
  h.kept (recompose_effects s) (by simp) (by simp) (by simp) (by simp) (recompose_kinds s)

theorem LeavingIdle.step {s t u : State} (h : LeavingIdle s t) (heffects : Effects t u) (htrip : u.trip = t.trip)
    (hring : u.ring = t.ring) (hsession : u.session = t.session) (hweigh : u.weigh = t.weigh) : LeavingIdle s u :=
  ⟨h.inputs.trans heffects.sameInputs, htrip.trans h.trip, hring.trans h.ring, by rw [hsession]; exact h.running,
    by rw [hweigh]; exact h.weigh⟩

/-- R71, R100: an entry to DWELL on the way ends the empty weighing. -/
theorem LeavingIdle.climbs {s t : State} (h : LeavingIdle s t) (ch : Choice) : LeavingIdle s (climbCheck ch t) := by
  have hdwell : LeavingIdle s (enterDwell ch t) :=
    ⟨h.inputs.trans (enterDwell_effects ch t).sameInputs, by simp [h.trip], by simp [h.ring], by simp,
      .inr (endWeighing_empty (by simpa using h.weigh))⟩
  unfold climbCheck
  split
  · split
    · split
      · exact hdwell
      · exact h
    · exact h
  · exact h

/-- R139: with the drive silent a session that leaves IDLE trips, whatever the order. -/
theorem leaveIdle_trips {s : State} {st : SessionState} (hst : st ≠ .idle) (hlatch : s.trip.latch = false)
    (hsilent : s.silence.driveSilent = true) (hweigh : WeighingEmpty s.weigh)
    (hvalve : s.ring.ctx.state ≠ .active → s.ring.valve = false) (ch : Choice) : DriveTripped (leaveIdle ch st s) := by
  have hdrive : ∀ t, SameInputs s t → DriveTripped t → DriveTripped (judgeCause ch .drive t) := fun t hinputs ht => by
    have hholds : t.causeHolds .drive = true := by
      rw [causeHolds_drive (by rw [hinputs.silence]; exact hsilent), ht.session]; rfl
    rw [judgeCause_set hholds ht.stopped.latch]
    exact ⟨⟨ht.stopped.latch, ht.stopped.spin, ht.stopped.agitate, ht.stopped.stop⟩, ht.line, ht.first, rfl, ht.session,
      ht.weigh, ht.valve, ht.live⟩
  unfold leaveIdle
  refine inOrder_brings_under (fun t => SameInputs s t ∧ (LeavingIdle s t ∨ DriveTripped t)) DriveTripped
    ⟨by constructor <;> rfl, .inl ⟨by constructor <;> rfl, rfl, rfl, hst, hweigh⟩⟩
    (fun f hf t ⟨hinputs, ht⟩ => ?_) (fun f hf t ⟨hinputs, _⟩ ht => ?_)
    ⟨judgeCause ch .drive, by simp, fun t ⟨hinputs, ht⟩ =>
      ht.elim (fun h => h.trips hlatch hsilent hvalve ch) (hdrive t hinputs)⟩
  · simp only [sessionEvents, List.cons_append, List.nil_append, List.mem_cons, List.not_mem_nil, or_false] at hf
    rcases hf with rfl | rfl | rfl | rfl | rfl
    · exact ⟨hinputs.trans (judgeLive_effects _ t).sameInputs,
        ht.imp (·.step (judgeLive_effects _ t) (by simp) (by simp) (by simp) (by simp))
          (judgeLive_driveTripped · (by decide) (by decide))⟩
    · exact ⟨hinputs.trans (judgeLive_effects _ t).sameInputs,
        ht.imp (·.step (judgeLive_effects _ t) (by simp) (by simp) (by simp) (by simp))
          (judgeLive_driveTripped · (by decide) (by decide))⟩
    · exact ⟨hinputs.trans (recompose_effects t).sameInputs,
        ht.imp (·.step (recompose_effects t) (by simp) (by simp) (by simp) (by simp)) recompose_driveTripped⟩
    · exact ⟨hinputs.trans (judgeCause_effects ch _ t).sameInputs,
        .inr (ht.elim (fun h => h.trips hlatch hsilent hvalve ch) (hdrive t hinputs))⟩
    · refine ⟨hinputs.trans (climbCheck_effects ch t).sameInputs, ht.imp (·.climbs ch) fun h => ?_⟩
      rwa [climbCheck_of_not_climb ch (by simp [h.session])]
  · simp only [sessionEvents, List.cons_append, List.nil_append, List.mem_cons, List.not_mem_nil, or_false] at hf
    rcases hf with rfl | rfl | rfl | rfl | rfl
    · exact judgeLive_driveTripped ht (by decide) (by decide)
    · exact judgeLive_driveTripped ht (by decide) (by decide)
    · exact recompose_driveTripped ht
    · exact hdrive t hinputs ht
    · rw [climbCheck_of_not_climb ch (by simp [ht.session])]
      exact ht

/-- R19, R20: with the latch set a demand of another mode than STOP leaves as the trip stop, GOVERNED. -/
theorem govern_stops {s : State} (hlatch : s.trip.latch = true) {f : QFrame} (hmode : demandMode f.payload ≠ 0) :
    govern s f = { mode := .stop, target := 0, ramp := s.spin.tripRamp, governed := true } := by
  have hcode : (Mode.stop.code != demandMode f.payload) = true := bne_iff_ne.mpr hmode.symm
  simp only [govern, hlatch, if_true, hcode, Bool.or_true, Bool.true_or]

theorem spinRequest_trips {s : State} (hidle : s.session.state = .idle) (hlatch : s.trip.latch = false)
    (hsilent : s.silence.driveSilent = true) (hvalve : s.ring.ctx.state ≠ .active → s.ring.valve = false)
    (ch : Choice) : DriveTripped (spinRequest ch s) := by
  have hinputs := sessionBegun_inputs s
  obtain ⟨-, hring, hweigh, -, htrip, -⟩ := sessionBegun_kept s
  have hlatch' : (sessionBegun s).trip.latch = false := by rw [htrip]; exact hlatch
  have hsilent' : (sessionBegun s).silence.driveSilent = true := by rw [hinputs.silence]; exact hsilent
  have hvalve' : (sessionBegun s).ring.ctx.state ≠ .active → (sessionBegun s).ring.valve = false := by
    rw [hring]; exact hvalve
  rw [spinRequest_idle hidle, startEntry]
  split
  · exact leaveIdle_trips (st := .climb) (by decide) hlatch' hsilent' (.inl hweigh) hvalve' ch
  · exact leaveIdle_trips (st := .opened)
      (s := { sessionBegun s with session := { (sessionBegun s).session with redist := 0 } }) (by decide) hlatch' hsilent' (.inl hweigh) hvalve' ch

/-- Settles O12: a session started with the drive fresh or silent, and each row of Table 6-3 for a spin request. -/
theorem sessionStarts : Obligations.SessionStarts := by
  refine ⟨spinTaken_starts, fun m seq target ramp flags s hheld hidle hlatch hsilent hspin hsending hfq hlq => ?_,
    spinRequested_running⟩
  refine ⟨_, exec_speedDemandTaken hheld m seq target ramp 2 flags, ?_⟩
  obtain ⟨v, d, hv, hd, hgov, htrip, hsession, hring, hweigh, hlive, hstanding, hport⟩ :=
    spinTaken_leaves hsending hfq hlq m seq target ramp flags hspin
  have htripped : DriveTripped d := by
    rw [hd]
    refine recompose_driveTripped (spinRequest_trips (by rw [hv.session, hidle]) (by rw [hv.trip, hlatch])
      (hv.driveSilent.trans hsilent) ?_ m.choice)
    rw [hv.ring]
    exact fun h => tick_valve_closed (s := s) (by simpa using h) m
  obtain ⟨hstopped, hline, hfirst, hcauses, hstate, hfailed, hvalve, hlive'⟩ := htripped
  have hspin' : d.spin = s.spin := by rw [hd]; simpa using hv.spin
  have hleft := govern_stops hstopped.latch (f := receivedDemand (demandBytes target ramp 2 flags))
    (by rw [receivedDemand_mode]; decide)
  rw [hspin'] at hleft
  have hzero : be16 (BitVec.ofInt 16 0) = [0, 0] := by decide
  rw [hleft] at hstanding hport
  simp only [hzero] at hport
  exact ⟨by rw [htrip, hstopped.latch], by rw [htrip, hline], by rw [htrip, hfirst], by rw [htrip, hcauses],
    by rw [hsession, hstate], by rw [hweigh, hfailed], by rw [hgov, hstopped.spin], by rw [hgov, hstopped.agitate],
    by rw [hring, hvalve], hlive.trans hlive', hstanding, hport⟩

end Sys2Proof.Machine
end

section
/-! SUPPORT. A WRITE: what it finds, how it fails, what it stores element by element, and how it is answered (R160, R162 to
R164). -/

namespace Sys2Proof.Machine

open Sys2Proof.Safety

/-! ### The elements a request carries -/

/-- R3: the bytes of a list of elements give it back. -/
theorem dataWords_flatMap_be16 (ws : List Word) : dataWords (ws.flatMap be16) = ws := by
  induction ws with
  | nil => rfl
  | cons w ws ih => rw [List.flatMap_cons, dataWords_be16, ih]

theorem flatMap_be16_length (ws : List Word) : (ws.flatMap be16).length = 2 * ws.length := by
  induction ws with
  | nil => rfl
  | cons w ws ih =>
    rw [List.flatMap_cons, List.length_append, ih, List.length_cons]
    have htwo : (be16 w).length = 2 := rfl
    omega

theorem dataWords_length (l : List Byte) : (dataWords l).length = l.length / 2 := by
  induction l using dataWords.induct with
  | case1 hi lo rest ih => rw [dataWords, List.length_cons, ih]; simp only [List.length_cons]; omega
  | case2 l h =>
    match l, h with
    | [], _ => rfl
    | [b], _ => simp [dataWords]
    | hi :: lo :: rest, h => exact absurd rfl (h hi lo rest)

theorem clampNat_eq_max_min {lo hi : Nat} (h : lo ≤ hi) (v : Nat) : clampNat lo hi v = max lo (min hi v) := by
  unfold clampNat
  split_ifs <;> omega

/-! ### The checks of a WRITE -/

/-- R164: the front request of WRITE is run at its moment. -/
theorem exec_write {s : State} {r : Request} {rest : List Request} (m : Moment) (hheld : s.held = false)
    (hr : s.requests = r :: rest) (hop : r.op = 2) (hroom : s.portC.localQ.length < 4) :
    exec (.write m) s = .next (runWrite m.choice r { tick m s with requests := rest }) :=
  happen_execute m (runWrite m.choice) hheld hr (by simp [hop]) hroom

/-- R164: a WRITE that fails is only answered. -/
theorem runWrite_refused {r : Request} {s : State} {status : Byte} (h : writeFailure r s = some status) (ch : Choice) :
    runWrite ch r s = respond r status [] s := by
  simp only [runWrite, h]

/-- R160: the data is no whole number of elements from one to ten. -/
theorem badWrite_iff (r : Request) :
    r.badWrite = true ↔ r.data.length % 2 = 1 ∨ r.data.length = 0 ∨ 20 < r.data.length := by
  simp only [Request.badWrite, Bool.or_eq_true, beq_iff_eq, decide_eq_true_eq, or_assoc]

/-- Table 1-14: the fixed entries of the class table. -/
theorem fixedAction_isSome {i : Nat} (h : i < 64) :
    (fixedAction .c (BitVec.ofNat 6 i)).isSome = true ↔ i ∈ [0x11, 0x31, 0x3C, 0x3D, 0x3E, 0x3F] := by
  have hall : ∀ k : Fin 64, (fixedAction .c (BitVec.ofNat 6 k.val)).isSome = true ↔
      k.val ∈ [0x11, 0x31, 0x3C, 0x3D, 0x3E, 0x3F] := by decide
  exact hall ⟨i, h⟩

/-- R164: the elements that no WRITE may change. -/
theorem elementReadOnly_iff (obj : Byte) {i : Nat} (h : obj = 0x01 → i < 64) :
    elementReadOnly obj i = true ↔
      obj = 0x40 ∨ obj = 0x50 ∨ obj = 0x52 ∨ obj = 0x53 ∨ obj = 0x60 ∨ (obj = 0x51 ∧ 4 ≤ i) ∨
        (obj = 0x01 ∧ i ∈ [0x11, 0x31, 0x3C, 0x3D, 0x3E, 0x3F]) := by
  unfold elementReadOnly
  split_ifs with h01 h51
  · rw [fixedAction_isSome (h h01), h01]; simp
  · rw [h51]; simp
  · simp only [Bool.or_eq_true, beq_iff_eq, or_assoc, h01, h51, false_and, or_false]

/-- R164: the objects written in session IDLE alone. -/
theorem idleOnly_iff (obj : Byte) :
    idleOnly obj = true ↔ obj ∈ ([0x10, 0x11, 0x12, 0x13, 0x14, 0x15, 0x20, 0x51] : List Byte) := by
  simp [idleOnly, or_assoc]

theorem limitLocked_iff (s : State) (obj : Byte) {idx n : Nat} (hn : 0 < n) :
    limitLocked s obj idx n = true ↔
      obj = 0x30 ∧ ((idx = 0 ∧ s.limits.abs ≠ none) ∨ (idx ≤ 1 ∧ 2 ≤ idx + n ∧ s.limits.mass ≠ none)) := by
  simp only [limitLocked, touches, Bool.and_eq_true, Bool.or_eq_true, beq_iff_eq, decide_eq_true_eq,
    Option.isSome_iff_ne_none]
  refine and_congr_right fun _ => or_congr (and_congr_left' ?_) ?_
  · omega
  · rw [and_assoc]
    exact and_congr_right fun _ => and_congr_left' (by omega)

/-- R160, R164: what a WRITE must satisfy to be accepted. -/
theorem writeFailure_eq_none {r : Request} {s : State} {size : Nat} (hsize : objectSize r.object = some size)
    (hdata : r.badWrite = false) (hindex : r.index.toNat + r.words.length ≤ size)
    (hwritable : ∀ k < r.words.length, elementReadOnly r.object (r.index.toNat + k) = false)
    (hidle : idleOnly r.object = true → s.session.state = .idle)
    (hfree : limitLocked s r.object r.index.toNat r.words.length = false) : writeFailure r s = none := by
  have hro : ¬((List.range r.words.length).any fun k => elementReadOnly r.object (r.index.toNat + k)) = true := by
    rw [List.any_eq_true]
    rintro ⟨k, hk, hread⟩
    exact absurd ((hwritable k (List.mem_range.mp hk)).symm.trans hread) (by decide)
  have hbusy : ¬(idleOnly r.object && s.session.state != .idle) = true := by
    rw [Bool.and_eq_true, bne_iff_ne]
    exact fun ⟨honly, hne⟩ => hne (hidle honly)
  simp only [writeFailure, hsize]
  rw [if_neg (by simp [hdata]), if_neg (by omega), if_neg hro, if_neg hbusy, if_neg (by simp [hfree])]

/-- R160, R164: the failures of a WRITE, in the order of Table 10-1. -/
theorem writeFailure_eq (r : Request) (s : State) :
    writeFailure r s =
      (match objectSize r.object with
        | none => some 3
        | some size =>
          if r.data.length % 2 = 1 ∨ r.data.length = 0 ∨ 20 < r.data.length then some 5
          else if size < r.index.toNat + r.data.length / 2 then some 4
          else if (List.range (r.data.length / 2)).any (fun k => elementReadOnly r.object (r.index.toNat + k)) then some 6
          else if idleOnly r.object = true ∧ s.session.state ≠ .idle then some 7
          else if limitLocked s r.object r.index.toNat (r.data.length / 2) = true then some 8
          else none) := by
  unfold writeFailure
  simp only [← badWrite_iff, Request.words, dataWords_length, Bool.and_eq_true, bne_iff_ne]
  rfl

/-! ### What a write stores, element by element -/

/-- R164: the element of an object of settings, as it reads after a word was stored in it. -/
def storedWord (cap : Nat) (obj : Byte) (i : Nat) (w : Word) : Word :=
  let v := w.toNat
  if obj = 0x01 then (disposalOf (w.extractLsb' 8 8)).code ++ (disposalOf (w.extractLsb' 0 8)).code
  else uWord
    (if obj = 0x10 then min 9999 v else if obj = 0x11 then min 2000 v else if obj = 0x14 then clampPlateau (i % 6) v
     else if obj = 0x20 then spinStored i w
     else if obj = 0x21 then
      (if i = 0 then min 255 v else if i = 1 then clampNat 1 255 v else if i = 2 then min 255 v
       else if i = 3 then min 5 v else min 1 v)
     else if obj = 0x30 then (if i = 0 then clampNat 300 1500 v else clampNat 100 9999 v)
     else if obj = 0x51 then min cap v else v)

/-- Table 10-2: the objects that a WRITE may change, but for the chamber contents. -/
def settingsList : List Byte := [0x01, 0x10, 0x11, 0x12, 0x13, 0x14, 0x15, 0x20, 0x21, 0x30]

/-- Table 10-2: the number of elements of an object that a WRITE may address. -/
def writableSize (obj : Byte) : Nat := if obj = 0x51 then 4 else (objectSize obj).getD 0

theorem put_map_uWord {n : Nat} (v : Vector Nat n) (i x : Nat) :
    (put v i x).toList.map uWord = (v.toList.map uWord).set i (uWord x) := by
  rw [put, Vector.toList_setIfInBounds, List.map_set]

theorem sourceOf_code (v : Nat) : (sourceOf v).code = min 5 v := by
  match v with
  | 0 | 1 | 2 | 3 | 4 => rfl
  | n + 5 =>
    unfold sourceOf
    rw [if_neg (by omega), if_neg (by omega), if_neg (by omega), if_neg (by omega), if_neg (by omega)]
    change 5 = _
    omega

theorem setSource_source (now : Time) (src : Source) (m : Monitor) : (m.setSource now src).source = src := by
  unfold Monitor.setSource
  split
  · assumption
  · rfl

theorem setMode_auto (now : Time) (auto : Bool) (m : Monitor) : (m.setMode now auto).auto = auto := by
  unfold Monitor.setMode
  split
  · assumption
  · rfl

theorem setSource_auto (now : Time) (src : Source) (m : Monitor) : (m.setSource now src).auto = m.auto := by
  unfold Monitor.setSource
  split <;> rfl

theorem setMode_source (now : Time) (auto : Bool) (m : Monitor) : (m.setMode now auto).source = m.source := by
  unfold Monitor.setMode
  split <;> rfl

theorem markWord_of_ne_zero (v : Nat) : markWord (v != 0) = uWord (min 1 v) := by
  match v with
  | 0 => rfl
  | n + 1 =>
    rw [Nat.min_eq_left (by omega)]
    rfl

theorem storeService_words (i v : Nat) (s : State) (hi : i < 5) :
    (storeService i v s).serviceWords = s.serviceWords.set i
      (uWord (if i = 0 then min 255 v else if i = 1 then clampNat 1 255 v else if i = 2 then min 255 v
        else if i = 3 then min 5 v else min 1 v)) := by
  match i, hi with
  | 0, _ | 1, _ | 2, _ => rfl
  | 3, _ =>
    simp [storeService, State.serviceWords, setSource_source, setSource_auto, sourceOf_code]
  | 4, _ =>
    simp [storeService, State.serviceWords, setMode_source, setMode_auto, markWord_of_ne_zero]

theorem storeLimit_words (i v : Nat) (s : State) (hi : i < 2) :
    (storeLimit i v s).limitWords = s.limitWords.set i
      (uWord (if i = 0 then clampNat 300 1500 v else clampNat 100 9999 v)) := by
  match i, hi with
  | 0, _ | 1, _ => rfl

theorem disposal_code (d : Disposal) :
    actionCode (match d with | .pass => .pass | .drop => .drop) = d.code := by cases d <;> rfl

theorem storeClass_words (i : Nat) (w : Word) (s : State) (hi : i < 64)
    (hfree : i ∉ [0x11, 0x31, 0x3C, 0x3D, 0x3E, 0x3F]) :
    (List.range 64).map (storeClass i w s).classWord =
      ((List.range 64).map s.classWord).set i
        ((disposalOf (w.extractLsb' 8 8)).code ++ (disposalOf (w.extractLsb' 0 8)).code) := by
  apply List.ext_getElem (by simp)
  intro k hk _
  have hk64 : k < 64 := by simpa using hk
  rw [List.getElem_set]
  simp only [List.getElem_map, List.getElem_range]
  split_ifs with h
  · subst h
    rw [classWord_ordinary _ ⟨i, hi⟩ hfree]
    simp [storeClass, put]
  · simp only [State.classWord, State.action, storeClass, BitVec.toNat_ofNat]
    rw [look_put_other _ _ _ _ _ (by omega)]

/-- R164: storing one element of an object changes that element, as clamped, and no other of the object. -/
theorem storeElement_objectWords {obj : Byte} {i : Nat} (w : Word) (s : State)
    (hobj : obj ∈ settingsList ∨ obj = 0x51) (hi : i < writableSize obj)
    (hfree : obj = 0x01 → i ∉ [0x11, 0x31, 0x3C, 0x3D, 0x3E, 0x3F]) :
    (storeElement obj i w s).objectWords obj = (s.objectWords obj).set i (storedWord s.spin.chamberCap obj i w) := by
  simp only [settingsList, List.mem_cons, List.not_mem_nil, or_false, or_assoc] at hobj
  rcases hobj with rfl | rfl | rfl | rfl | rfl | rfl | rfl | rfl | rfl | rfl | rfl
  · exact storeClass_words i w s hi (hfree rfl)
  · exact put_map_uWord _ _ _
  · exact put_map_uWord _ _ _
  · exact put_map_uWord _ _ _
  · exact put_map_uWord _ _ _
  · exact put_map_uWord _ _ _
  · exact put_map_uWord _ _ _
  · change (s.spin.set i (spinStored i w)).list.map uWord = (s.spin.list.map uWord).set i (uWord (spinStored i w))
    rw [SpinSettings.list_set, List.map_set]
  · exact storeService_words i w.toNat s hi
  · exact storeLimit_words i w.toNat s hi
  · change ({ s.ring with contents := put s.ring.contents i (min s.spin.chamberCap w.toNat) } : Ring).words =
      s.ring.words.set i (uWord (min s.spin.chamberCap w.toNat))
    have hi4 : i < 4 := hi
    simp only [Ring.words, List.append_assoc, put_map_uWord]
    rw [List.set_append_left _ _ (by simpa using hi4)]

/-- R121: the capacity is a spin setting. -/
theorem storeElement_cap {obj : Byte} (h : obj ≠ 0x20) (i : Nat) (w : Word) (s : State) :
    (storeElement obj i w s).spin = s.spin := by
  generalize hstep : storeElement obj i w s = t
  cases hstep ▸ storeElement_step obj i w s with
  | service => unfold storeService; split <;> rfl
  | limit => unfold storeLimit; split <;> rfl
  | spin hspin => exact absurd hspin h
  | _ => rfl

/-- R164: a write lays the elements it stores over those that stood. -/
theorem storeElements_objectWords {obj : Byte} (hspin : obj ≠ 0x20) (hobj : obj ∈ settingsList ∨ obj = 0x51)
    (i : Nat) (ws : List Word) (s : State) (hi : i + ws.length ≤ writableSize obj)
    (hfree : obj = 0x01 → ∀ k < ws.length, i + k ∉ [0x11, 0x31, 0x3C, 0x3D, 0x3E, 0x3F])
    (hlength : writableSize obj ≤ (s.objectWords obj).length) :
    (storeElements obj i ws s).objectWords obj =
      (s.objectWords obj).take i ++ ws.mapIdx (fun k w => storedWord s.spin.chamberCap obj (i + k) w) ++
        (s.objectWords obj).drop (i + ws.length) := by
  induction ws generalizing i s with
  | nil => simp [storeElements]
  | cons w ws ih =>
    rw [List.length_cons] at hi
    have hone := storeElement_objectWords (obj := obj) (i := i) w s hobj (by omega)
      (fun h => by simpa using hfree h 0 (by simp))
    rw [storeElements, ih (i + 1) _ (by omega) ?_ (by rw [hone, List.length_set]; exact hlength), hone,
      storeElement_cap hspin, List.mapIdx_cons]
    · have hlt : i < ((s.objectWords obj).set i (storedWord s.spin.chamberCap obj i w)).length := by
        rw [List.length_set]; omega
      rw [List.take_succ_eq_append_getElem hlt, List.getElem_set_self, List.take_set_of_le (by omega),
        List.drop_set_of_lt (by omega), List.length_cons]
      simp only [Nat.add_zero, List.append_assoc, List.nil_append, List.cons_append, Nat.add_assoc,
        Nat.add_comm 1]
    · intro h k hk
      have := hfree h (k + 1) (by simpa using hk)
      rwa [show i + 1 + k = i + (k + 1) by omega]

/-! ### What a write leaves -/

/-- Tables 10-2 to 10-4: the elements of an object of settings. -/
def settingsWords (o : Byte) (s : State) : List Word :=
  if o = 0x01 then (List.range 64).map s.classWord
  else if o = 0x10 then s.tables.envelope.toList.map uWord
  else if o = 0x11 then s.tables.rampLimit.toList.map uWord
  else if o = 0x12 then s.tables.gain.toList.map uWord
  else if o = 0x13 then s.tables.phase.toList.map uWord
  else if o = 0x14 then s.tables.plateau.toList.map uWord
  else if o = 0x15 then s.tables.weighThresh.toList.map uWord
  else if o = 0x20 then s.spin.list.map uWord
  else if o = 0x21 then s.serviceWords
  else if o = 0x30 then s.limitWords
  else []

theorem objectWords_settings {o : Byte} (h : o ∈ settingsList) (s : State) : s.objectWords o = settingsWords o s := by
  simp only [settingsList, List.mem_cons, List.not_mem_nil, or_false] at h
  rcases h with rfl | rfl | rfl | rfl | rfl | rfl | rfl | rfl | rfl | rfl <;> rfl

/-- R162: an object of settings reads the same where the settings, and the monitor counter's source and mode, are. -/
theorem objectWords_congr {s t : State} (h : SameSettings s t) (hsource : t.monitor.source = s.monitor.source)
    (hauto : t.monitor.auto = s.monitor.auto) {o : Byte} (ho : o ∈ settingsList) :
    t.objectWords o = s.objectWords o := by
  obtain ⟨hclass, htables, hspin, hservice, hlimits⟩ := h
  have hwords : t.classWord = s.classWord := by
    funext i
    simp only [State.classWord, State.action, hclass]
  rw [objectWords_settings ho, objectWords_settings ho]
  simp only [settingsWords, State.serviceWords, State.limitWords, hwords, htables, hspin, hservice, hlimits, hsource, hauto]

/-- R164: a stored element leaves the other objects of settings. -/
theorem StoreStep.words_other {obj : Byte} {i : Nat} {w : Word} {s t : State} (h : StoreStep obj i w s t) {o : Byte}
    (ho : o ∈ settingsList) (hne : o ≠ obj) : t.objectWords o = s.objectWords o := by
  rw [objectWords_settings ho, objectWords_settings ho]
  cases h with
  | service hobj =>
    subst hobj
    rw [settingsWords, settingsWords, if_neg hne, if_neg hne]
    match i with
    | 0 | 1 | 2 | 3 | 4 | _ + 5 => rfl
  | limit hobj =>
    subst hobj
    rw [settingsWords, settingsWords, if_neg hne, if_neg hne]
    match i with
    | 0 | 1 | _ + 2 => rfl
  | contents | nothing => rfl
  | _ hobj => subst hobj; rw [settingsWords, settingsWords, if_neg hne, if_neg hne]; rfl

end Sys2Proof.Machine
end

section
/-! SUPPORT. The invariants of the ceilings, the trip unit, the session, the ring and the live conditions, one by one; and
that each shared operation leaves every one of them standing that stood before it. -/

namespace Sys2Proof.Machine

open Sys2Proof.Safety

/-! ### The invariants -/

/-- The tests of Safety.lean that are about more than one block. -/
inductive Invariant where
  /-- R89: the ceilings are those of the terms standing. -/
  | composed
  /-- R96, R144: the session is TRIPPED exactly while the latch is set. -/
  | latched
  /-- R104, R126: an injection is ACTIVE exactly in CORRECT, and VALVE is closed while none is. -/
  | injection
  /-- R126: VALVE is as its conditions. -/
  | valve
  /-- R97, R109: the session's state has the plateau it stands on. -/
  | plateau
  /-- R102: the passed marks. -/
  | passed
  /-- R105: the correction records. -/
  | corrections
  /-- R135: the bleed timer. -/
  | bleed
  /-- R143: a cause that is true is in the set of a set latch. -/
  | taken (c : Cause)
  /-- R148: a live value is its condition. -/
  | live (k : Kind)

/-- What each of them says of a state. -/
def Invariant.Stands : Invariant → State → Prop
  | .composed, s => s.composed
  | .latched, s => s.session.state = .tripped ↔ s.trip.latch = true
  | .injection, s =>
    (s.ring.ctx.state = .active ↔ s.session.state = .correct) ∧ (s.ring.ctx.state ≠ .active → s.ring.valve = false)
  | .valve, s => s.ring.valve = s.valveOpen
  | .plateau, s => sessionSound s = true
  | .passed, s => passedRun s = true
  | .corrections, s => correctionsSound s = true
  | .bleed, s => bleedSound s = true
  | .taken c, s => s.causeHolds c = true → s.trip.latch = true ∧ s.trip.causes.has c = true
  | .live k, s => s.events.live.getLsbD k.number.val = s.condition k

/-- Every invariant but those of `B` stands in `t` if it stood in `s`. -/
def Sustains (B : List Invariant) (s t : State) : Prop := ∀ i, i ∉ B → i.Stands s → i.Stands t

/-- Every invariant stands in `t` if it stood in `s`. -/
abbrev KeepsAll : State → State → Prop := Sustains []

namespace Sustains

variable {B C : List Invariant} {s t u : State}

theorem refl (B : List Invariant) (s : State) : Sustains B s s := fun _ _ h => h

theorem trans (h : Sustains B s t) (h' : Sustains B t u) : Sustains B s u := fun i hi hs => h' i hi (h i hi hs)

theorem mono (h : Sustains B s t) (hBC : B ⊆ C) : Sustains C s t := fun i hi => h i fun hB => hi (hBC hB)

theorem of_all (h : KeepsAll s t) : Sustains B s t := fun i _ => h i (List.not_mem_nil)

theorem then_all (h : Sustains B s t) (h' : KeepsAll t u) : Sustains B s u := h.trans h'.of_all

/-- Effects in whatever order that each leave the invariants standing, and bring about those that did not stand. -/
theorem inOrder {code : List Nat} {fs : List (State → State)} (h : Sustains B s t)
    (hkeeps : ∀ f ∈ fs, ∀ v, KeepsAll v (f v)) (hbrings : ∀ i ∈ B, ∃ f ∈ fs, ∀ v, i.Stands (f v)) :
    KeepsAll s (inOrder code fs t) := by
  intro i _ hs
  by_cases hi : i ∈ B
  · exact inOrder_brings i.Stands (fun f hf v => hkeeps f hf v i List.not_mem_nil) (hbrings i hi)
  · exact inOrder_keeps i.Stands (h i hi hs) fun f hf v => hkeeps f hf v i List.not_mem_nil

/-- One effect brings about what did not stand. -/
theorem restored {i : Invariant} (h : Sustains [i] s t) (hkeeps : KeepsAll t u) (hi : i.Stands u) : KeepsAll s u := by
  intro j _ hs
  by_cases hj : j = i
  · exact hj ▸ hi
  · exact hkeeps j List.not_mem_nil (h j (by simpa using hj) hs)

end Sustains

theorem KeepsAll.inOrder {s t : State} {code : List Nat} {fs : List (State → State)} (h : KeepsAll s t)
    (hkeeps : ∀ f ∈ fs, ∀ v, KeepsAll v (f v)) : KeepsAll s (inOrder code fs t) :=
  Sustains.inOrder h hkeeps fun _ hi => absurd hi List.not_mem_nil

theorem KeepsAll.onlyIf {b : Bool} {f : State → State} (h : ∀ v, KeepsAll v (f v)) (s : State) :
    KeepsAll s (onlyIf b f s) := by
  unfold Machine.onlyIf
  split
  · exact h s
  · exact .refl [] s

/-! ### What no invariant reads -/

theorem latchKind_keepsAll (k : Kind) (s : State) : KeepsAll s (latchKind k s) := by
  intro i _ h
  cases i <;> exact h

theorem makeReport_keepsAll (s : State) : KeepsAll s (makeReport s) := by
  intro i _ h
  cases i <;> exact h

theorem reportClose_keepsAll (s : State) : KeepsAll s (reportClose s) := by
  have hrev : KeepsAll s { s with events := { s.events with revNumber := s.events.revNumber + 1 } } := by
    intro i _ h
    cases i <;> exact h
  refine hrev.trans ?_
  unfold reportClose
  dsimp only
  split_ifs
  · intro i _ h
    cases i <;> exact h
  · exact makeReport_keepsAll _
  · intro i _ h
    cases i <;> exact h

theorem portC_keepsAll (s : State) (p : PortC) : KeepsAll s { s with portC := p } := by
  intro i _ h
  cases i <;> exact h

theorem portD_keepsAll (s : State) (p : PortD) : KeepsAll s { s with portD := p } := by
  intro i _ h
  cases i <;> exact h

theorem weigh_keepsAll (s : State) (w : Weighing) (c : Nat) : KeepsAll s { s with weigh := w, loadClass := c } := by
  intro i _ h
  cases i <;> exact h

/-! ### Live conditions, and what is offered to the event unit -/

/-- What moves the event unit and Port C alone keeps every invariant but those of the live conditions. -/
theorem keepsAll_of_offered {s t : State} (h : t = { s with events := t.events, portC := t.portC })
    (hlive : ∀ k, (Invariant.live k).Stands s → (Invariant.live k).Stands t) : KeepsAll s t := by
  intro i _ hs
  cases i with
  | live k => exact hlive k hs
  | _ => rw [h]; exact hs

theorem condition_of_offered {s t : State} (h : t = { s with events := t.events, portC := t.portC }) (k : Kind) :
    t.condition k = s.condition k := by
  rw [h]; rfl

/-- R148: a condition judged again stands. -/
theorem judgeLive_stands (k : Kind) (s : State) : (Invariant.live k).Stands (judgeLive k s) :=
  (judgeLive_live k s).trans (condition_of_offered (judgeLive_frame k s) k).symm

theorem judgeLive_keepsAll (k : Kind) (s : State) : KeepsAll s (judgeLive k s) := by
  refine keepsAll_of_offered (judgeLive_frame k s) fun j hj => ?_
  by_cases hjk : j = k
  · exact hjk ▸ judgeLive_stands k s
  · exact (((judgeLive_kinds k s).live j (by simpa using hjk)).trans hj).trans
      (condition_of_offered (judgeLive_frame k s) j).symm

/-- A move that breaks one live condition alone, followed by the judging of it. -/
theorem Sustains.judged {k : Kind} {s t : State} (h : Sustains [.live k] s t) : KeepsAll s (judgeLive k t) :=
  h.restored (judgeLive_keepsAll k t) (judgeLive_stands k t)

theorem monitor_sustains (s : State) (m : Monitor) : Sustains [.live .counterSaturated] s { s with monitor := m } := by
  intro i hi h
  cases i with
  | live k =>
    cases k with
    | counterSaturated => exact absurd (by simp) hi
    | _ => exact h
  | _ => exact h

theorem countSource_keepsAll (src : Source) (s : State) : KeepsAll s (countSource src s) := by
  unfold countSource
  split
  · exact (monitor_sustains s _).judged
  · exact .refl [] s

/-! ### Port D and the governor -/

theorem standing_sustains (s : State) (p : PortD) (st : Standing) :
    Sustains [.live .governing] s { s with portD := p, standing := st } := by
  intro i hi h
  cases i with
  | live k =>
    cases k with
    | governing => exact absurd (by simp) hi
    | _ => exact h
  | _ => exact h

theorem startD_keepsAll (s : State) : KeepsAll s (startD s) := by
  cases hp : s.portD.pick with
  | none => rw [startD_nothing hp]; exact .refl [] s
  | some fp =>
    obtain ⟨f, p⟩ := fp
    by_cases hc : f.cls = speedDemandClass
    · rw [startD_demand hp hc]; exact (standing_sustains s _ _).judged
    · rw [startD_plain hp hc]; exact portD_keepsAll s _

theorem kickD_keepsAll (s : State) : KeepsAll s (kickD s) := by
  unfold kickD
  split
  · exact startD_keepsAll s
  · exact .refl [] s

theorem queueRestated_keepsAll (s : State) : KeepsAll s (queueRestated s) := by
  unfold queueRestated
  split
  · exact .refl [] s
  · exact (portD_keepsAll s _).trans (kickD_keepsAll _)

theorem queueOrphan_keepsAll (s : State) : KeepsAll s (queueOrphan s) := by
  unfold queueOrphan
  dsimp only
  split
  · exact portD_keepsAll s _
  · exact (portD_keepsAll s _).trans (kickD_keepsAll _)

/-- R83, R86: the ceilings are read by their own composition alone. -/
theorem gov_sustains (s : State) (g : Governor) : Sustains [.composed] s { s with gov := g } := by
  intro i hi h
  cases i with
  | composed => exact absurd (by simp) hi
  | _ => exact h

theorem recompose_stands (s : State) : Invariant.composed.Stands (recompose s) := recompose_composed s

theorem recompose_sustains (s : State) : Sustains [.composed] s (recompose s) := by
  unfold recompose
  dsimp only
  split
  · exact (gov_sustains s _).then_all (queueRestated_keepsAll _)
  · exact gov_sustains s _

theorem recompose_keepsAll (s : State) : KeepsAll s (recompose s) := by
  intro i _ h
  cases i with
  | composed => exact recompose_stands s
  | _ => exact recompose_sustains s _ (by simp) h

/-- A move that breaks the composition alone, followed by the composition. -/
theorem Sustains.recomposed {s t : State} (h : Sustains [.composed] s t) : KeepsAll s (recompose t) :=
  h.restored (recompose_keepsAll t) (recompose_stands t)

theorem envelopeRevised_keepsAll (s : State) : KeepsAll s (envelopeRevised s) := by
  unfold envelopeRevised
  split
  · exact (gov_sustains s _).recomposed
  · exact .refl [] s

theorem governorClose_keepsAll (entered : Bool) (s : State) : KeepsAll s (governorClose entered s) :=
  (gov_sustains s _).recomposed

/-! ### The weighing -/

theorem setLoadClass_keepsAll (c : Nat) (s : State) : KeepsAll s (setLoadClass c s) := by
  unfold setLoadClass
  split
  · exact .refl [] s
  · exact (weigh_keepsAll s s.weigh c).trans (envelopeRevised_keepsAll _)

theorem armWeighing_keepsAll (s : State) : KeepsAll s (armWeighing s) :=
  (weigh_keepsAll s _ s.loadClass).trans (setLoadClass_keepsAll _ _)

theorem failWeighing_keepsAll (s : State) : KeepsAll s (failWeighing s) :=
  (weigh_keepsAll s _ s.loadClass).trans (setLoadClass_keepsAll _ _)

theorem endWeighing_keepsAll (s : State) : KeepsAll s (endWeighing s) := by
  unfold endWeighing
  split
  · split
    · exact failWeighing_keepsAll s
    · exact (weigh_keepsAll s _ s.loadClass).trans (setLoadClass_keepsAll _ _)
  · exact .refl [] s

theorem abandonWeighing_keepsAll (s : State) : KeepsAll s (abandonWeighing s) := by
  unfold abandonWeighing
  split
  · exact failWeighing_keepsAll s
  · exact .refl [] s

theorem examineStatus_keepsAll (s : State) : KeepsAll s (examineStatus s) := by
  unfold examineStatus
  split_ifs
  · exact endWeighing_keepsAll s
  · exact weigh_keepsAll s _ s.loadClass
  · exact .refl [] s
  · exact .refl [] s

end Sys2Proof.Machine
end

section
/-! SUPPORT. The trip, the entries to the session states and the ends of injections leave the invariants standing. -/

namespace Sys2Proof.Machine

open Sys2Proof.Safety

/-! ### The passed marks and the correction records -/

/-- R102: the two states carry the same passed marks. -/
def SameMarks (s t : State) : Prop := ∀ e : Fin 6, t.session.progress[e].passed = s.session.progress[e].passed

theorem look_passed (p : Vector Progress 6) {i : Nat} (h : i < 6) : look p i Progress.reset = p[(⟨i, h⟩ : Fin 6)] := by
  simp [look, h]

/-- R102: a mark stands on the one before it. -/
theorem passedRun_iff (s : State) :
    passedRun s = true ↔ ∀ d e : Fin 6, d ≤ e → s.session.progress[e].passed = true → s.session.progress[d].passed = true := by
  have hstep : passedRun s = true ↔ ∀ i (h : i < 5), s.session.progress[(⟨i + 1, by omega⟩ : Fin 6)].passed = true →
      s.session.progress[(⟨i, by omega⟩ : Fin 6)].passed = true := by
    rw [passedRun, List.all_eq_true]
    refine forall_congr' fun i => ?_
    rw [List.mem_range]
    refine forall_congr' fun h => ?_
    rw [look_passed _ (show i + 1 < 6 by omega), look_passed _ (show i < 6 by omega), Bool.or_eq_true, Bool.not_eq_true',
      Bool.eq_false_iff, ← imp_iff_not_or]
  rw [hstep]
  refine ⟨fun h d e hde he => ?_, fun h i hi => h _ _ (Fin.mk_le_mk.mpr (by omega))⟩
  obtain ⟨d, hd⟩ := d
  obtain ⟨e, he6⟩ := e
  have hle : d ≤ e := hde
  induction e, hle using Nat.le_induction with
  | base => exact he
  | succ e hle ih => exact ih (by omega) (h e (by omega) he) hle

theorem passedRun_congr {s t : State} (h : SameMarks s t) : passedRun t = passedRun s := by
  rw [Bool.eq_iff_iff, passedRun_iff, passedRun_iff]
  simp only [h _]

theorem currentPlateau_congr_marks {s t : State} (htables : t.tables = s.tables) (hrequested : t.requested = s.requested)
    (h : SameMarks s t) : t.currentPlateau = s.currentPlateau := by
  simp only [State.currentPlateau, State.applies, htables, hrequested, h _]

theorem correctionsSound_iff (s : State) :
    correctionsSound s = true ↔
      s.session.corrections.length ≤ 8 ∧ (∀ x ∈ s.session.corrections.dropLast, x.outcome ≠ .inProgress) ∧
        (s.session.state = .correct ∨ ∀ x ∈ s.session.corrections, x.outcome ≠ .inProgress) := by
  simp only [correctionsSound, Bool.and_eq_true, Bool.or_eq_true, decide_eq_true_eq, List.all_eq_true, bne_iff_ne, beq_iff_eq,
    and_assoc]
  rfl

/-- R109: at most eight records, none IN PROGRESS. -/
def Closed (l : List Correction) : Prop := l.length ≤ 8 ∧ ∀ x ∈ l, x.outcome ≠ .inProgress

theorem correctionsSound_of_closed {s : State} (h : Closed s.session.corrections) : correctionsSound s = true :=
  (correctionsSound_iff s).mpr ⟨h.1, fun x hx => h.2 x (List.mem_of_mem_dropLast hx), .inr h.2⟩

/-- R105: outside CORRECT no record is IN PROGRESS. -/
theorem closed_of_correctionsSound {s : State} (h : correctionsSound s = true) (hstate : s.session.state ≠ .correct) :
    Closed s.session.corrections := by
  obtain ⟨hlength, -, hclosed⟩ := (correctionsSound_iff s).mp h
  exact ⟨hlength, hclosed.resolve_left hstate⟩

theorem closeNewest_append (o : InjOutcome) (grams : Nat) (l : List Correction) (x : Correction) :
    closeNewest o grams (l ++ [x]) = l ++ [{ x with outcome := o, credited := grams }] := by
  induction l with
  | nil => rfl
  | cons c l ih =>
    cases l with
    | nil => rfl
    | cons d l => simpa [closeNewest] using ih

theorem closeNewest_closed {o : InjOutcome} (ho : o ≠ .inProgress) (grams : Nat) {l : List Correction}
    (hlength : l.length ≤ 8) (hrest : ∀ x ∈ l.dropLast, x.outcome ≠ .inProgress) : Closed (closeNewest o grams l) := by
  rcases List.eq_nil_or_concat l with rfl | ⟨rest, x, rfl⟩
  · exact ⟨Nat.zero_le _, fun _ h => absurd h List.not_mem_nil⟩
  · rw [List.concat_eq_append] at hlength hrest ⊢
    rw [List.dropLast_concat] at hrest
    rw [closeNewest_append]
    refine ⟨by simpa using hlength, fun y hy => ?_⟩
    rcases List.mem_append.mp hy with hy | hy
    · exact hrest y hy
    · rw [List.mem_singleton.mp hy]; exact ho

/-- R105: the outcome of the newest record closes the list. -/
theorem recordOutcome_closed {o : InjOutcome} (ho : o ≠ .inProgress) (grams : Nat) {s : State}
    (h : correctionsSound s = true) : Closed (recordOutcome o grams s).session.corrections := by
  obtain ⟨hlength, hrest, -⟩ := (correctionsSound_iff s).mp h
  exact closeNewest_closed ho grams hlength hrest

theorem useAttempt_passed (p : Vector Progress 6) (e d : Fin 6) : (useAttempt p e)[d].passed = p[d].passed := by
  by_cases h : d = e
  · rw [h, useAttempt_same]
  · rw [useAttempt_other p h]

theorem recordOutcome_marks (o : InjOutcome) (grams : Nat) (s : State) : SameMarks s (recordOutcome o grams s) := by
  intro e
  show (match s.session.corrections.getLast? with
    | some c => useAttempt s.session.progress c.plateau
    | none => s.session.progress)[e].passed = _
  cases s.session.corrections.getLast? with
  | some c => exact useAttempt_passed _ _ _
  | none => rfl

/-- R97: whether the state of the session has what it stands on is a matter of the program, the request, the marks and
the failed plateau. -/
theorem sessionSound_iff (s : State) :
    sessionSound s = true ↔
      (s.session.state.onPlateau = true → s.currentPlateau.isSome = true) ∧
        (s.session.state = .limited ∨ s.session.state = .holdDown → s.session.failed.isSome = true) := by
  rw [sessionSound, Bool.and_eq_true, Bool.or_eq_true, Bool.or_eq_true, Bool.not_eq_true', Bool.not_eq_true',
    Bool.eq_false_iff, Bool.eq_false_iff, ← imp_iff_not_or, ← imp_iff_not_or, Bool.or_eq_true, beq_iff_eq, beq_iff_eq]

/-! ### An injection aborted -/

theorem valveOpen_of_not_active {s : State} (h : s.ring.ctx.state ≠ .active) : s.valveOpen = false := by
  simp [State.valveOpen, h]

/-- R126: with the injection standing and the session not in CORRECT, the ring is at rest. -/
theorem ring_rests {s : State} (h : Invariant.injection.Stands s) (hstate : s.session.state ≠ .correct) :
    s.ring.ctx.state ≠ .active ∧ s.ring.valve = false :=
  ⟨mt h.1.mp hstate, h.2 (mt h.1.mp hstate)⟩

/-- R104, R126: a ring at rest outside CORRECT. -/
theorem injection_of_rest {s : State} (hctx : s.ring.ctx.state ≠ .active) (hvalve : s.ring.valve = false)
    (hstate : s.session.state ≠ .correct) : Invariant.injection.Stands s :=
  ⟨⟨fun h => absurd h hctx, fun h => absurd h hstate⟩, fun _ => hvalve⟩

/-- R126: VALVE closed with no injection ACTIVE. -/
theorem valve_of_rest {s : State} (hctx : s.ring.ctx.state ≠ .active) (hvalve : s.ring.valve = false) :
    s.ring.valve = s.valveOpen := hvalve.trans (valveOpen_of_not_active hctx).symm

theorem abortCorrection_frame (s : State) :
    abortCorrection s =
      { s with session := (abortCorrection s).session, ring := (abortCorrection s).ring } := by
  unfold abortCorrection recordOutcome ringAbort ringEnd
  split <;> [split; skip] <;> rfl

theorem abortCorrection_marks (s : State) : SameMarks s (abortCorrection s) := by
  intro e
  unfold abortCorrection
  split
  · exact (recordOutcome_marks _ _ _ e).trans (by simp)
  · rfl

theorem abortCorrection_failed (s : State) : (abortCorrection s).session.failed = s.session.failed := by
  unfold abortCorrection
  split
  · simp [recordOutcome]
  · rfl

theorem abortCorrection_closed {s : State} (h : correctionsSound s = true) :
    Closed (abortCorrection s).session.corrections := by
  by_cases hstate : s.session.state = .correct
  · rw [abortCorrection_correct hstate]
    exact recordOutcome_closed (by decide) _ (by simpa [correctionsSound] using h)
  · rw [abortCorrection_other hstate]
    exact closed_of_correctionsSound h hstate

theorem ringAbort_bleed (s : State) : (ringAbort s).ring.bleed = s.ring.bleed := by
  unfold ringAbort; split <;> rfl

theorem abortCorrection_ring_kept (s : State) :
    (abortCorrection s).ring.contents = s.ring.contents ∧ (abortCorrection s).ring.bleed = s.ring.bleed := by
  rw [abortCorrection_ring]
  split
  · exact ⟨ringAbort_contents s, ringAbort_bleed s⟩
  · exact ⟨rfl, rfl⟩

/-- R130: the abort leaves the ring at rest. -/
theorem ringAbort_rests {s : State} (h : s.ring.ctx.state ≠ .active → s.ring.valve = false) :
    (ringAbort s).ring.ctx.state ≠ .active ∧ (ringAbort s).ring.valve = false := by
  refine ⟨ringAbort_ctx_not_active s, ?_⟩
  by_cases hactive : s.ring.ctx.state = .active
  · rw [ringAbort_active hactive, ringEnd_ring]
  · rw [ringAbort_not_active hactive, h hactive]

theorem ringAbort_rests_of_valve {s : State} (h : s.ring.valve = s.valveOpen) :
    (ringAbort s).ring.ctx.state ≠ .active ∧ (ringAbort s).ring.valve = false :=
  ringAbort_rests fun hctx => h.trans (valveOpen_of_not_active hctx)

theorem abortCorrection_rests {s : State} (h : Invariant.injection.Stands s) :
    (abortCorrection s).ring.ctx.state ≠ .active ∧ (abortCorrection s).ring.valve = false := by
  rw [abortCorrection_ring]
  split
  · exact ringAbort_rests h.2
  · exact ring_rests h ‹_›

/-! ### The setting of the latch -/

theorem addCause_keepsAll (c : Cause) (s : State) : KeepsAll s (addCause c s) := by
  intro i _ h
  cases i with
  | taken d => exact fun hd => ⟨(h hd).1, CauseSet.has_add c (h hd).2⟩
  | live k => cases k <;> exact h
  | _ => exact h

/-- R83, R86: with the latch set the terms compose to 0. -/
theorem composed_of_stopped {s : State} (h : Stopped s) : s.composed := by
  obtain ⟨hlatch, hspin, hagitate, -⟩ := h
  refine ⟨?_, ?_⟩
  · rw [hspin]
    refine (Nat.le_zero.mp (spinCeiling_le_of_mem ?_)).symm
    simp [State.spinTerms, hlatch]
  · simp [hagitate, State.agitateCeiling, hlatch]

/-- R148: the session's own live conditions, and every other, while the session's state is entered. -/
theorem sessionEvents_keepsAll {f : State → State} (hf : f ∈ sessionEvents) (v : State) : KeepsAll v (f v) := by
  rcases List.mem_pair.mp hf with rfl | rfl
  · exact judgeLive_keepsAll .redistribute v
  · exact judgeLive_keepsAll .limited v

/-- R148: a live condition stands through what it does not read. -/
theorem live_congr {s t : State} {k : Kind} (hevents : t.events = s.events) (hcondition : t.condition k = s.condition k)
    (h : (Invariant.live k).Stands s) : (Invariant.live k).Stands t := by
  show t.events.live.getLsbD k.number.val = t.condition k
  rw [hevents, hcondition]
  exact h

/-- What the session, the ring's injection and the trip unit hold is read by the live conditions of the kinds 3, 4 and 11
alone. -/
theorem condition_of_session {s t : State}
    (h : t = { s with session := t.session, ring := t.ring, trip := t.trip }) (hcontents : t.ring.contents = s.ring.contents)
    {k : Kind} (hred : k ≠ .redistribute) (hlim : k ≠ .limited) (htrip : k ≠ .trip) : t.condition k = s.condition k := by
  have hfull : t.ringFull = s.ringFull := by
    unfold State.ringFull
    rw [hcontents, show t.spin = s.spin by rw [h]]
  cases k with
  | ringFull => exact hfull
  | redistribute => exact absurd rfl hred
  | limited => exact absurd rfl hlim
  | trip => exact absurd rfl htrip
  | _ => rw [h]; rfl

theorem enterTripped_live (ch : Choice) (k : Kind) (s : State) (h : (Invariant.live k).Stands s) :
    (Invariant.live k).Stands (enterTripped ch s) := by
  refine abandonWeighing_keepsAll _ _ List.not_mem_nil ?_
  have hkeeps : ∀ f ∈ sessionEvents, ∀ v, (Invariant.live k).Stands v → (Invariant.live k).Stands (f v) :=
    fun f hf v => sessionEvents_keepsAll hf v _ List.not_mem_nil
  by_cases hred : k = .redistribute
  · exact hred ▸ inOrder_brings _ (hred ▸ hkeeps) ⟨_, by simp [sessionEvents], judgeLive_stands .redistribute⟩
  by_cases hlim : k = .limited
  · exact hlim ▸ inOrder_brings _ (hlim ▸ hkeeps) ⟨_, by simp [sessionEvents], judgeLive_stands .limited⟩
  refine inOrder_keeps _ ?_ hkeeps
  have hframe : withSession .tripped (abortCorrection s) =
      { s with
        session := (withSession .tripped (abortCorrection s)).session
        ring := (withSession .tripped (abortCorrection s)).ring
        trip := (withSession .tripped (abortCorrection s)).trip } := by
    unfold withSession
    rw [abortCorrection_frame]
  refine live_congr (s := s) (by rw [hframe]) ?_ h
  by_cases htrip : k = .trip
  · subst htrip
    show (abortCorrection s).trip.latch = s.trip.latch
    rw [abortCorrection_frame]
  · exact condition_of_session hframe (abortCorrection_ring_kept s).1 hred hlim htrip

theorem ringAbort_live (k : Kind) (s : State) (h : (Invariant.live k).Stands s) : (Invariant.live k).Stands (ringAbort s) := by
  refine live_congr (s := s) (by simp) ?_ h
  cases k with
  | ringFull => unfold State.condition State.ringFull; simp
  | _ => unfold ringAbort; split <;> rfl

theorem tripBlocks_live (ch : Choice) {f : State → State} (hf : f ∈ tripBlocks ch) (k : Kind) (v : State)
    (h : (Invariant.live k).Stands v) : (Invariant.live k).Stands (f v) := by
  simp only [tripBlocks, List.mem_cons, List.not_mem_nil, or_false] at hf
  rcases hf with rfl | rfl | rfl | rfl
  · exact ringAbort_live k v h
  · exact (queueRestated_keepsAll v).trans (recompose_keepsAll _) _ List.not_mem_nil h
  · exact enterTripped_live ch k v h
  · exact judgeLive_keepsAll .trip v _ List.not_mem_nil h

theorem setTrip_live_stands (ch : Choice) (c : Cause) (k : Kind) (s : State) (h : (Invariant.live k).Stands s) :
    (Invariant.live k).Stands (setTrip ch c s) := by
  have hhanded : (Invariant.live k).Stands (tripHanded ch c s) := by
    by_cases htrip : k = .trip
    · subst htrip
      exact inOrder_brings _ (fun f hf v => tripBlocks_live ch hf .trip v)
        ⟨judgeLive .trip, by simp [tripBlocks], judgeLive_stands .trip⟩
    · refine inOrder_keeps _ ?_ fun f hf v => tripBlocks_live ch hf k v
      refine live_congr (s := s) rfl ?_ h
      cases k with
      | trip => exact absurd rfl htrip
      | _ => rfl
  rw [setTrip_eq]
  split
  · exact addCause_keepsAll .drive _ _ List.not_mem_nil hhanded
  · exact hhanded

/-- R142, R144: the setting of a clear latch leaves every invariant standing. -/
theorem setTrip_keepsAll (ch : Choice) (c : Cause) {s : State} (hclear : s.trip.latch = false) :
    KeepsAll s (setTrip ch c s) := by
  have htripped := setTrip_trippedBy ch c s
  obtain ⟨hinputs, hest, htrip, hsession, hring, hstopped⟩ := htripped
  have hstate : (setTrip ch c s).session.state = .tripped := by rw [hsession]
  intro i _ h
  cases i with
  | composed => exact composed_of_stopped hstopped
  | latched => exact ⟨fun _ => hstopped.latch, fun _ => hstate⟩
  | injection =>
    obtain ⟨hctx, hvalve⟩ := ringAbort_rests h.2
    exact injection_of_rest (by rw [hring]; exact hctx) (by rw [hring]; exact hvalve) (by rw [hstate]; decide)
  | valve =>
    obtain ⟨hctx, hvalve⟩ := ringAbort_rests_of_valve h
    exact valve_of_rest (by rw [hring]; exact hctx) (by rw [hring]; exact hvalve)
  | plateau => exact (sessionSound_iff _).mpr (by rw [hstate]; exact ⟨nofun, by simp⟩)
  | passed =>
    refine (passedRun_congr fun e => ?_).trans h
    rw [hsession]
    exact abortCorrection_marks s e
  | corrections =>
    refine correctionsSound_of_closed ?_
    rw [hsession]
    exact abortCorrection_closed h
  | bleed =>
    show bleedSound (setTrip ch c s) = true
    unfold bleedSound
    rw [hring, ringAbort_bleed, hinputs.spin,
      speedBelow_congr hinputs.tracker hinputs.drive hinputs.silence]
    exact h
  | live k => exact setTrip_live_stands ch c k s h
  | taken d =>
    intro hd
    refine ⟨hstopped.latch, ?_⟩
    by_cases hdrive : d = .drive
    · subst hdrive
      have hsilent : s.silence.driveSilent = true := by
        rw [State.causeHolds, Bool.and_eq_true, hinputs.silence] at hd
        exact hd.1
      rw [htrip]
      show (if s.silence.driveSilent then _ else _ : CauseSet).has .drive = true
      rw [if_pos hsilent]
      exact CauseSet.has_add_self _ _
    · have hs := h ((causeHolds_of_inputs hinputs hest hdrive).symm.trans hd)
      exact absurd (hclear.symm.trans hs.1) (by decide)

theorem judgeCause_keepsAll (ch : Choice) (c : Cause) (s : State) : KeepsAll s (judgeCause ch c s) := by
  unfold judgeCause
  split
  · split
    · exact addCause_keepsAll c s
    · next hlatch => exact setTrip_keepsAll ch c (by simpa using hlatch)
  · exact .refl [] s

/-- R142, R143: a cause judged is taken. -/
theorem judgeCause_stands (ch : Choice) (c : Cause) (s : State) : (Invariant.taken c).Stands (judgeCause ch c s) := by
  intro hd
  by_cases h : s.causeHolds c = true
  · by_cases hlatch : s.trip.latch = true
    · rw [judgeCause_set h hlatch] at hd ⊢
      exact ⟨hlatch, CauseSet.has_add_self _ _⟩
    · have htripped := setTrip_trippedBy ch c s
      rw [judgeCause_clear h (by simpa using hlatch)] at hd ⊢
      refine ⟨htripped.stopped.latch, ?_⟩
      rw [htripped.trip]
      show (if s.silence.driveSilent then _ else _ : CauseSet).has c = true
      split
      · exact CauseSet.has_add _ (CauseSet.has_add_self _ _)
      · exact CauseSet.has_add_self _ _
  · rw [judgeCause_false (by simpa using h)] at hd
    exact absurd hd h

theorem judgeCauses_keepsAll (ch : Choice) (cs : List Cause) (s : State) : KeepsAll s (judgeCauses ch cs s) :=
  judgeCauses_keeps (P := KeepsAll s) (fun c t ht => ht.trans (judgeCause_keepsAll ch c t)) cs (.refl [] s)

theorem judgeCauses_stands (ch : Choice) {cs : List Cause} {c : Cause} (hc : c ∈ cs) (s : State) :
    (Invariant.taken c).Stands (judgeCauses ch cs s) := by
  have hmem : c ∈ preferred ch.cause cs := (mem_preferred _ _ _).mpr hc
  unfold judgeCauses
  generalize preferred ch.cause cs = l at hmem
  induction l generalizing s with
  | nil => exact absurd hmem List.not_mem_nil
  | cons d l ih =>
    rw [List.foldl_cons]
    rcases List.mem_cons.mp hmem with rfl | hmem
    · clear ih
      have hrest : ∀ v, (Invariant.taken c).Stands v → (Invariant.taken c).Stands (l.foldl (fun s c => judgeCause ch c s) v) := by
        induction l with
        | nil => exact fun v h => h
        | cons d l ih =>
          exact fun v h => ih (List.mem_cons_self ..) _ (judgeCause_keepsAll ch d v _ List.not_mem_nil h)
      exact hrest _ (judgeCause_stands ch c s)
    · exact ih _ hmem

end Sys2Proof.Machine
end

section
/-! SUPPORT. The entries to the session states, the ends of injections and the dwell end leave the invariants standing. -/

namespace Sys2Proof.Machine

open Sys2Proof.Safety

/-! ### An entry -/

/-- R96: from a state `s` the session is about to enter `st`, `u` holding what the entry changes besides. -/
structure Entry (st : SessionState) (s u : State) : Prop where
  frame : u = { s with session := u.session, ring := u.ring }
  contents : u.ring.contents = s.ring.contents
  bleed : u.ring.bleed = s.ring.bleed
  valve : s.ring.valve = s.valveOpen → u.ring.valve = u.valveOpen
  running : s.session.state ≠ .tripped ∨ s.trip.latch = false
  target : st ≠ .tripped
  plateau : sessionSound s = true →
    (st.onPlateau = true → u.currentPlateau.isSome = true) ∧
      (st = .limited ∨ st = .holdDown → u.session.failed.isSome = true)
  passed : passedRun s = true → passedRun u = true
  corrections : correctionsSound s = true → correctionsSound (withSession st u) = true

/-- What the effects of an entry bring about again. -/
def entryBroken : List Invariant := [.injection, .composed, .live .redistribute, .live .limited, .taken .drive]

namespace Entry

variable {st : SessionState} {s u : State}

theorem fields (h : Entry st s u) :
    withSession st u = { s with session := (withSession st u).session, ring := u.ring } := by
  unfold withSession
  rw [h.frame]

theorem sustains (h : Entry st s u) : Sustains entryBroken s (withSession st u) := by
  intro i hi hs
  have hfields := h.fields
  simp only [entryBroken, List.mem_cons, List.not_mem_nil, or_false, not_or] at hi
  obtain ⟨hinj, hcomp, hred, hlim, hdrive⟩ := hi
  cases i with
  | composed => exact absurd rfl hcomp
  | injection => exact absurd rfl hinj
  | valve => exact h.valve hs
  | latched =>
    have hclear : ¬s.trip.latch = true := fun hlatch => by
      rcases h.running with hstate | hfalse
      · exact hstate (hs.mpr hlatch)
      · exact absurd (hfalse.symm.trans hlatch) (by decide)
    show st = .tripped ↔ u.trip.latch = true
    rw [h.frame]
    exact ⟨fun hst => absurd hst h.target, fun hlatch => absurd hlatch hclear⟩
  | plateau => exact (sessionSound_iff _).mpr (h.plateau hs)
  | passed => exact h.passed hs
  | corrections => exact h.corrections hs
  | bleed =>
    show u.ring.bleed.isSome == (withSession st u).speedBelow (withSession st u).spin.retainSpeed
    rw [h.bleed, hfields]
    exact hs
  | taken c =>
    cases c with
    | drive => exact absurd rfl hdrive
    | _ => rw [hfields]; exact hs
  | live k =>
    refine live_congr (s := s) (by rw [hfields]) ?_ hs
    by_cases htrip : k = .trip
    · subst htrip
      rw [hfields]
      rfl
    · refine condition_of_session (t := withSession st u) ?_ h.contents (fun hk => hred (by rw [hk])) (fun hk => hlim (by rw [hk])) htrip
      have hsame : (withSession st u).trip = s.trip := by rw [hfields]
      rw [hsame]
      exact hfields

/-- R139: a session that does not leave IDLE makes no DRIVE cause true. -/
theorem drive (h : Entry st s u) (hidle : s.session.state ≠ .idle ∨ st = .idle) (hs : (Invariant.taken .drive).Stands s) :
    (Invariant.taken .drive).Stands (withSession st u) := by
  have hfields := h.fields
  intro hd
  obtain ⟨hsilent, hstate⟩ : s.silence.driveSilent = true ∧ st ≠ .idle := by
    rw [hfields, State.causeHolds, Bool.and_eq_true, bne_iff_ne] at hd
    exact hd
  have hleft : s.session.state ≠ .idle := hidle.resolve_right hstate
  rw [hfields]
  exact hs (by simp [State.causeHolds, hsilent, hleft])

/-- R116, R117, R89: the effects of an entry, which bring about what the entry broke but for the injection. -/
theorem inOrder_but (h : Entry st s u) {code : List Nat} {fs : List (State → State)} {ch : Choice}
    (hkeeps : ∀ f ∈ fs, ∀ v, KeepsAll v (f v)) (hred : judgeLive .redistribute ∈ fs) (hlim : judgeLive .limited ∈ fs)
    (hcomp : recompose ∈ fs) (hidle : s.session.state ≠ .idle ∨ st = .idle ∨ judgeCause ch .drive ∈ fs) :
    Sustains [.injection] s (inOrder code fs (withSession st u)) := by
  have hkeep : ∀ (i : Invariant), ∀ f ∈ fs, ∀ v, i.Stands v → i.Stands (f v) := fun i f hf v => hkeeps f hf v i List.not_mem_nil
  have hstart := h.sustains
  intro i hi hs
  by_cases hbroken : i ∈ entryBroken
  · simp only [entryBroken, List.mem_cons, List.not_mem_nil, or_false] at hbroken
    rcases hbroken with rfl | rfl | rfl | rfl | rfl
    · exact absurd (by simp) hi
    · exact inOrder_brings _ (hkeep _) ⟨_, hcomp, recompose_stands⟩
    · exact inOrder_brings _ (hkeep _) ⟨_, hred, judgeLive_stands _⟩
    · exact inOrder_brings _ (hkeep _) ⟨_, hlim, judgeLive_stands _⟩
    · by_cases hdrive : judgeCause ch .drive ∈ fs
      · exact inOrder_brings _ (hkeep _) ⟨_, hdrive, judgeCause_stands ch .drive⟩
      · exact inOrder_keeps _ (h.drive (by tauto) hs) (hkeep _)
  · exact inOrder_keeps _ (hstart i hbroken hs) (hkeep i)

theorem inOrder (h : Entry st s u) {code : List Nat} {fs : List (State → State)} {ch : Choice}
    (hkeeps : ∀ f ∈ fs, ∀ v, KeepsAll v (f v)) (hred : judgeLive .redistribute ∈ fs) (hlim : judgeLive .limited ∈ fs)
    (hcomp : recompose ∈ fs) (hidle : s.session.state ≠ .idle ∨ st = .idle ∨ judgeCause ch .drive ∈ fs)
    (hinj : Invariant.injection.Stands s → Invariant.injection.Stands (withSession st u)) :
    KeepsAll s (Machine.inOrder code fs (withSession st u)) := by
  intro i _ hs
  by_cases hi : i = .injection
  · subst hi
    exact inOrder_keeps _ (hinj hs) fun f hf v => hkeeps f hf v _ List.not_mem_nil
  · exact h.inOrder_but hkeeps hred hlim hcomp hidle i (by simpa using hi) hs

theorem entryEffects_keepsAll {f : State → State} (hf : f ∈ sessionEvents ++ [Machine.recompose]) (v : State) :
    KeepsAll v (f v) := by
  rcases List.mem_append.mp hf with hf | hf
  · exact sessionEvents_keepsAll hf v
  · rw [List.mem_singleton.mp hf]
    exact recompose_keepsAll v

/-- R116, R117, R89: the session takes a state. -/
theorem setSession_but (h : Entry st s u) (ch : Choice) (hidle : s.session.state ≠ .idle ∨ st = .idle) :
    Sustains [.injection] s (setSession ch st u) :=
  h.inOrder_but (ch := ch) (fun _ hf => entryEffects_keepsAll hf) (by simp [sessionEvents]) (by simp [sessionEvents])
    (by simp) (by tauto)

theorem setSession (h : Entry st s u) (ch : Choice) (hidle : s.session.state ≠ .idle ∨ st = .idle)
    (hinj : Invariant.injection.Stands s → Invariant.injection.Stands (withSession st u)) :
    KeepsAll s (Machine.setSession ch st u) :=
  h.inOrder (ch := ch) (fun _ hf => entryEffects_keepsAll hf) (by simp [sessionEvents]) (by simp [sessionEvents])
    (by simp) (by tauto) hinj

end Entry

/-- R97: what the session stands on where the program, the request, the marks and the failed plateau are as before. -/
theorem isSome_currentPlateau {s u : State} (h : u = { s with session := u.session, ring := u.ring }) (hmarks : SameMarks s u)
    (hs : s.currentPlateau.isSome = true) : u.currentPlateau.isSome = true := by
  rw [currentPlateau_congr_marks (by rw [h]) (by rw [h]) hmarks]
  exact hs

/-- R105: outside CORRECT, with the records as they were. -/
theorem corrections_of_same {s u : State} (st : SessionState) (hstate : s.session.state ≠ .correct)
    (h : u.session.corrections = s.session.corrections) (hs : correctionsSound s = true) :
    correctionsSound (withSession st u) = true := by
  refine correctionsSound_of_closed ?_
  show Closed u.session.corrections
  rw [h]
  exact closed_of_correctionsSound hs hstate

/-- R104: an entry that leaves the ring, from one state outside CORRECT to another. -/
theorem injection_of_same {s u : State} {st : SessionState} (hstate : s.session.state ≠ .correct) (hst : st ≠ .correct)
    (hring : u.ring = s.ring) (hs : Invariant.injection.Stands s) : Invariant.injection.Stands (withSession st u) := by
  obtain ⟨hctx, hvalve⟩ := ring_rests hs hstate
  exact injection_of_rest (s := withSession st u) (by rw [show (withSession st u).ring = s.ring from hring]; exact hctx)
    (by rw [show (withSession st u).ring = s.ring from hring]; exact hvalve) hst

/-! ### The entries -/

theorem enterIdle_keepsAll (ch : Choice) {s u : State} (hu : u = { s with session := u.session })
    (hcorrections : u.session.corrections = s.session.corrections) (hcorrect : s.session.state ≠ .correct)
    (htripped : s.session.state ≠ .tripped ∨ s.trip.latch = false) : KeepsAll s (enterIdle ch u) := by
  refine Entry.setSession (s := s) ?_ ch (.inr rfl) fun hs => injection_of_same hcorrect (by decide) (by rw [hu]) hs
  exact
    { frame := by rw [hu]
      contents := by rw [hu]
      bleed := by rw [hu]
      valve := by rw [hu]; exact id
      running := htripped
      target := by decide
      plateau := fun _ => ⟨nofun, by simp⟩
      passed := fun _ => (passedRun_iff _).mpr fun d e _ he => absurd he (by simp [mapAll])
      corrections := corrections_of_same .idle hcorrect hcorrections }

theorem retainCheck_keepsAll (ch : Choice) (s : State) : KeepsAll s (retainCheck ch s) := by
  unfold retainCheck
  split
  · split
    · next h => exact enterIdle_keepsAll ch rfl rfl (by rw [h]; decide) (.inl (by rw [h]; decide))
    · next h => exact enterIdle_keepsAll ch rfl rfl (by rw [h]; decide) (.inl (by rw [h]; decide))
    · exact .refl [] s
  · exact .refl [] s

/-- R100, R106: DWELL is entered from CLIMB and SETTLE at the current plateau. -/
theorem enterDwell_keepsAll (ch : Choice) {s : State} (hstate : s.session.state = .climb ∨ s.session.state = .settle)
    (hplateau : s.currentPlateau.isSome = true) : KeepsAll s (enterDwell ch s) := by
  have hcorrect : s.session.state ≠ .correct := by rcases hstate with h | h <;> rw [h] <;> decide
  have hentry : Entry .dwell s { s with session := { s.session with dwell := 0, midRev := true } } :=
    { frame := rfl
      contents := rfl
      bleed := rfl
      valve := id
      running := .inl (by rcases hstate with h | h <;> rw [h] <;> decide)
      target := by decide
      plateau := fun _ => ⟨fun _ => hplateau, by simp⟩
      passed := id
      corrections := corrections_of_same .dwell hcorrect rfl }
  refine (hentry.setSession ch (.inl ?_) (injection_of_same hcorrect (by decide) rfl)).trans (endWeighing_keepsAll _)
  rcases hstate with h | h <;> rw [h] <;> decide

theorem climbCheck_keepsAll (ch : Choice) (s : State) : KeepsAll s (climbCheck ch s) := by
  unfold climbCheck
  split
  · next hstate =>
    split
    · next e hcurrent =>
      split
      · exact enterDwell_keepsAll ch (.inl hstate) (by rw [hcurrent]; rfl)
      · exact .refl [] s
    · exact .refl [] s
  · exact .refl [] s

theorem settleCheck_keepsAll (ch : Choice) (s : State) : KeepsAll s (settleCheck ch s) := by
  unfold settleCheck
  split
  · next hstate =>
    split
    · next e hcurrent =>
      split
      · exact enterDwell_keepsAll ch (.inr hstate) (by rw [hcurrent]; rfl)
      · exact .refl [] s
    · exact .refl [] s
  · exact .refl [] s

/-- R117: the effects of an entry to CLIMB. -/
theorem climbEffects_keepsAll (ch : Choice) {f : State → State}
    (hf : f ∈ sessionEvents ++ [recompose, climbCheck ch]) (v : State) : KeepsAll v (f v) := by
  rcases List.mem_append.mp hf with hf | hf
  · exact sessionEvents_keepsAll hf v
  · rcases List.mem_pair.mp hf with rfl | rfl
    · exact recompose_keepsAll v
    · exact climbCheck_keepsAll ch v

/-- R99, R117, R139: the effects of leaving IDLE. -/
theorem leaveEffects_keepsAll (ch : Choice) {f : State → State}
    (hf : f ∈ sessionEvents ++ [recompose, judgeCause ch .drive, climbCheck ch]) (v : State) : KeepsAll v (f v) := by
  rcases List.mem_append.mp hf with hf | hf
  · exact sessionEvents_keepsAll hf v
  · simp only [List.mem_cons, List.not_mem_nil, or_false] at hf
    rcases hf with rfl | rfl | rfl
    · exact recompose_keepsAll v
    · exact judgeCause_keepsAll ch .drive v
    · exact climbCheck_keepsAll ch v

theorem Entry.enterClimb {s u : State} (h : Entry .climb s u) (ch : Choice) (hidle : s.session.state ≠ .idle)
    (hinj : Invariant.injection.Stands s → Invariant.injection.Stands (withSession .climb u)) :
    KeepsAll s (enterClimb ch u) :=
  h.inOrder (ch := ch) (fun _ hf => climbEffects_keepsAll ch hf) (by simp [sessionEvents]) (by simp [sessionEvents])
    (by simp) (.inl hidle) hinj

theorem Entry.leaveIdle {st : SessionState} {s u : State} (h : Entry st s u) (ch : Choice)
    (hinj : Invariant.injection.Stands s → Invariant.injection.Stands (withSession st u)) :
    KeepsAll s (leaveIdle ch st u) :=
  h.inOrder (ch := ch) (fun _ hf => leaveEffects_keepsAll ch hf) (by simp [sessionEvents]) (by simp [sessionEvents])
    (by simp) (.inr (.inr (by simp))) hinj

/-- R102, R113: from a state outside IDLE, CORRECT and TRIPPED the session goes on to CLIMB or OPEN, the marks perhaps
advanced. -/
theorem enterClimbOrOpen_keepsAll (ch : Choice) {s u : State} (hu : u = { s with session := u.session })
    (hcorrections : u.session.corrections = s.session.corrections) (hpassed : passedRun s = true → passedRun u = true)
    (hidle : s.session.state ≠ .idle) (hcorrect : s.session.state ≠ .correct) (htripped : s.session.state ≠ .tripped) :
    KeepsAll s (enterClimbOrOpen ch u) := by
  unfold enterClimbOrOpen
  split
  · next hcurrent =>
    refine Entry.enterClimb (s := s) ?_ ch hidle (injection_of_same hcorrect (by decide) (by rw [hu]))
    exact
      { frame := by rw [hu]
        contents := by rw [hu]
        bleed := by rw [hu]
        valve := by rw [hu]; exact id
        running := .inl htripped
        target := by decide
        plateau := fun _ => ⟨fun _ => hcurrent, by simp⟩
        passed := hpassed
        corrections := corrections_of_same .climb hcorrect hcorrections }
  · refine Entry.setSession (s := s) ?_ ch (.inl hidle) (injection_of_same hcorrect (by decide) (by rw [hu]))
    exact
      { frame := by rw [hu]
        contents := by rw [hu]
        bleed := by rw [hu]
        valve := by rw [hu]; exact id
        running := .inl htripped
        target := by decide
        plateau := fun _ => ⟨nofun, by simp⟩
        passed := hpassed
        corrections := corrections_of_same .opened hcorrect hcorrections }

/-! ### Out of CORRECT -/

/-- R126: the abort leaves VALVE as its conditions. -/
theorem abortCorrection_valve {s : State} (h : s.ring.valve = s.valveOpen) :
    (abortCorrection s).ring.valve = ({ s with ring := (abortCorrection s).ring } : State).valveOpen := by
  rw [abortCorrection_ring]
  split
  · obtain ⟨hctx, hvalve⟩ := ringAbort_rests_of_valve h
    exact valve_of_rest (s := { s with ring := (ringAbort s).ring }) hctx hvalve
  · exact h

/-- R105: an entry that ends the injection of CORRECT, if one is ACTIVE, to OPEN or RUNDOWN. -/
theorem Entry.aborting {st : SessionState} {s u : State} (hst : st = .opened ∨ st = .rundown)
    (hu : u = { s with session := u.session, ring := (abortCorrection s).ring })
    (hcorrections : u.session.corrections = (abortCorrection s).session.corrections)
    (hprogress : u.session.progress = (abortCorrection s).session.progress) (htripped : s.session.state ≠ .tripped) :
    Entry st s u := by
  have hring : u.ring = (abortCorrection s).ring := by rw [hu]
  obtain ⟨hcontents, hbleed⟩ := abortCorrection_ring_kept s
  have hmarks : SameMarks s u := fun e => by rw [hprogress]; exact abortCorrection_marks s e
  exact
    { frame := by rw [hu]
      contents := by rw [hring]; exact hcontents
      bleed := by rw [hring]; exact hbleed
      valve := fun hs => by rw [hu]; exact abortCorrection_valve hs
      running := .inl htripped
      target := by rcases hst with rfl | rfl <;> decide
      plateau := fun _ => by rcases hst with rfl | rfl <;> exact ⟨nofun, by simp⟩
      passed := fun hs => (passedRun_congr hmarks).trans hs
      corrections := fun hs => correctionsSound_of_closed (by
        show Closed u.session.corrections
        rw [hcorrections]
        exact abortCorrection_closed hs) }

/-- R130: the ring is at rest after such an entry. -/
theorem injection_aborted {st : SessionState} {s u : State} (hst : st = .opened ∨ st = .rundown)
    (hring : u.ring = (abortCorrection s).ring) (hs : Invariant.injection.Stands s) :
    Invariant.injection.Stands (withSession st u) := by
  obtain ⟨hctx, hvalve⟩ := abortCorrection_rests hs
  refine injection_of_rest (s := withSession st u) ?_ ?_ ?_
  · rw [show (withSession st u).ring = _ from hring]; exact hctx
  · rw [show (withSession st u).ring = _ from hring]; exact hvalve
  · rcases hst with rfl | rfl <;> nofun

theorem enterRundown_keepsAll (ch : Choice) {s : State} (hidle : s.session.state ≠ .idle)
    (htripped : s.session.state ≠ .tripped) : KeepsAll s (enterRundown ch s) := by
  have hentry : Entry .rundown s (abortCorrection s) :=
    Entry.aborting (.inr rfl) (abortCorrection_frame s) rfl rfl htripped
  exact ((hentry.setSession ch (.inl hidle) (injection_aborted (.inr rfl) rfl)).trans (abandonWeighing_keepsAll _)).trans
    (retainCheck_keepsAll ch _)

/-- R111: OPEN from a session's state, with the injection of CORRECT aborted. -/
theorem enterOpen_keepsAll (ch : Choice) {s : State} (hidle : s.session.state ≠ .idle)
    (htripped : s.session.state ≠ .tripped) : KeepsAll s (enterOpen ch (abortCorrection s)) :=
  Entry.setSession (s := s)
    (u := { abortCorrection s with session := { (abortCorrection s).session with redist := 0 } })
    (Entry.aborting (.inl rfl) (by rw [abortCorrection_frame]) rfl rfl htripped) ch (.inl hidle)
    (injection_aborted (.inl rfl) rfl)

/-! ### The end of an injection -/

/-- R105: from CORRECT to SETTLE, the outcome recorded and the ring as `v` has it. -/
theorem Entry.settling {s v : State} {o : InjOutcome} (ho : o ≠ .inProgress) (grams : Nat)
    (hv : v = { s with ring := v.ring }) (hcontents : v.ring.contents = s.ring.contents)
    (hbleed : v.ring.bleed = s.ring.bleed) (hvalve : s.ring.valve = s.valveOpen → v.ring.valve = v.valveOpen)
    (hstate : s.session.state = .correct) :
    Entry .settle s
      { recordOutcome o grams v with
        session := { (recordOutcome o grams v).session with settle := 0, midRev := true } } := by
  have hsession : v.session = s.session := by rw [hv]
  have hmarks : SameMarks s (recordOutcome o grams v) := fun e =>
    (recordOutcome_marks o grams v e).trans (by rw [hsession])
  exact
    { frame := by rw [hv]; rfl
      contents := hcontents
      bleed := hbleed
      valve := hvalve
      running := .inl (by rw [hstate]; decide)
      target := by decide
      plateau := fun hs => ⟨fun _ => isSome_currentPlateau (s := s) (by rw [hv]; rfl) hmarks
        (((sessionSound_iff s).mp hs).1 (by rw [hstate]; rfl)), by simp⟩
      passed := fun hs => (passedRun_congr hmarks).trans hs
      corrections := fun hs => correctionsSound_of_closed
        (recordOutcome_closed ho grams (s := v) (by rw [hv]; exact hs)) }

theorem enterSettle_after {s t u : State} (ch : Choice) (fault : Bool) {B : List Invariant}
    (h : Sustains B s (setSession ch .settle { u with session := { u.session with settle := 0, midRev := true } }))
    (ht : t = enterSettle ch fault u) : Sustains B s t := by
  rw [ht]
  exact (h.then_all (.onlyIf (latchKind_keepsAll .injectionFault) _)).then_all (settleCheck_keepsAll ch _)

/-- R131: the end of an ACTIVE injection, handed to the session. -/
theorem endInjection_keepsAll (ch : Choice) (fault : Bool) {o : InjOutcome} (ho : o ≠ .inProgress) {s : State}
    (hactive : s.ring.ctx.state = .active) : KeepsAll s (endInjection ch fault o s) := by
  unfold endInjection injectionEnded
  have hend : (ringEnd o s).ring.ctx.state ≠ .active ∧ (ringEnd o s).ring.valve = false :=
    ⟨ringEnd_not_active o s, by rw [ringEnd_ring]⟩
  split
  · next hstate =>
    have hentry := Entry.settling (s := s) (v := ringEnd o s) ho s.ring.ctx.credited rfl rfl rfl
      (fun _ => valve_of_rest hend.1 hend.2) hstate
    refine enterSettle_after ch fault (u := recordOutcome o s.ring.ctx.credited (ringEnd o s))
      (hentry.setSession ch (.inl ?_) fun _ => ?_) rfl
    · rw [show s.session.state = .correct from hstate]; decide
    · exact injection_of_rest (s := withSession .settle _) hend.1 hend.2 nofun
  · next hstate =>
    refine Sustains.trans (t := ringEnd o s) (fun i _ hs => ?_) (KeepsAll.onlyIf (latchKind_keepsAll .injectionFault) _)
    cases i with
    | injection => exact absurd (hs.1.mp hactive) hstate
    | valve => exact valve_of_rest hend.1 hend.2
    | live k => cases k <;> exact hs
    | _ => exact hs

theorem abortForAngle_keepsAll (ch : Choice) (s : State) : KeepsAll s (abortForAngle ch s) := by
  unfold abortForAngle
  split
  · exact endInjection_keepsAll ch false (by decide) ‹_›
  · exact .refl [] s

/-! ### The dwell end -/

theorem addCorrection_length (x : Correction) {l : List Correction} (h : l.length ≤ 8) : (addCorrection x l).length ≤ 8 := by
  unfold addCorrection
  split
  · simp only [List.length_append, List.length_drop, List.length_singleton]; omega
  · next hlt =>
    have hroom : l.length < 8 := not_le.mp hlt
    simp only [List.length_append, List.length_singleton]; omega

/-- R109: behind the newest record stand records that were closed. -/
theorem addCorrection_rest (x : Correction) {l : List Correction} (h : ∀ y ∈ l, y.outcome ≠ .inProgress) :
    ∀ y ∈ (addCorrection x l).dropLast, y.outcome ≠ .inProgress := by
  unfold addCorrection
  rw [List.dropLast_concat]
  intro y hy
  split at hy
  · exact h y (List.mem_of_mem_drop hy)
  · exact h y hy

/-- R109: the list of corrections is read by its own invariant alone. -/
theorem corrections_sustains (s : State) (l : List Correction) :
    Sustains [.corrections] s { s with session := { s.session with corrections := l } } := by
  intro i hi h
  cases i with
  | corrections => exact absurd (by simp) hi
  | live k => cases k <;> exact h
  | _ => exact h

theorem correctEntered_sustains (ch : Choice) (e : Fin 6) (c : Fin 4) (w : Nat) {s : State}
    (hstate : s.session.state = .dwell) (hplateau : s.currentPlateau.isSome = true) :
    Sustains [.injection] s (correctEntered ch e c w s) := by
  have hentry : Entry .correct s s :=
    { frame := rfl
      contents := rfl
      bleed := rfl
      valve := id
      running := .inl (by rw [hstate]; decide)
      target := by decide
      plateau := fun _ => ⟨fun _ => hplateau, by simp⟩
      passed := id
      corrections := corrections_of_same .correct (by rw [hstate]; decide) rfl }
  have hset := hentry.setSession_but ch (.inl (by rw [hstate]; decide))
  have hadded := corrections_sustains (setSession ch .correct s)
    (addCorrection (newCorrection s e c w) s.session.corrections)
  rw [setSession_session] at hadded
  intro i hi hs
  by_cases hcorr : i = .corrections
  · subst hcorr
    obtain ⟨hlength, hclosed⟩ := closed_of_correctionsSound hs (by rw [hstate]; decide)
    exact (correctionsSound_iff _).mpr ⟨addCorrection_length _ hlength, addCorrection_rest _ hclosed, .inl rfl⟩
  · exact hadded i (by simpa using hcorr) (hset i hi hs)

/-- R124: an injection that starts leaves all but itself. -/
theorem startInjection_sustains (c : Fin 4) (w : Nat) (s : State) : Sustains [.injection] s (startInjection c w s) := by
  intro i hi hs
  cases i with
  | injection => exact absurd (by simp) hi
  | valve => rfl
  | live k => cases k <;> exact hs
  | _ => exact hs

theorem enterCorrect_keepsAll (ch : Choice) (e : Fin 6) (c : Fin 4) (w : Nat) {s : State} (hstate : s.session.state = .dwell)
    (hplateau : s.currentPlateau.isSome = true) : KeepsAll s (enterCorrect ch e c w s) := by
  have hentered := correctEntered_sustains ch e c w hstate hplateau
  have hcorrect : (correctEntered ch e c w s).session.state = .correct := rfl
  have hring : (correctEntered ch e c w s).ring = s.ring := by simp [correctEntered]
  rw [enterCorrect_eq]
  unfold requestInjection
  split
  · unfold injectionEnded
    rw [if_pos hcorrect]
    have hentry := Entry.settling (s := correctEntered ch e c w s) (o := .aborted) (by decide) 0 rfl rfl rfl id hcorrect
    have hsettle := enterSettle_after ch false
      (hentry.setSession_but ch (.inl (by rw [hcorrect]; decide))) rfl
    intro i _ hs
    by_cases hi : i = .injection
    · subst hi
      obtain ⟨hctx, hvalve⟩ := ring_rests hs (by rw [hstate]; decide)
      refine ((KeepsAll.inOrder (.refl [] _) fun _ hf => Entry.entryEffects_keepsAll hf).trans
        ((KeepsAll.onlyIf (latchKind_keepsAll .injectionFault) _).trans (settleCheck_keepsAll ch _))) _ List.not_mem_nil ?_
      refine injection_of_rest (s := withSession .settle _) ?_ ?_ nofun
      · show (correctEntered ch e c w s).ring.ctx.state ≠ .active
        rw [hring]; exact hctx
      · show (correctEntered ch e c w s).ring.valve = false
        rw [hring]; exact hvalve
    · exact (hentered.trans hsettle) i (by simpa using hi) hs
  · intro i _ hs
    by_cases hi : i = .injection
    · subst hi
      exact ⟨⟨fun _ => hcorrect, fun _ => rfl⟩, fun hctx => absurd rfl hctx⟩
    · exact (hentered.trans (startInjection_sustains c w _)) i (by simpa using hi) hs

/-- R103, R110, R112: HOLD_DOWN or LIMITED from DWELL, with a failed plateau. -/
theorem plateauFails_keepsAll (ch : Choice) (e : Fin 6) {s : State} (hstate : s.session.state = .dwell) :
    KeepsAll s (plateauFails ch e s) := by
  have hentry : ∀ st : SessionState, st = .limited ∨ st = .holdDown →
      Entry st s { s with session := { s.session with failed := some e } } := fun st hst =>
    { frame := rfl
      contents := rfl
      bleed := rfl
      valve := id
      running := .inl (by rw [hstate]; decide)
      target := by rcases hst with rfl | rfl <;> decide
      plateau := fun _ => ⟨by rcases hst with rfl | rfl <;> nofun, fun _ => rfl⟩
      passed := id
      corrections := corrections_of_same st (by rw [hstate]; decide) rfl }
  have hset : ∀ st : SessionState, st = .limited ∨ st = .holdDown →
      KeepsAll s (setSession ch st { s with session := { s.session with failed := some e } }) := fun st hst =>
    (hentry st hst).setSession ch (.inl (by rw [hstate]; decide))
      (injection_of_same (by rw [hstate]; decide) (by rcases hst with rfl | rfl <;> decide) rfl)
  unfold plateauFails
  dsimp only
  split
  · exact (hset .holdDown (.inr rfl)).trans (retainCheck_keepsAll ch _)
  · exact hset .limited (.inl rfl)

/-- R95, R97: below the current plateau every entry of the program has passed. -/
theorem passed_below_current {s : State} {d e : Fin 6} (h : s.currentPlateau = some e) (hde : d < e) :
    s.session.progress[d].passed = true := by
  obtain ⟨hcurrent, hbelow⟩ := (find_allPlateaus _ e).mp h
  have happlies : s.applies e = true := (Bool.and_eq_true _ _ |>.mp hcurrent).1
  have hd : s.applies d = true := by
    simp only [State.applies, Bool.and_eq_true, decide_eq_true_iff, lt_programLength_iff] at happlies ⊢
    obtain ⟨⟨⟨hpos, hrise⟩, hmode⟩, hspeed⟩ := happlies
    have hlower : plateauSpeed s.tables d < plateauSpeed s.tables e := hrise d e hde le_rfl
    exact ⟨⟨⟨fun c hc => hpos c (hc.trans hde.le), fun b c hbc hc => hrise b c hbc (hc.trans hde.le)⟩, hmode⟩, by omega⟩
  have hnot := hbelow d hde
  simpa [hd] using hnot

/-- R102: the current plateau's mark lengthens the run. -/
theorem passedRun_set {s : State} {e : Fin 6} (h : s.currentPlateau = some e) (hs : passedRun s = true) :
    passedRun { s with session :=
      { s.session with progress := s.session.progress.set e { s.session.progress[e] with passed := true } } } = true := by
  refine (passedRun_iff _).mpr fun c d hcd hd => ?_
  show (s.session.progress.set e { s.session.progress[e] with passed := true })[c].passed = true
  change (s.session.progress.set e { s.session.progress[e] with passed := true })[d].passed = true at hd
  have hget : ∀ x : Fin 6, (s.session.progress.set e { s.session.progress[e] with passed := true })[x].passed =
      if x = e then true else s.session.progress[x].passed := by
    intro x
    by_cases hx : x = e
    · subst hx; simp
    · rw [if_neg hx]
      have hne : e.val ≠ x.val := fun heq => hx (Fin.ext heq.symm)
      simp [Vector.getElem_set_ne _ _ hne]
  rw [hget] at hd ⊢
  split
  · rfl
  · next hce =>
    by_cases hde : d = e
    · exact passed_below_current h (lt_of_le_of_ne (hde ▸ hcd) hce)
    · rw [if_neg hde] at hd
      exact (passedRun_iff s).mp hs c d hcd hd

theorem recordDwellU_marks (e : Fin 6) (s : State) : SameMarks s (recordDwellU e s) := by
  intro d
  show (s.session.progress.set e { s.session.progress[e] with uLast := s.est.u })[d].passed = _
  by_cases hd : d = e
  · subst hd; simp
  · have hne : e.val ≠ d.val := fun heq => hd (Fin.ext heq.symm)
    simp [Vector.getElem_set_ne _ _ hne]

theorem recordDwellU_keepsAll (e : Fin 6) (s : State) : KeepsAll s (recordDwellU e s) := by
  have hmarks := recordDwellU_marks e s
  have hcurrent := currentPlateau_congr_marks (s := s) (t := recordDwellU e s) rfl rfl hmarks
  intro i _ h
  cases i with
  | composed =>
    obtain ⟨hspin, hagitate⟩ := h
    refine ⟨hspin.trans ?_, hagitate⟩
    unfold State.spinCeiling State.spinTerms State.sessionTerm
    rw [hcurrent]
    rfl
  | plateau =>
    refine (sessionSound_iff _).mpr ?_
    rw [hcurrent]
    exact (sessionSound_iff s).mp h
  | passed => exact (passedRun_congr hmarks).trans h
  | live k => cases k <;> exact h
  | _ => exact h

/-- R102: the mark made, and the session's next state entered. -/
theorem plateauPasses_keepsAll (ch : Choice) {e : Fin 6} {s : State} (hstate : s.session.state = .dwell)
    (hcurrent : s.currentPlateau = some e) : KeepsAll s (plateauPasses ch e s) := by
  have hlatched := latchKind_keepsAll .plateauPassed s
  refine hlatched.trans (enterClimbOrOpen_keepsAll ch (s := latchKind .plateauPassed s) rfl rfl
    (fun hs => passedRun_set hcurrent hs) ?_ ?_ ?_)
  all_goals
    show s.session.state ≠ _
    rw [hstate]
    decide

theorem dwellEnd_keepsAll (ch : Choice) {e : Fin 6} {s : State} (hstate : s.session.state = .dwell)
    (hcurrent : s.currentPlateau = some e) : KeepsAll s (dwellEnd ch e s) := by
  have hcurrent' : (recordDwellU e s).currentPlateau = some e :=
    (currentPlateau_congr_marks (s := s) (t := recordDwellU e s) rfl rfl (recordDwellU_marks e s)).trans hcurrent
  refine (recordDwellU_keepsAll e s).trans ?_
  by_cases hpass : s.est.u ≤ plateauPass s.tables e
  · rw [dwellEnd_passes hpass]
    exact plateauPasses_keepsAll ch hstate hcurrent'
  · cases hplan : correctionPlan (recordDwellU e s) e with
    | some cw =>
      obtain ⟨c, w⟩ := cw
      rw [dwellEnd_corrects hpass hplan]
      exact enterCorrect_keepsAll ch e c w hstate (by rw [hcurrent']; rfl)
    | none =>
      rw [dwellEnd_fails hpass hplan]
      exact plateauFails_keepsAll ch e hstate

/-- R101: a count of revolutions is read by no invariant. -/
theorem counts_keepsAll (s : State) (dwell settle : Nat) :
    KeepsAll s { s with session := { s.session with dwell := dwell, settle := settle } } := by
  intro i _ h
  cases i with
  | live k => cases k <;> exact h
  | _ => exact h

theorem beginCounting_keepsAll (s : State) : KeepsAll s (beginCounting s) := by
  intro i _ h
  cases i with
  | live k => cases k <;> exact h
  | _ => exact h

theorem sessionClose_keepsAll (ch : Choice) (s : State) : KeepsAll s (sessionClose ch s) := by
  unfold sessionClose
  split
  · next hstate _ =>
    have hcounted := counts_keepsAll s (s.session.dwell + 1) s.session.settle
    dsimp only
    split
    · next e hcurrent =>
      split
      · exact hcounted.trans (dwellEnd_keepsAll ch (s := { s with session := { s.session with dwell := s.session.dwell + 1 } })
          hstate hcurrent)
      · exact hcounted
    · exact hcounted
  · exact (counts_keepsAll s s.session.dwell (s.session.settle + 1)).trans (settleCheck_keepsAll ch _)
  · exact .refl [] s

end Sys2Proof.Machine
end

section
/-! SUPPORT. Requests, the estimate, the angle and the readers of the speed and of the drive record: what each command moves
of the inputs, and that its effects bring the invariants about again. -/

namespace Sys2Proof.Machine

open Sys2Proof.Safety

/-! ### Effects in a list -/

/-- Effects made one after another that each leave the invariants standing, and bring about those that did not stand. -/
theorem Sustains.inTurn {B : List Invariant} {s t : State} {fs : List (State → State)} (h : Sustains B s t)
    (hkeeps : ∀ f ∈ fs, ∀ v, KeepsAll v (f v)) (hbrings : ∀ i ∈ B, ∃ f ∈ fs, ∀ v, i.Stands (f v)) :
    KeepsAll s (inTurn fs t) := by
  intro i _ hs
  by_cases hi : i ∈ B
  · exact inTurn_brings i.Stands (fun f hf v => hkeeps f hf v i List.not_mem_nil) (hbrings i hi)
  · exact inTurn_keeps i.Stands (h i hi hs) fun f hf v => hkeeps f hf v i List.not_mem_nil

/-! ### Requests -/

/-- R10: the requested demand is read by the ceilings and by what the session stands on. -/
theorem requested_sustains (s : State) (r : Requested) : Sustains [.composed, .plateau] s { s with requested := r } := by
  intro i hi h
  cases i with
  | composed => exact absurd (by simp) hi
  | plateau => exact absurd (by simp) hi
  | live k => cases k <;> exact h
  | _ => exact h

/-- R99: the records of a session that starts. -/
theorem sessionCleared_keepsAll {s : State} (hidle : s.session.state = .idle) :
    KeepsAll s
      { s with
        session := { s.session with progress := Vector.replicate 6 Progress.reset, corrections := [] }
        ring := { s.ring with available := true } } := by
  intro i _ h
  cases i with
  | composed =>
    obtain ⟨hspin, hagitate⟩ := h
    refine ⟨hspin.trans ?_, hagitate⟩
    simp only [State.spinCeiling, State.spinTerms, State.sessionTerm, hidle]
  | plateau => exact (sessionSound_iff _).mpr (by rw [show (_ : State).session.state = _ from hidle]; exact ⟨nofun, by simp⟩)
  | passed =>
    refine (passedRun_iff _).mpr fun d e _ he => absurd he ?_
    show ¬(Vector.replicate 6 Progress.reset)[e].passed = true
    rw [show (Vector.replicate 6 Progress.reset)[e] = Progress.reset from Vector.getElem_replicate ..]
    decide
  | corrections => exact correctionsSound_of_closed ⟨Nat.zero_le _, fun _ hx => absurd hx List.not_mem_nil⟩
  | live k => cases k <;> exact h
  | _ => exact h

theorem startEntry_keepsAll (ch : Choice) {s : State} (hidle : s.session.state = .idle) : KeepsAll s (startEntry ch s) := by
  have hcorrect : s.session.state ≠ .correct := by rw [hidle]; decide
  unfold startEntry
  split
  · next hcurrent =>
    refine Entry.leaveIdle (s := s) ?_ ch (injection_of_same hcorrect (by decide) rfl)
    exact
      { frame := rfl
        contents := rfl
        bleed := rfl
        valve := id
        running := .inl (by rw [hidle]; decide)
        target := by decide
        plateau := fun _ => ⟨fun _ => hcurrent, by simp⟩
        passed := id
        corrections := corrections_of_same .climb hcorrect rfl }
  · refine Entry.leaveIdle (s := s) ?_ ch (injection_of_same hcorrect (by decide) rfl)
    exact
      { frame := rfl
        contents := rfl
        bleed := rfl
        valve := id
        running := .inl (by rw [hidle]; decide)
        target := by decide
        plateau := fun _ => ⟨nofun, by simp⟩
        passed := id
        corrections := corrections_of_same .opened hcorrect rfl }

theorem startSession_keepsAll (ch : Choice) {s : State} (hidle : s.session.state = .idle) :
    KeepsAll s (startSession ch s) :=
  ((sessionCleared_keepsAll hidle).trans (armWeighing_keepsAll _)).trans (startEntry_keepsAll ch (by simpa using hidle))

/-- R98: OPEN from a state other than IDLE, CORRECT and TRIPPED. -/
theorem enterOpen_keepsAll_other (ch : Choice) {s : State} (hidle : s.session.state ≠ .idle)
    (hcorrect : s.session.state ≠ .correct) (htripped : s.session.state ≠ .tripped) : KeepsAll s (enterOpen ch s) := by
  have h := enterOpen_keepsAll ch hidle htripped
  rwa [abortCorrection_other hcorrect] at h

theorem spinRequest_keepsAll (ch : Choice) (s : State) : KeepsAll s (spinRequest ch s) := by
  have hrefl := Sustains.refl [] s
  have hopen : s.session.state ≠ .idle → s.session.state ≠ .correct → s.session.state ≠ .tripped →
      KeepsAll s (if s.currentPlateau.isSome then s else enterOpen ch s) := by
    intro hidle hcorrect htripped
    split
    · exact hrefl
    · exact enterOpen_keepsAll_other ch hidle hcorrect htripped
  unfold spinRequest
  cases hstate : s.session.state with
  | idle => exact startSession_keepsAll ch hstate
  | climb => exact hopen (by rw [hstate]; decide) (by rw [hstate]; decide) (by rw [hstate]; decide)
  | dwell => exact hopen (by rw [hstate]; decide) (by rw [hstate]; decide) (by rw [hstate]; decide)
  | settle => exact hopen (by rw [hstate]; decide) (by rw [hstate]; decide) (by rw [hstate]; decide)
  | correct =>
    dsimp only
    split
    · exact hrefl
    · exact enterOpen_keepsAll ch (by rw [hstate]; decide) (by rw [hstate]; decide)
  | opened =>
    dsimp only
    split
    · next hcurrent =>
      have hclimb := enterClimbOrOpen_keepsAll ch (s := s) rfl rfl id (by rw [hstate]; decide) (by rw [hstate]; decide)
        (by rw [hstate]; decide)
      unfold enterClimbOrOpen at hclimb
      rwa [if_pos hcurrent] at hclimb
    · exact hrefl
  | rundown =>
    exact enterClimbOrOpen_keepsAll ch (s := s) rfl rfl id (by rw [hstate]; decide) (by rw [hstate]; decide)
      (by rw [hstate]; decide)
  | limited => exact hrefl
  | holdDown => exact hrefl
  | tripped => exact hrefl

theorem endingRequest_keepsAll (ch : Choice) (s : State) : KeepsAll s (endingRequest ch s) := by
  unfold endingRequest
  cases hstate : s.session.state with
  | idle | holdDown | rundown | tripped => exact .refl [] s
  | _ => exact enterRundown_keepsAll ch (by rw [hstate]; decide) (by rw [hstate]; decide)

theorem plateau_of_opened {s : State} (h : s.session.state = .opened ∨ s.session.state = .rundown) :
    Invariant.plateau.Stands s := by
  refine (sessionSound_iff s).mpr ?_
  rcases h with h | h <;> rw [h] <;> exact ⟨nofun, by simp⟩

/-- R98, Table 6-3: after a spin request the session stands on a plateau that is current under it. -/
theorem spinRequest_plateau (ch : Choice) {s : State}
    (hfailed : s.session.state = .limited ∨ s.session.state = .holdDown → s.session.failed.isSome = true) :
    Invariant.plateau.Stands (spinRequest ch s) := by
  by_cases h : s.session.state.onPlateau = true → s.currentPlateau.isSome = true
  · exact spinRequest_keepsAll ch s _ List.not_mem_nil ((sessionSound_iff s).mpr ⟨h, hfailed⟩)
  · obtain ⟨hon, hnone⟩ := Classical.not_imp.mp h
    have hopened : ∀ u : State, Invariant.plateau.Stands (enterOpen ch u) := fun u =>
      plateau_of_opened (.inl (by rw [enterOpen_session]))
    unfold spinRequest
    cases hstate : s.session.state with
    | climb | dwell | settle | correct =>
      dsimp only
      rw [if_neg hnone]
      exact hopened _
    | _ => rw [hstate] at hon; exact absurd hon (by decide)

theorem endingRequest_plateau (ch : Choice) {s : State}
    (hfailed : s.session.state = .limited ∨ s.session.state = .holdDown → s.session.failed.isSome = true) :
    Invariant.plateau.Stands (endingRequest ch s) := by
  have hrundown : Invariant.plateau.Stands (enterRundown ch s) :=
    retainCheck_keepsAll ch _ _ List.not_mem_nil (plateau_of_opened (.inr (by simp)))
  have hother : s.session.state.onPlateau = false → Invariant.plateau.Stands (endingRequest ch s) := fun hoff =>
    endingRequest_keepsAll ch s _ List.not_mem_nil
      ((sessionSound_iff s).mpr ⟨fun hon => absurd (hoff.symm.trans hon) (by decide), hfailed⟩)
  cases hstate : s.session.state with
  | climb | dwell | settle | correct =>
    unfold endingRequest
    rw [hstate]
    exact hrundown
  | _ => exact hother (by rw [hstate]; rfl)

theorem takeRequest_keepsAll (ch : Choice) (mode : Byte) (target : Int) (s : State) :
    KeepsAll s (takeRequest ch mode target s) := by
  have hstart := requested_sustains s { mode := mode, target := target }
  generalize hu : ({ s with requested := { mode := mode, target := target } } : State) = u at hstart
  have hfailed : sessionSound s = true →
      u.session.state = .limited ∨ u.session.state = .holdDown → u.session.failed.isSome = true := by
    intro h
    rw [← hu]
    exact ((sessionSound_iff s).mp h).2
  have hacted : Sustains [.composed] s (actOnRequest ch u) := by
    intro i hi hs
    have hcase : ∀ f : State → State, (∀ v, KeepsAll v (f v)) → (sessionSound s = true → Invariant.plateau.Stands (f u)) →
        i.Stands (f u) := by
      intro f hf hplateau
      by_cases hp : i = .plateau
      · subst hp
        exact hplateau hs
      · exact hf _ i List.not_mem_nil (hstart i (by simp only [List.mem_cons, List.not_mem_nil, or_false] at hi ⊢; tauto) hs)
    unfold actOnRequest
    split
    · exact hcase _ (spinRequest_keepsAll ch) fun h => spinRequest_plateau ch (hfailed h)
    · exact hcase _ (endingRequest_keepsAll ch) fun h => endingRequest_plateau ch (hfailed h)
  rw [takeRequest_eq, requesting, show ({ s with portD := s.portD, requested := { mode := mode, target := target } } : State)
    = u from hu]
  exact hacted.recomposed

/-! ### The estimate -/

/-- R83, R140, R148: the estimate is read by the ceilings, by MASS and by ESTIMATE_VALID. -/
theorem est_sustains (s : State) (e : Estimator) :
    Sustains [.composed, .taken .mass, .live .estimateValid] s { s with est := e } := by
  intro i hi h
  simp only [List.mem_cons, List.not_mem_nil, or_false, not_or] at hi
  obtain ⟨hcomp, hmass, hvalid⟩ := hi
  cases i with
  | composed => exact absurd rfl hcomp
  | taken c =>
    cases c with
    | mass => exact absurd rfl hmass
    | _ => exact h
  | live k =>
    cases k with
    | estimateValid => exact absurd rfl hvalid
    | _ => exact h
  | _ => exact h

/-- R76, R148: an estimate that is VALID where it was before leaves the ceilings and ESTIMATE_VALID. -/
theorem est_sustains_mass {s : State} {e : Estimator} (h : e.state = .valid ↔ s.est.state = .valid) :
    Sustains [.taken .mass] s { s with est := e } := by
  have hvalid : (e.state == .valid) = (s.est.state == .valid) := by
    rw [Bool.eq_iff_iff, beq_iff_eq, beq_iff_eq]; exact h
  intro i hi hs
  by_cases hcomp : i = .composed
  · subst hcomp
    obtain ⟨hspin, hagitate⟩ := hs
    refine ⟨hspin.trans ?_, hagitate⟩
    simp only [State.spinCeiling, State.spinTerms, bne, hvalid]
    rfl
  by_cases hlive : i = .live .estimateValid
  · subst hlive
    exact (show s.events.live.getLsbD _ = (s.est.state == .valid) from hs).trans hvalid.symm
  exact est_sustains s e i (by simp only [List.mem_cons, List.not_mem_nil, or_false] at hi ⊢; tauto) hs

/-- R140: MASS is false of an estimate that is not VALID. -/
theorem mass_of_not_valid {s : State} (h : s.est.state ≠ .valid) : (Invariant.taken .mass).Stands s := by
  intro hd
  simp only [State.causeHolds, Bool.and_eq_true, beq_iff_eq] at hd
  exact absurd hd.1 h

theorem est_keepsAll_of_not_valid {s : State} {e : Estimator} (hs : s.est.state ≠ .valid) (he : e.state ≠ .valid) :
    KeepsAll s { s with est := e } :=
  (est_sustains_mass ⟨fun h => absurd h he, fun h => absurd h hs⟩).restored (.refl [] _) (mass_of_not_valid he)

/-- R55, R57: neither the state of the estimate nor U is touched. -/
theorem est_keepsAll_of_same {s : State} {e : Estimator} (hstate : e.state = s.est.state) (hu : e.u = s.est.u) :
    KeepsAll s { s with est := e } := by
  intro i _ hs
  by_cases hmass : i = .taken .mass
  · subst hmass
    intro hd
    simp only [State.causeHolds, hstate, hu] at hd
    exact hs hd
  · exact est_sustains_mass (by rw [hstate]) i (by simpa using hmass) hs

theorem estimatorInvalid_keepsAll (ch : Choice) (s : State) : KeepsAll s (estimatorInvalid ch s) := by
  unfold estimatorInvalid
  split
  · exact .refl [] s
  · next h => exact est_keepsAll_of_not_valid (by rw [h]; decide) nofun
  · have hlost : Sustains [.composed, .live .estimateValid] s { s with est := s.est.lost } := by
      intro i hi hs
      by_cases hmass : i = .taken .mass
      · exact hmass ▸ mass_of_not_valid nofun
      · exact est_sustains s _ i (by simp only [List.mem_cons, List.not_mem_nil, or_false] at hi ⊢; tauto) hs
    refine hlost.inOrder (fun f hf v => ?_) fun i hi => ?_
    · simp only [List.mem_cons, List.not_mem_nil, or_false] at hf
      rcases hf with rfl | rfl | rfl
      · exact judgeLive_keepsAll .estimateValid v
      · exact (gov_sustains v _).recomposed
      · exact counts_keepsAll v 0 0
    · simp only [List.mem_cons, List.not_mem_nil, or_false] at hi
      rcases hi with rfl | rfl
      · exact ⟨fun v => recompose { v with gov := { v.gov with rise := 0 } }, by simp, fun v => recompose_stands _⟩
      · exact ⟨judgeLive .estimateValid, by simp, judgeLive_stands .estimateValid⟩

theorem estimatorBegin_keepsAll (s : State) : KeepsAll s (estimatorBegin s) := by
  unfold estimatorBegin
  split
  · next h => exact est_keepsAll_of_not_valid (by rw [h.1]; decide) nofun
  · exact .refl [] s

theorem closeEffects_keepsAll {ch : Choice} {entered : Bool} {f : State → State} (hf : f ∈ closeEffects ch entered)
    (v : State) : KeepsAll v (f v) := by
  rcases mem_closeEffects hf with rfl | rfl | rfl | rfl | rfl | rfl
  · exact judgeLive_keepsAll .estimateValid v
  · exact recompose_keepsAll v
  · exact governorClose_keepsAll false v
  · exact sessionClose_keepsAll ch v
  · exact judgeCauses_keepsAll ch [.mass] v
  · exact reportClose_keepsAll v

/-- R67, R81: the effects of the revolution that brings VALID. -/
theorem mem_closeEffects_entered (ch : Choice) {f : State → State}
    (hf : f = judgeLive .estimateValid ∨ f ∈ recompose :: closeReaders ch) : f ∈ closeEffects ch true := by
  unfold closeEffects placed
  rw [if_pos rfl, List.mem_insertIdx (Nat.lt_succ_iff.mp (Nat.mod_lt _ (Nat.succ_pos _))), (arrange_perm _ _).mem_iff]
  exact hf

/-- R67, R90: after a counted VALID revolution the neighbours bring about what the new estimate broke. -/
theorem neighboursAct_keepsAll (ch : Choice) {s : State} {e : Estimator} {entered : Bool} (he : e.state = .valid)
    (hentered : entered = false → s.est.state = .valid) :
    KeepsAll s (neighboursAct ch entered { s with est := e }) := by
  unfold neighboursAct
  cases entered with
  | true =>
    have hstart : Sustains [.composed, .taken .mass, .live .estimateValid] s
        (onlyIf true (takeEnvelope true) { s with est := e }) :=
      (est_sustains s e).trans ((gov_sustains _ _).mono (by simp))
    refine hstart.inTurn (fun f hf v => closeEffects_keepsAll hf v) fun i hi => ?_
    simp only [List.mem_cons, List.not_mem_nil, or_false] at hi
    rcases hi with rfl | rfl | rfl
    · exact ⟨recompose, mem_closeEffects_entered ch (.inr (by simp)), recompose_stands⟩
    · exact ⟨_, mem_closeEffects_entered ch (.inr (by simp [closeReaders])), judgeCauses_stands ch (List.mem_singleton.mpr rfl)⟩
    · exact ⟨_, mem_closeEffects_entered ch (.inl rfl), judgeLive_stands .estimateValid⟩
  | false =>
    have hstart : Sustains [.taken .mass] s (onlyIf false (takeEnvelope true) { s with est := e }) :=
      est_sustains_mass ⟨fun _ => hentered rfl, fun _ => he⟩
    refine hstart.inTurn (fun f hf v => closeEffects_keepsAll hf v) fun i hi => ?_
    rw [List.mem_singleton.mp hi]
    refine ⟨judgeCauses ch [.mass], ?_, judgeCauses_stands ch (List.mem_singleton.mpr rfl)⟩
    unfold closeEffects
    rw [if_neg (by decide), (arrange_perm _ _).mem_iff]
    simp [closeReaders]

/-- R65: a counted revolution leaves VALID standing. -/
theorem countedClose_valid {s : State} (a : Accumulation) (h : s.est.state = .valid) :
    (s.est.countedClose s a).state = .valid := by
  show ((s.est.estimate _ _ _ a).advance _).state = .valid
  unfold Estimator.advance
  have hstate : (s.est.estimate s.spin.filterShift s.tables.gain (bandOf s.indexSpeed) a).state = .valid := h
  rw [if_neg (by rw [hstate]; decide)]
  exact hstate

theorem revolutionClose_keepsAll (ch : Choice) (s : State) : KeepsAll s (revolutionClose ch s) := by
  unfold revolutionClose
  split
  · exact estimatorBegin_keepsAll s
  · exact .refl [] s
  · split
    · exact est_keepsAll_of_same rfl rfl
    · dsimp only
      split
      · next hvalid =>
        exact neighboursAct_keepsAll ch hvalid fun hentered => by simpa using hentered
      · next hvalid =>
        exact est_keepsAll_of_not_valid (fun h => hvalid (countedClose_valid _ h)) hvalid

end Sys2Proof.Machine
end

section
/-! SUPPORT. The angle, the switch inputs, the links, the ring and the agent: each leaves the invariants standing. -/

namespace Sys2Proof.Machine

open Sys2Proof.Safety

/-! ### VALVE, the bleed timer and the readers of the speed -/

theorem judgeValve_stands (s : State) : Invariant.valve.Stands (judgeValve s) := rfl

theorem judgeValve_keepsAll (s : State) : KeepsAll s (judgeValve s) := by
  intro i _ h
  cases i with
  | injection => exact ⟨h.1, fun hctx => valveOpen_of_not_active hctx⟩
  | valve => rfl
  | live k => cases k <;> exact h
  | _ => exact h

theorem now_sustains (s : State) (now : Time) : Sustains [.valve] s { s with now := now } := by
  intro i hi h
  cases i with
  | valve => exact absurd (by simp) hi
  | live k => cases k <;> exact h
  | _ => exact h

theorem tick_keepsAll (m : Moment) (s : State) : KeepsAll s (tick m s) :=
  (now_sustains s _).restored (judgeValve_keepsAll _) (judgeValve_stands _)

theorem bleedSound_iff (s : State) :
    bleedSound s = true ↔ s.ring.bleed.isSome = s.speedBelow s.spin.retainSpeed := by
  rw [bleedSound, beq_iff_eq]

theorem judgeBleed_stands (s : State) : Invariant.bleed.Stands (judgeBleed s) := by
  refine (bleedSound_iff _).mpr ?_
  show (if s.speedBelow s.spin.retainSpeed then some (s.ring.bleed.getD s.now) else none).isSome =
    s.speedBelow s.spin.retainSpeed
  split
  · next h => rw [h]; rfl
  · next h => rw [Bool.eq_false_iff.mpr h]; rfl

theorem judgeBleed_keepsAll (s : State) : KeepsAll s (judgeBleed s) := by
  intro i _ h
  cases i with
  | bleed => exact judgeBleed_stands s
  | live k => cases k <;> exact h
  | _ => exact h

theorem speedChanged_keepsAll (ch : Choice) (s : State) : KeepsAll s (speedChanged ch s) := by
  refine KeepsAll.inOrder (.refl [] s) fun f hf v => ?_
  simp only [List.mem_cons, List.not_mem_nil, or_false] at hf
  rcases hf with rfl | rfl | rfl
  · exact (climbCheck_keepsAll ch v).trans (retainCheck_keepsAll ch _)
  · exact judgeBleed_keepsAll v
  · exact judgeCauses_keepsAll ch [.lid] v

/-- R47: the users of the speed follow its change. -/
theorem speedChanged_stands (ch : Choice) {i : Invariant} (hi : i = .bleed ∨ i = .taken .lid) (s : State) :
    i.Stands (speedChanged ch s) := by
  refine inOrder_brings i.Stands (fun f hf v => ?_) ?_
  · simp only [List.mem_cons, List.not_mem_nil, or_false] at hf
    rcases hf with rfl | rfl | rfl
    · exact (climbCheck_keepsAll ch v).trans (retainCheck_keepsAll ch _) i List.not_mem_nil
    · exact judgeBleed_keepsAll v i List.not_mem_nil
    · exact judgeCauses_keepsAll ch [.lid] v i List.not_mem_nil
  · rcases hi with rfl | rfl
    · exact ⟨judgeBleed, by simp, judgeBleed_stands⟩
    · exact ⟨judgeCauses ch [.lid], by simp, judgeCauses_stands ch (List.mem_singleton.mpr rfl)⟩

theorem updateLead_keepsAll (s : State) : KeepsAll s (updateLead s) := by
  unfold updateLead
  split
  · next hactive =>
    intro i _ h
    cases i with
    | injection => exact ⟨h.1, fun hctx => absurd hactive hctx⟩
    | valve => rfl
    | live k => cases k <;> exact h
    | _ => exact h
  · exact .refl [] s

/-! ### The angle -/

/-- R43, R48, R50, R135, R139: what reads the angle tracker. -/
def angleBroken : List Invariant := [.bleed, .taken .lid, .live .indexLoss]

theorem tracker_sustains (s : State) (x : Tracker) : Sustains (.valve :: angleBroken) s { s with tracker := x } := by
  intro i hi h
  simp only [angleBroken, List.mem_cons, List.not_mem_nil, or_false, not_or] at hi
  obtain ⟨hvalve, hbleed, hlid, hloss⟩ := hi
  cases i with
  | valve => exact absurd rfl hvalve
  | bleed => exact absurd rfl hbleed
  | taken c =>
    cases c with
    | lid => exact absurd rfl hlid
    | _ => exact h
  | live k =>
    cases k with
    | indexLoss => exact absurd rfl hloss
    | _ => exact h
  | _ => exact h

theorem tracker_valve_sustains (s : State) (x : Tracker) : Sustains angleBroken s (judgeValve { s with tracker := x }) := by
  intro i hi h
  by_cases hv : i = .valve
  · exact hv ▸ judgeValve_stands _
  · exact judgeValve_keepsAll _ i List.not_mem_nil
      (tracker_sustains s x i (by rw [List.mem_cons, not_or]; exact ⟨hv, hi⟩) h)

/-- R39, R43: with no angle the speed is the drive speed whatever the tracker holds. -/
theorem speed_of_no_angle {s t : State} (hs : s.angleValid = false) (ht : t.angleValid = false) (hdrive : t.drive = s.drive)
    (hsilence : t.silence = s.silence) : t.speed = s.speed := by
  rw [State.speed, State.speed, hs, ht, State.driveSpeed, State.driveSpeed, hdrive, hsilence]
  rfl

/-- R41, R46: the tracker moving with no angle before or after. -/
theorem tracker_keepsAll_of_no_angle {s : State} {x : Tracker} (hs : s.angleValid = false) (hx : (x.state == .locked) = false) :
    Sustains [.valve] s { s with tracker := x } := by
  have hspeed : ({ s with tracker := x } : State).speed = s.speed := speed_of_no_angle hs hx rfl rfl
  intro i hi h
  by_cases hbroken : i ∈ angleBroken
  · simp only [angleBroken, List.mem_cons, List.not_mem_nil, or_false] at hbroken
    rcases hbroken with rfl | rfl | rfl
    · refine (bleedSound_iff _).mpr (((bleedSound_iff s).mp h).trans ?_)
      show s.speedBelow _ = ({ s with tracker := x } : State).speedBelow _
      simp only [State.speedBelow, hspeed]
    · intro hd
      have hd' : s.causeHolds .lid = true := by
        simp only [State.causeHolds, State.speedAtLeast, hspeed] at hd ⊢
        exact hd
      exact h hd'
    · have hangle : ({ s with tracker := x } : State).angleValid = s.angleValid := hx.trans hs.symm
      refine Eq.trans (show s.events.live.getLsbD _ = s.indexLoss from h) ?_
      show s.indexLoss = ({ s with tracker := x } : State).indexLoss
      unfold State.indexLoss
      rw [hangle]
      rfl
  · exact tracker_sustains s x i (by rw [List.mem_cons, not_or]; exact ⟨by simpa using hi, hbroken⟩) h

theorem angleLost_blocks (ch : Choice) {f : State → State}
    (hf : f ∈ [estimatorInvalid ch, abortForAngle ch, speedChanged ch, judgeLive .indexLoss]) (v : State) :
    KeepsAll v (f v) := by
  simp only [List.mem_cons, List.not_mem_nil, or_false] at hf
  rcases hf with rfl | rfl | rfl | rfl
  · exact estimatorInvalid_keepsAll ch v
  · exact abortForAngle_keepsAll ch v
  · exact speedChanged_keepsAll ch v
  · exact judgeLive_keepsAll .indexLoss v

theorem angleLost_keepsAll (ch : Choice) (s : State) : KeepsAll s (angleLost ch s) :=
  KeepsAll.inOrder (.refl [] s) fun _ hf v => angleLost_blocks ch hf v

/-- R47: the readers of the angle bring about what its loss broke. -/
theorem angleLost_restores {B : List Invariant} {s t : State} (h : Sustains (B ++ angleBroken) s t) (ch : Choice) :
    Sustains B s (angleLost ch t) := by
  have hkeep : ∀ (i : Invariant), ∀ f ∈ [estimatorInvalid ch, abortForAngle ch, speedChanged ch, judgeLive .indexLoss],
      ∀ v, i.Stands v → i.Stands (f v) := fun i _ hf v => angleLost_blocks ch hf v i List.not_mem_nil
  intro i hi hs
  by_cases hangle : i ∈ angleBroken
  · simp only [angleBroken, List.mem_cons, List.not_mem_nil, or_false] at hangle
    rcases hangle with rfl | rfl | rfl
    · exact inOrder_brings _ (hkeep _) ⟨speedChanged ch, by simp, speedChanged_stands ch (.inl rfl)⟩
    · exact inOrder_brings _ (hkeep _) ⟨speedChanged ch, by simp, speedChanged_stands ch (.inr rfl)⟩
    · exact inOrder_brings _ (hkeep _) ⟨judgeLive .indexLoss, by simp, judgeLive_stands .indexLoss⟩
  · exact angleLost_keepsAll ch t i List.not_mem_nil (h i (by rw [List.mem_append, not_or]; exact ⟨hi, hangle⟩) hs)

theorem angleGained_blocks (ch : Choice) {f : State → State}
    (hf : f ∈ [estimatorBegin, speedChanged ch, judgeLive .indexLoss]) (v : State) : KeepsAll v (f v) := by
  simp only [List.mem_cons, List.not_mem_nil, or_false] at hf
  rcases hf with rfl | rfl | rfl
  · exact estimatorBegin_keepsAll v
  · exact speedChanged_keepsAll ch v
  · exact judgeLive_keepsAll .indexLoss v

theorem angleGained_keepsAll (ch : Choice) (s : State) : KeepsAll s (angleGained ch s) :=
  (KeepsAll.inOrder (.refl [] s) fun _ hf v => angleGained_blocks ch hf v).trans (beginCounting_keepsAll _)

theorem angleGained_restores {s t : State} (h : Sustains angleBroken s t) (ch : Choice) : KeepsAll s (angleGained ch t) := by
  refine Sustains.trans (h.inOrder (fun _ hf v => angleGained_blocks ch hf v) fun i hi => ?_) (beginCounting_keepsAll _)
  simp only [angleBroken, List.mem_cons, List.not_mem_nil, or_false] at hi
  rcases hi with rfl | rfl | rfl
  · exact ⟨speedChanged ch, by simp, speedChanged_stands ch (.inl rfl)⟩
  · exact ⟨speedChanged ch, by simp, speedChanged_stands ch (.inr rfl)⟩
  · exact ⟨judgeLive .indexLoss, by simp, judgeLive_stands .indexLoss⟩

theorem angleClosed_keepsAll (ch : Choice) (s : State) : KeepsAll s (angleClosed ch s) :=
  (((updateLead_keepsAll s).trans (speedChanged_keepsAll ch _)).trans (revolutionClose_keepsAll ch _)).trans
    (beginCounting_keepsAll _)

theorem angleClosed_restores {s t : State} (h : Sustains [.bleed, .taken .lid] s t) (ch : Choice) :
    KeepsAll s (angleClosed ch t) := by
  have hchanged : KeepsAll s (speedChanged ch (updateLead t)) := by
    intro i _ hs
    by_cases hi : i = .bleed ∨ i = .taken .lid
    · exact speedChanged_stands ch hi _
    · exact speedChanged_keepsAll ch _ i List.not_mem_nil
        (updateLead_keepsAll t i List.not_mem_nil (h i (by simpa using hi) hs))
  exact (hchanged.trans (revolutionClose_keepsAll ch _)).trans (beginCounting_keepsAll _)

theorem handPulse_keepsAll (ch : Choice) (o : PulseOutcome) (s : State) : KeepsAll s (handPulse ch o s) := by
  cases o with
  | glitch => exact countSource_keepsAll .indexGlitch s
  | quiet => exact .refl [] s
  | closed => exact angleClosed_keepsAll ch s
  | gained => exact angleGained_keepsAll ch s
  | lost => exact angleLost_keepsAll ch s

/-- R40 to R45: what the outcome of a pulse says of the tracker. -/
def PulseMoves (t : Tracker) (r : Tracker × PulseOutcome) : Prop :=
  match r.2 with
  | .glitch => r.1 = t
  | .quiet => t.state ≠ .locked ∧ r.1.state ≠ .locked
  | .closed => t.state = .locked ∧ r.1.state = .locked
  | .gained | .lost => True

theorem timedOutcome_moves (t : Tracker) (x : Tracker) : PulseMoves t (x, timedOutcome t.state x.state) := by
  unfold PulseMoves
  cases t.state <;> cases x.state <;> simp [timedOutcome]

theorem Tracker.pulse_moves {t : Tracker} (h : trackerSound t = true) (now : Time) (v : Option Int) :
    PulseMoves t (t.pulse now v) := by
  unfold Tracker.pulse
  split
  · next hstate => exact ⟨by rw [hstate]; decide, nofun⟩
  · next hlast hstate =>
    refine ⟨fun hlocked => ?_, nofun⟩
    simp [trackerSound, hlocked, hlast] at h
  · split
    · rfl
    · unfold Tracker.accept
      split
      · split
        · trivial
        · next hnot => exact ⟨hnot, nofun⟩
      · exact timedOutcome_moves t _

/-- R40: an index pulse leaves what does not read the tracker. -/
theorem indexPulse_sustains (ch : Choice) (s : State) : Sustains angleBroken s (indexPulse ch s) :=
  (tracker_valve_sustains s _).then_all (handPulse_keepsAll ch _ _)

theorem indexPulse_keepsAll (ch : Choice) {s : State} (hsound : trackerSound s.tracker = true) :
    KeepsAll s (indexPulse ch s) := by
  have hmoves := Tracker.pulse_moves hsound s.now s.driveSpeed
  have hstart := tracker_valve_sustains s (s.tracker.pulse s.now s.driveSpeed).1
  unfold indexPulse
  dsimp only
  unfold PulseMoves at hmoves
  generalize s.tracker.pulse s.now s.driveSpeed = r at hmoves hstart ⊢
  obtain ⟨x, o⟩ := r
  cases o with
  | glitch =>
    obtain rfl : x = s.tracker := hmoves
    exact (judgeValve_keepsAll s).trans (countSource_keepsAll .indexGlitch _)
  | quiet =>
    obtain ⟨hs, hx⟩ := hmoves
    exact (tracker_keepsAll_of_no_angle (by simpa [State.angleValid] using hs) (by simpa using hx)).restored
      (judgeValve_keepsAll _) (judgeValve_stands _)
  | closed =>
    obtain ⟨hs, hx⟩ := hmoves
    refine angleClosed_restores (fun i hi h => ?_) ch
    by_cases hloss : i = .live .indexLoss
    · subst hloss
      refine Eq.trans (show s.events.live.getLsbD _ = s.indexLoss from h) ?_
      show s.indexLoss = (judgeValve { s with tracker := x }).indexLoss
      simp [State.indexLoss, State.angleValid, hs, show x.state = .locked from hx]
    · refine hstart i ?_ h
      simp only [angleBroken, List.mem_cons, List.not_mem_nil, or_false] at hi ⊢
      tauto
  | gained => exact angleGained_restores hstart ch
  | lost => exact angleLost_restores (B := []) hstart ch

theorem indexGone_not_locked (t : Tracker) : t.indexGone.state ≠ .locked := by
  unfold Tracker.indexGone
  by_cases hshort : t.period.getD 0 < 1000000 <;> cases t.state <;> simp [hshort, Tracker.reset]

/-- R46: the index lost, but for VALVE. -/
theorem indexLost_sustains (ch : Choice) (s : State) : Sustains [.valve] s (indexLost ch s) := by
  unfold indexLost
  split
  · dsimp only
    have hgone : (({ s with tracker := s.tracker.indexGone } : State).tracker.state == .locked) = false := by
      simpa using indexGone_not_locked s.tracker
    split
    · exact angleLost_restores (B := [.valve]) (tracker_sustains s _) ch
    · next hangle => exact tracker_keepsAll_of_no_angle (by simpa using hangle) hgone
  · exact .refl _ s

/-- R126: with no angle VALVE is to be closed. -/
theorem valveOpen_of_no_angle {s : State} (h : s.angleValid = false) : s.valveOpen = false := by
  have hlocked : s.tracker.state ≠ .locked := by simpa [State.angleValid] using h
  have hnone : s.thetaNow = none := by
    unfold State.thetaNow
    split
    · next h _ _ => exact absurd h hlocked
    · rfl
  unfold State.valveOpen
  rw [hnone]
  exact Bool.and_false _

/-- R46, R47, R130: the angle lost, VALVE closes with the injection. -/
theorem angleLost_valve (ch : Choice) {s : State} (hangle : s.angleValid = false) (hinj : Invariant.injection.Stands s) :
    Invariant.valve.Stands (angleLost ch s) := by
  have htracker : ∀ f ∈ [estimatorInvalid ch, abortForAngle ch, speedChanged ch, judgeLive .indexLoss], ∀ v : State,
      v.tracker = s.tracker → (f v).tracker = s.tracker := by
    intro f hf v hv
    simp only [List.mem_cons, List.not_mem_nil, or_false] at hf
    rcases hf with rfl | rfl | rfl | rfl <;> simpa using hv
  refine inOrder_brings_under (fun v => v.tracker = s.tracker ∧ Invariant.injection.Stands v) Invariant.valve.Stands
    ⟨rfl, hinj⟩ (fun f hf v hv => ⟨htracker f hf v hv.1, angleLost_blocks ch hf v _ List.not_mem_nil hv.2⟩)
    (fun f hf v _ hv => angleLost_blocks ch hf v _ List.not_mem_nil hv) ⟨abortForAngle ch, by simp, fun v hv => ?_⟩
  obtain ⟨hv, hinjection⟩ := hv
  have hafter : (abortForAngle ch v).angleValid = false := by
    rw [State.angleValid, htracker (abortForAngle ch) (by simp) v hv]
    exact hangle
  show (abortForAngle ch v).ring.valve = _
  rw [valveOpen_of_no_angle hafter]
  by_cases hactive : v.ring.ctx.state = .active
  · rw [abortForAngle_active hactive, ringEnd_ring]
  · rw [abortForAngle_idle hactive]
    exact hinjection.2 hactive

/-- R46, R126: the index lost, with the injection sound. -/
theorem indexLost_valve (ch : Choice) {s : State} (hinj : Invariant.injection.Stands s) (h : Invariant.valve.Stands s) :
    Invariant.valve.Stands (indexLost ch s) := by
  unfold indexLost
  split
  · dsimp only
    have hgone : (({ s with tracker := s.tracker.indexGone } : State).tracker.state == .locked) = false := by
      simpa using indexGone_not_locked s.tracker
    have hinj' := tracker_sustains s s.tracker.indexGone .injection (by simp [angleBroken]) hinj
    split
    · exact angleLost_valve ch hgone hinj'
    · next hangle =>
      exact (show s.ring.valve = s.valveOpen from h).trans
        ((valveOpen_of_no_angle (by simpa using hangle)).trans (valveOpen_of_no_angle hgone).symm)
  · exact h

end Sys2Proof.Machine
end

section
/-! SUPPORT. The switch inputs, the links, the ring, the agent and the resets: each command leaves the invariants standing. -/

namespace Sys2Proof.Machine

open Sys2Proof.Safety

/-! ### The switch inputs -/

/-- R37, R38: what reads the debounced state of an input. -/
def switchBroken : Switch → List Invariant
  | .lid => [.live .lidOpen, .taken .lid]
  | .strike => [.live .strike, .taken .strike]

theorem switch_sustains (s : State) (sw : Switch) (d : Debounce) : Sustains (switchBroken sw) s (s.withSwitch sw d) := by
  intro i hi h
  cases sw with
  | lid =>
    simp only [switchBroken, List.mem_cons, List.not_mem_nil, or_false, not_or] at hi
    obtain ⟨hlive, htaken⟩ := hi
    cases i with
    | taken c =>
      cases c with
      | lid => exact absurd rfl htaken
      | _ => exact h
    | live k =>
      cases k with
      | lidOpen => exact absurd rfl hlive
      | _ => exact h
    | _ => exact h
  | strike =>
    simp only [switchBroken, List.mem_cons, List.not_mem_nil, or_false, not_or] at hi
    obtain ⟨hlive, htaken⟩ := hi
    cases i with
    | taken c =>
      cases c with
      | strike => exact absurd rfl htaken
      | _ => exact h
    | live k =>
      cases k with
      | strike => exact absurd rfl hlive
      | _ => exact h
    | _ => exact h

/-- R33: the raw level, the pending mark and the time are read by no invariant. -/
theorem switch_keepsAll {s : State} {sw : Switch} {d : Debounce} (h : d.debounced = (s.switch sw).debounced) :
    KeepsAll s (s.withSwitch sw d) := by
  intro i _ hs
  by_cases hi : i ∈ switchBroken sw
  · cases sw with
    | lid =>
      change d.debounced = s.lid.debounced at h
      simp only [switchBroken, List.mem_cons, List.not_mem_nil, or_false] at hi
      rcases hi with rfl | rfl
      · exact (show s.events.live.getLsbD _ = !s.lid.debounced from hs).trans (by rw [← h]; rfl)
      · intro hd
        refine hs ?_
        simp only [State.causeHolds, State.withSwitch, h] at hd
        exact hd
    | strike =>
      change d.debounced = s.strike.debounced at h
      simp only [switchBroken, List.mem_cons, List.not_mem_nil, or_false] at hi
      rcases hi with rfl | rfl
      · exact (show s.events.live.getLsbD _ = s.strike.debounced from hs).trans (by rw [← h]; rfl)
      · intro hd
        refine hs ?_
        simp only [State.causeHolds, State.withSwitch, h] at hd
        exact hd
  · exact switch_sustains s sw d i hi hs

theorem lidOpened_keepsAll (s : State) : KeepsAll s (lidOpened s) := by
  unfold lidOpened
  split
  · exact .refl [] s
  · intro i _ h
    cases i with
    | live k => cases k <;> exact h
    | _ => exact h

theorem levelReaders_keepsAll {sw : Switch} {f : State → State} (hf : f ∈ levelReaders sw) (v : State) : KeepsAll v (f v) := by
  cases sw with
  | lid =>
    rcases List.mem_pair.mp hf with rfl | rfl
    · exact judgeLive_keepsAll .lidOpen v
    · exact lidOpened_keepsAll v
  | strike =>
    rw [List.mem_singleton.mp hf]
    exact judgeLive_keepsAll .strike v

/-- R37, R38: the readers of a level, with the judging of its cause, bring about what the level broke. -/
theorem levelReaders_bring (sw : Switch) {i : Invariant} (hi : i ∈ switchBroken sw) (ch : Choice) {cs : List Cause}
    (hcs : switchCause sw ∈ cs) :
    (∃ f ∈ levelReaders sw, ∀ v, i.Stands (f v)) ∨ ∀ v, i.Stands (judgeCauses ch cs v) := by
  cases sw with
  | lid =>
    rcases List.mem_pair.mp hi with rfl | rfl
    · exact .inl ⟨judgeLive .lidOpen, by simp [levelReaders], judgeLive_stands .lidOpen⟩
    · exact .inr (judgeCauses_stands ch hcs)
  | strike =>
    rcases List.mem_pair.mp hi with rfl | rfl
    · exact .inl ⟨judgeLive .strike, by simp [levelReaders], judgeLive_stands .strike⟩
    · exact .inr (judgeCauses_stands ch hcs)

theorem switchChanges_keepsAll (ch : Choice) (sw : Switch) (s : State) : KeepsAll s (switchChanges ch sw s) := by
  refine (switch_sustains s sw _).inOrder (fun f hf v => ?_) fun i hi => ?_
  · rcases List.mem_append.mp hf with hf | hf
    · exact levelReaders_keepsAll hf v
    · rw [List.mem_singleton.mp hf]
      exact judgeCauses_keepsAll ch _ v
  · rcases levelReaders_bring sw hi ch (cs := [switchCause sw]) (by simp) with ⟨f, hf, hstands⟩ | hstands
    · exact ⟨f, List.mem_append_left _ hf, hstands⟩
    · exact ⟨_, List.mem_append_right _ (List.mem_singleton.mpr rfl), hstands⟩

@[simp] theorem switch_withSwitch (s : State) (sw : Switch) (d : Debounce) : (s.withSwitch sw d).switch sw = d := by
  cases sw <;> rfl

theorem toggleRaw_keepsAll (sw : Switch) (s : State) : KeepsAll s (toggleRaw sw s) := switch_keepsAll rfl

theorem rawChange_keepsAll (ch : Choice) (sw : Switch) (s : State) : KeepsAll s (rawChange ch sw s) := by
  refine (toggleRaw_keepsAll sw s).trans ?_
  unfold rawChange
  dsimp only
  split_ifs
  · exact switch_keepsAll rfl
  · exact switchChanges_keepsAll ch sw _
  · exact switch_keepsAll rfl

theorem debounceExpires_keepsAll (ch : Choice) (sw : Switch) (s : State) : KeepsAll s (debounceExpires ch sw s) := by
  unfold debounceExpires
  split
  · exact switchChanges_keepsAll ch sw s
  · exact .refl [] s

/-! ### The silence timers and the drive record -/

/-- R11, R48, R135, R139, R141: what reads the drive record. -/
def driveBroken : List Invariant :=
  [.live .driveSilent, .live .indexLoss, .bleed, .taken .lid, .taken .overspeed, .taken .drive]

theorem drive_sustains (s : State) (d : DriveRecord) {x : Silence} (h : x.controllerSilent = s.silence.controllerSilent) :
    Sustains driveBroken s { s with drive := d, silence := x } := by
  intro i hi hs
  simp only [driveBroken, List.mem_cons, List.not_mem_nil, or_false, not_or] at hi
  obtain ⟨hsilent, hloss, hbleed, hlid, hover, hdrive⟩ := hi
  cases i with
  | bleed => exact absurd rfl hbleed
  | taken c =>
    cases c with
    | lid => exact absurd rfl hlid
    | overspeed => exact absurd rfl hover
    | drive => exact absurd rfl hdrive
    | _ => exact hs
  | live k =>
    cases k with
    | driveSilent => exact absurd rfl hsilent
    | indexLoss => exact absurd rfl hloss
    | controllerSilent => exact (show s.events.live.getLsbD _ = s.silence.controllerSilent from hs).trans h.symm
    | _ => exact hs
  | _ => exact hs

theorem silence_sustains (s : State) {x : Silence} (h : x.driveSilent = s.silence.driveSilent) :
    Sustains [.live .controllerSilent] s { s with silence := x } := by
  have hspeed : ({ s with silence := x } : State).speed = s.speed := by
    simp only [State.speed, State.driveSpeed, h]
    rfl
  have hdrive : ({ s with silence := x } : State).driveSpeed = s.driveSpeed := by
    simp only [State.driveSpeed, h]
  intro i hi hs
  cases i with
  | bleed =>
    refine (bleedSound_iff _).mpr (((bleedSound_iff s).mp hs).trans ?_)
    simp only [State.speedBelow, hspeed]
  | taken c =>
    intro hd
    refine hs ?_
    cases c with
    | lid =>
      simp only [State.causeHolds, State.speedAtLeast, hspeed] at hd ⊢
      exact hd
    | overspeed =>
      simp only [State.causeHolds, hdrive] at hd ⊢
      exact hd
    | drive =>
      simp only [State.causeHolds, h] at hd ⊢
      exact hd
    | _ => exact hd
  | live k =>
    cases k with
    | controllerSilent => exact absurd (by simp) hi
    | driveSilent => exact (show s.events.live.getLsbD _ = s.silence.driveSilent from hs).trans h.symm
    | indexLoss =>
      refine (show s.events.live.getLsbD _ = s.indexLoss from hs).trans ?_
      show s.indexLoss = ({ s with silence := x } : State).indexLoss
      unfold State.indexLoss
      rw [hdrive]
      rfl
    | _ => exact hs
  | _ => exact hs

theorem recordReaders_keepsAll {ch : Choice} {f : State → State} (hf : f ∈ recordReaders ch) (v : State) : KeepsAll v (f v) := by
  simp only [recordReaders, List.mem_cons, List.not_mem_nil, or_false] at hf
  rcases hf with rfl | rfl | rfl | rfl | rfl
  · exact judgeLive_keepsAll .driveSilent v
  · exact judgeLive_keepsAll .indexLoss v
  · exact retainCheck_keepsAll ch v
  · exact judgeBleed_keepsAll v
  · exact judgeCauses_keepsAll ch _ v

/-- R11: the readers of the drive record bring about what its change broke. -/
theorem recordReaders_bring (ch : Choice) {i : Invariant} (hi : i ∈ driveBroken) :
    ∃ f ∈ recordReaders ch, ∀ v, i.Stands (f v) := by
  simp only [driveBroken, List.mem_cons, List.not_mem_nil, or_false] at hi
  have hcauses : ∀ c ∈ ([.lid, .overspeed, .drive] : List Cause), ∃ f ∈ recordReaders ch, ∀ v, (Invariant.taken c).Stands (f v) :=
    fun c hc => ⟨judgeCauses ch [.lid, .overspeed, .drive], by simp [recordReaders], judgeCauses_stands ch hc⟩
  rcases hi with rfl | rfl | rfl | rfl | rfl | rfl
  · exact ⟨judgeLive .driveSilent, by simp [recordReaders], judgeLive_stands .driveSilent⟩
  · exact ⟨judgeLive .indexLoss, by simp [recordReaders], judgeLive_stands .indexLoss⟩
  · exact ⟨judgeBleed, by simp [recordReaders], judgeBleed_stands⟩
  · exact hcauses .lid (by simp)
  · exact hcauses .overspeed (by simp)
  · exact hcauses .drive (by simp)

theorem rx_keepsAll (s : State) (c d : RxCheck) : KeepsAll s { s with rxC := c, rxD := d } := by
  intro i _ h
  cases i with
  | live k => cases k <;> exact h
  | _ => exact h

theorem driveSilences_keepsAll (ch : Choice) (s : State) : KeepsAll s (driveSilences ch s) := by
  unfold driveSilences
  split
  · have hstale := drive_sustains { s with rxD := { s.rxD with armed := false } } s.drive
      (x := { s.silence with driveSilent := true }) rfl
    exact Sustains.inOrder ((rx_keepsAll s s.rxC _).of_all.trans hstale)
      (fun f hf v => recordReaders_keepsAll hf v) fun i hi => recordReaders_bring ch hi
  · exact .refl [] s

theorem orphanStop_keepsAll {ch : Choice} {f : State → State} (hf : f ∈ orphanStop ch) (v : State) : KeepsAll v (f v) := by
  rcases List.mem_pair.mp hf with rfl | rfl
  · exact takeRequest_keepsAll ch 0 0 v
  · exact queueOrphan_keepsAll v

theorem controllerSilences_keepsAll (ch : Choice) (s : State) : KeepsAll s (controllerSilences ch s) := by
  unfold controllerSilences
  split
  · have hsilent := silence_sustains { s with rxC := { s.rxC with armed := false } }
      (x := { s.silence with controllerSilent := true, orphan := some s.now }) rfl
    refine Sustains.inOrder ((rx_keepsAll s _ s.rxD).of_all.trans hsilent) (fun f hf v => ?_) fun i hi => ?_
    · rcases List.mem_cons.mp hf with rfl | hf
      · exact judgeLive_keepsAll .controllerSilent v
      · exact orphanStop_keepsAll hf v
    · rw [List.mem_singleton.mp hi]
      exact ⟨judgeLive .controllerSilent, by simp, judgeLive_stands .controllerSilent⟩
  · exact .refl [] s

/-- R24: the time of the orphan stop is read by no invariant. -/
theorem orphan_keepsAll (s : State) (x : Option Time) : KeepsAll s { s with silence := { s.silence with orphan := x } } := by
  intro i _ h
  cases i with
  | live k => cases k <;> exact h
  | _ => exact h

theorem orphanRepeats_keepsAll (ch : Choice) (s : State) : KeepsAll s (orphanRepeats ch s) := by
  unfold orphanRepeats
  split
  · exact .refl [] s
  · exact KeepsAll.inOrder (orphan_keepsAll s _) fun _ hf v => orphanStop_keepsAll hf v

theorem intake_sustains (s : State) (x : Intake) : Sustains [.live .sensorLoss] s { s with intake := x } := by
  intro i hi h
  cases i with
  | live k =>
    cases k with
    | sensorLoss => exact absurd (by simp) hi
    | _ => exact h
  | _ => exact h

theorem sensorLost_keepsAll (ch : Choice) (s : State) : KeepsAll s (sensorLost ch s) := by
  unfold sensorLost
  split
  · refine (intake_sustains s _).inOrder (fun f hf v => ?_) fun i hi => ?_
    · rcases List.mem_pair.mp hf with rfl | rfl
      · exact judgeLive_keepsAll .sensorLoss v
      · exact estimatorInvalid_keepsAll ch v
    · rw [List.mem_singleton.mp hi]
      exact ⟨judgeLive .sensorLoss, by simp, judgeLive_stands .sensorLoss⟩
  · exact .refl [] s

/-! ### Frames taken -/

theorem checkSeqC_keepsAll (seq : Byte) (s : State) : KeepsAll s (checkSeqC seq s) := by
  have hrx := rx_keepsAll s { lastSeq := seq, armed := true } s.rxD
  unfold checkSeqC
  dsimp only
  split
  · exact hrx.trans (countSource_keepsAll .seqGap _)
  · exact hrx

theorem checkSeqD_keepsAll (seq : Byte) (s : State) : KeepsAll s (checkSeqD seq s) := by
  have hrx := rx_keepsAll s s.rxC { lastSeq := seq, armed := true }
  unfold checkSeqD
  dsimp only
  split
  · exact hrx.trans (countSource_keepsAll .seqGap _)
  · exact hrx

theorem heardC_keepsAll (s : State) : KeepsAll s (heardC s) :=
  (silence_sustains s
    (x := { s.silence with controllerSince := s.now, controllerSilent := false, orphan := none }) rfl).judged

theorem dropFromQueue_keepsAll (ch : Choice) (s : State) : KeepsAll s (dropFromQueue ch s) := by
  refine KeepsAll.inOrder (.refl [] s) fun f hf v => ?_
  rcases List.mem_pair.mp hf with rfl | rfl
  · exact latchKind_keepsAll .queueOverflow v
  · exact countSource_keepsAll .drops v

theorem offerForwardedC_keepsAll (ch : Choice) (f : QFrame) (s : State) : KeepsAll s (offerForwardedC ch f s) := by
  unfold offerForwardedC
  split_ifs
  · exact portC_keepsAll s _
  · exact portC_keepsAll s _
  · exact dropFromQueue_keepsAll ch s

theorem offerForwardedD_keepsAll (ch : Choice) (f : QFrame) (s : State) : KeepsAll s (offerForwardedD ch f s) := by
  unfold offerForwardedD
  split_ifs
  · exact (portD_keepsAll s _).trans (kickD_keepsAll _)
  · exact dropFromQueue_keepsAll ch s

theorem offerDemandD_keepsAll (ch : Choice) (f : QFrame) (s : State) : KeepsAll s (offerDemandD ch f s) := by
  unfold offerDemandD
  split_ifs
  · exact portD_keepsAll s _
  · exact (portD_keepsAll s _).trans (kickD_keepsAll _)
  · exact dropFromQueue_keepsAll ch s

theorem governFrame_keepsAll (ch : Choice) (payload : List Byte) (s : State) : KeepsAll s (governFrame ch payload s) := by
  have hstages : ∀ v, KeepsAll v (offerDemandD ch (receivedDemand payload)
      (takeRequest ch (demandMode payload) (receivedTarget payload) v)) := fun v =>
    (takeRequest_keepsAll ch _ _ v).trans (offerDemandD_keepsAll ch _ _)
  unfold governFrame startAfter
  split
  · exact hstages s
  · exact (((portD_keepsAll s _).trans (hstages _)).trans (portD_keepsAll _ _)).trans (kickD_keepsAll _)

theorem inspectFrame_keepsAll (ch : Choice) (payload : List Byte) (s : State) : KeepsAll s (inspectFrame ch payload s) := by
  have hrecorded : Sustains driveBroken s (recordStatus payload s) :=
    drive_sustains s _ (x := { s.silence with driveSince := s.now, driveSilent := false }) rfl
  refine hrecorded.inOrder (fun f hf v => ?_) fun i hi => ?_
  · rcases List.mem_append.mp hf with hf | hf
    · exact recordReaders_keepsAll hf v
    · rcases List.mem_pair.mp hf with rfl | rfl
      · exact examineStatus_keepsAll v
      · exact (judgeLive_keepsAll .driveSilent v).trans (offerForwardedC_keepsAll ch _ _)
  · obtain ⟨f, hf, hstands⟩ := recordReaders_bring ch hi
    exact ⟨f, List.mem_append_left _ hf, hstands⟩

theorem requests_keepsAll (s : State) (q : List Request) : KeepsAll s { s with requests := q } := by
  intro i _ h
  cases i with
  | live k => cases k <;> exact h
  | _ => exact h

theorem dispose_keepsAll (ch : Choice) (port : Port) (cls : Class) (payload : List Byte) (s : State) :
    KeepsAll s (dispose ch port cls payload s) := by
  unfold dispose
  split
  · cases port with
    | c => exact offerForwardedD_keepsAll ch _ s
    | d => exact offerForwardedC_keepsAll ch _ s
  · exact .refl [] s
  · exact governFrame_keepsAll ch payload s
  · exact inspectFrame_keepsAll ch payload s
  · unfold consumeFrame
    split
    · exact requests_keepsAll s _
    · exact countSource_keepsAll .drops s

theorem portTaken_keepsAll (ch : Choice) (port : Port) (cls : Class) (seq : Byte) (payload : List Byte) (s : State) :
    KeepsAll s (portTaken ch port cls seq payload s) := by
  cases port with
  | c =>
    refine Sustains.trans (KeepsAll.inOrder (.refl [] s) fun f hf v => ?_) (dispose_keepsAll ch .c cls payload _)
    rcases List.mem_pair.mp hf with rfl | rfl
    · exact checkSeqC_keepsAll seq v
    · exact heardC_keepsAll v
  | d => exact (checkSeqD_keepsAll seq s).trans (dispose_keepsAll ch .d cls payload _)

theorem sampleFrame_keepsAll (payload : List Byte) (s : State) : KeepsAll s (sampleFrame payload s) := by
  have hheard : KeepsAll s (heardS s) := (intake_sustains s _).judged
  have hintake : ∀ (v : State) (x : Intake), x.loss = v.intake.loss → KeepsAll v { v with intake := x } := by
    intro v x hx i _ h
    by_cases hi : i = .live .sensorLoss
    · subst hi
      exact (show v.events.live.getLsbD _ = v.intake.loss from h).trans hx.symm
    · exact intake_sustains v x i (by simpa using hi) h
  have hcheck : ∀ v, KeepsAll v (checkCount (field8 payload 0) v) := by
    intro v
    have htaken := hintake v { v.intake with lastCount := field8 payload 0, armed := true } rfl
    unfold checkCount
    dsimp only
    split
    · exact htaken.trans (countSource_keepsAll .seqGap _)
    · exact htaken
  have huse : ∀ v, KeepsAll v (useSample v) := by
    intro v
    unfold useSample
    split
    · refine est_keepsAll_of_same ?_ ?_ <;> · unfold Estimator.accumulate; (repeat' split) <;> rfl
    all_goals exact .refl [] v
  have hrecord : ∀ v, KeepsAll v (recordSample payload v) := fun v =>
    hintake v { v.intake with last := sampleRecord v.now v.spin.sensorLatency payload } rfl
  exact ((hheard.trans (hcheck _)).trans (hrecord _)).trans (huse _)

theorem framer_keepsAll (s : State) (link : Link) (f : Framer) : KeepsAll s (s.withFramer link f) := by
  intro i _ h
  cases link <;> cases i with
  | live k => cases k <;> exact h
  | _ => exact h

theorem frameTaken_keepsAll (ch : Choice) (link : Link) (cls : Class) (seq : Byte) (payload : List Byte) (s : State) :
    KeepsAll s (frameTaken ch link cls seq payload s) := by
  cases link with
  | portC => exact portTaken_keepsAll ch .c cls seq payload s
  | portD => exact portTaken_keepsAll ch .d cls seq payload s
  | portS => exact sampleFrame_keepsAll payload s

theorem wholeFrame_keepsAll (ch : Choice) (link : Link) (cls : Class) (seq : Byte) (payload : List Byte) (s : State) :
    KeepsAll s (wholeFrame ch link cls seq payload s) := by
  unfold wholeFrame
  split
  · exact (framer_keepsAll s link _).trans (frameTaken_keepsAll ch link cls seq payload _)
  · exact .refl [] s

theorem actOn_keepsAll (ch : Choice) (link : Link) (r : Report) (s : State) : KeepsAll s (actOn ch link r s) := by
  cases r with
  | error => exact countSource_keepsAll _ s
  | taken cls seq payload => exact frameTaken_keepsAll ch link cls seq payload s

theorem lineByte_keepsAll (ch : Choice) (link : Link) (b : LineByte) (s : State) : KeepsAll s (lineByte ch link b s) := by
  have hreports : ∀ (l : List Report) (v : State), KeepsAll v (l.foldl (fun s x => actOn ch link x s) v) := by
    intro l
    induction l with
    | nil => exact fun v => .refl [] v
    | cons r l ih => exact fun v => (actOn_keepsAll ch link r v).trans (ih _)
  exact (framer_keepsAll s link _).trans (hreports _ _)

theorem framerTimeout_keepsAll (link : Link) (s : State) : KeepsAll s (framerTimeout link s) := by
  unfold framerTimeout
  split
  · exact (framer_keepsAll s link _).trans (countSource_keepsAll _ _)
  · exact .refl [] s

theorem endSend_keepsAll (port : Port) (s : State) : KeepsAll s (endSend port s) := by
  cases port with
  | c =>
    show KeepsAll s (endSendC s)
    unfold endSendC
    split
    · exact .refl [] s
    · split
      · exact portC_keepsAll s _
      · exact .refl [] s
  | d =>
    show KeepsAll s (endSendD s)
    unfold endSendD
    split
    · exact .refl [] s
    · split
      · exact (portD_keepsAll s _).trans (kickD_keepsAll _)
      · exact .refl [] s

/-! ### The ring and the monitor counter -/

/-- R122, R127: the contents and the grams credited are read by RING_FULL alone. -/
theorem credited_sustains (s : State) (contents : Vector Nat 4) (credited tail : Nat) (lastPulse : Time) :
    Sustains [.live .ringFull] s
      { s with ring :=
        { s.ring with
          contents := contents
          ctx := { s.ring.ctx with credited := credited, tailCredited := tail, lastPulse := lastPulse } } } := by
  intro i hi h
  cases i with
  | live k =>
    cases k with
    | ringFull => exact absurd (by simp) hi
    | _ => exact h
  | _ => exact h

theorem creditActive_keepsAll (s : State) : KeepsAll s (creditActive s) :=
  (credited_sustains s _ _ s.ring.ctx.tailCredited _).judged

theorem creditTail_keepsAll (s : State) : KeepsAll s (creditTail s) :=
  (credited_sustains s _ s.ring.ctx.credited _ s.ring.ctx.lastPulse).judged

theorem creditActive_ctx (s : State) : (creditActive s).ring.ctx.state = s.ring.ctx.state := by
  simp [creditActive]

/-- R133, R134: the stray run and the availability are read by no invariant. -/
theorem stray_keepsAll (s : State) (available : Bool) (n : Nat) (time : Time) :
    KeepsAll s { s with ring := { s.ring with available := available, strayCount := n, strayTime := time } } := by
  intro i _ h
  cases i with
  | live k => cases k <;> exact h
  | _ => exact h

theorem strayPulse_keepsAll (s : State) : KeepsAll s (strayPulse s) := by
  unfold strayPulse
  split
  · exact (stray_keepsAll s false 0 s.now).trans (latchKind_keepsAll .injectionFault _)
  · exact stray_keepsAll s s.ring.available _ s.now

theorem judgePulseEnd_keepsAll (ch : Choice) {s : State} (h : s.ring.ctx.state = .active) : KeepsAll s (judgePulseEnd ch s) := by
  unfold judgePulseEnd
  split_ifs
  · exact endInjection_keepsAll ch false (by decide) h
  · exact endInjection_keepsAll ch false (by decide) h
  · exact .refl [] s

theorem flowPulse_keepsAll (ch : Choice) (s : State) : KeepsAll s (flowPulse ch s) := by
  unfold flowPulse
  split
  · next h => exact (creditActive_keepsAll s).trans (judgePulseEnd_keepsAll ch ((creditActive_ctx s).trans h))
  · exact creditTail_keepsAll s
  all_goals exact strayPulse_keepsAll s

theorem flowTimesOut_keepsAll (ch : Choice) (s : State) : KeepsAll s (flowTimesOut ch s) := by
  unfold flowTimesOut
  split
  · next h =>
    have hactive : s.ring.ctx.state = .active := by
      rw [State.flowDue, Bool.and_eq_true, beq_iff_eq] at h
      exact h.1
    refine ((stray_keepsAll s false s.ring.strayCount s.ring.strayTime).trans
      (KeepsAll.onlyIf (latchKind_keepsAll .injectionFault) _)).trans (endInjection_keepsAll ch _ (by decide) ?_)
    unfold onlyIf
    split <;> exact hactive
  · exact .refl [] s

/-- R132: a tail that closes. -/
theorem tailClosed_keepsAll {s : State} (h : s.ring.ctx.state = .tail) :
    KeepsAll s { s with ring := { s.ring with ctx := { s.ring.ctx with state := .closed } } } := by
  have hctx : s.ring.ctx.state ≠ .active := by rw [h]; decide
  intro i _ hs
  cases i with
  | injection => exact ⟨⟨nofun, fun hcorrect => absurd (hs.1.mpr hcorrect) hctx⟩, fun _ => hs.2 hctx⟩
  | valve =>
    exact valve_of_rest (s := { s with ring := { s.ring with ctx := { s.ring.ctx with state := .closed } } }) nofun
      ((show s.ring.valve = s.valveOpen from hs).trans (valveOpen_of_not_active hctx))
  | live k => cases k <;> exact hs
  | _ => exact hs

theorem tailExpires_keepsAll (s : State) : KeepsAll s (tailExpires s) := by
  unfold tailExpires
  split
  · next h => exact tailClosed_keepsAll ((tailDue_iff s).mp h).1
  · exact .refl [] s

theorem bleeds_keepsAll (s : State) : KeepsAll s (bleeds s) := by
  unfold bleeds
  split
  · next h =>
    obtain ⟨since, hsince, -⟩ := (bleedDue_iff s).mp h
    refine Sustains.judged (k := .ringFull) fun i hi hs => ?_
    cases i with
    | bleed =>
      refine (bleedSound_iff _).mpr ?_
      have hsome := (bleedSound_iff s).mp hs
      rw [hsince] at hsome
      exact hsome
    | live k =>
      cases k with
      | ringFull => exact absurd (by simp) hi
      | _ => exact hs
    | _ => exact hs
  · exact .refl [] s

theorem monitorExpires_keepsAll (s : State) : KeepsAll s (monitorExpires s) := by
  unfold monitorExpires
  split
  · exact (monitor_sustains s _).judged
  · exact .refl [] s

end Sys2Proof.Machine
end

section
/-! SUPPORT. The management agent and the resets leave the invariants standing. -/

namespace Sys2Proof.Machine

open Sys2Proof.Safety

/-! ### What a WRITE stores -/

/-- R50, R83, R86, R122, R126, R135, R139, R141: the spin settings are read by these invariants alone, each by its own
settings. -/
theorem spin_sustains {s : State} {p : SpinSettings} {B : List Invariant} (hvalve : .valve ∈ B)
    (hceiling : (p.blindCeiling = s.spin.blindCeiling ∧ p.agitateLimit = s.spin.agitateLimit) ∨
      (.composed ∈ B ∧ .taken .overspeed ∈ B))
    (hretain : p.retainSpeed = s.spin.retainSpeed ∨ (.bleed ∈ B ∧ .taken .lid ∈ B))
    (hcap : p.chamberCap = s.spin.chamberCap ∨ .live .ringFull ∈ B) : Sustains B s { s with spin := p } := by
  intro i hi h
  cases i with
  | valve => exact absurd hvalve hi
  | composed =>
    obtain ⟨hblind, hagitate⟩ := hceiling.resolve_right fun hB => hi hB.1
    obtain ⟨hspin, hagit⟩ := h
    refine ⟨hspin.trans ?_, hagit.trans ?_⟩
    · simp only [State.spinCeiling, State.spinTerms, hblind]
      rfl
    · simp only [State.agitateCeiling, hagitate]
  | bleed =>
    have hretain' := hretain.resolve_right fun hB => hi hB.1
    refine (bleedSound_iff _).mpr (((bleedSound_iff s).mp h).trans ?_)
    show s.speedBelow s.spin.retainSpeed = s.speedBelow p.retainSpeed
    rw [hretain']
  | taken c =>
    intro hd
    refine h ?_
    cases c with
    | lid =>
      have hretain' := hretain.resolve_right fun hB => hi hB.2
      simp only [State.causeHolds, hretain'] at hd ⊢
      exact hd
    | overspeed =>
      obtain ⟨hblind, hagitate⟩ := hceiling.resolve_right fun hB => hi hB.2
      simp only [State.causeHolds, State.overspeedBound, hblind, hagitate] at hd ⊢
      exact hd
    | _ => exact hd
  | live k =>
    cases k with
    | ringFull =>
      have hcap' := hcap.resolve_right hi
      refine (show s.events.live.getLsbD _ = s.ringFull from h).trans ?_
      show _ = ({ s with spin := p } : State).ringFull
      simp only [State.ringFull, hcap']
    | _ => exact h
  | _ => exact h

theorem contents_sustains (s : State) (contents : Vector Nat 4) :
    Sustains [.live .ringFull] s { s with ring := { s.ring with contents := contents } } :=
  credited_sustains s contents s.ring.ctx.credited s.ring.ctx.tailCredited s.ring.ctx.lastPulse

/-- R94: the tables are written in IDLE, where no plateau is a term and none is stood on. -/
theorem tables_keepsAll {s : State} (hidle : s.session.state = .idle) (x : Tables) : KeepsAll s { s with tables := x } := by
  intro i _ h
  cases i with
  | composed =>
    obtain ⟨hspin, hagitate⟩ := h
    refine ⟨hspin.trans ?_, hagitate⟩
    simp only [State.spinCeiling, State.spinTerms, State.sessionTerm, hidle]
  | plateau =>
    refine (sessionSound_iff _).mpr ?_
    show (s.session.state.onPlateau = true → _) ∧ (s.session.state = .limited ∨ s.session.state = .holdDown → _)
    rw [hidle]
    exact ⟨nofun, by simp⟩
  | live k => cases k <;> exact h
  | _ => exact h

/-- R83, R86, R140, R141: the limits. -/
theorem limits_sustains (s : State) (x : Limits) :
    Sustains [.composed, .taken .overspeed, .taken .mass] s { s with limits := x } := by
  intro i hi h
  simp only [List.mem_cons, List.not_mem_nil, or_false, not_or] at hi
  obtain ⟨hcomp, hover, hmass⟩ := hi
  cases i with
  | composed => exact absurd rfl hcomp
  | taken c =>
    cases c with
    | overspeed => exact absurd rfl hover
    | mass => exact absurd rfl hmass
    | _ => exact h
  | live k => cases k <;> exact h
  | _ => exact h

/-- R164: the invariants that read an element of an object, VALVE apart, which every spin setting of the ring is read by. -/
def elementReaders (obj : Byte) : List (Nat × Invariant) :=
  if obj = 0x20 then
    [(0, .composed), (1, .composed), (0, .taken .overspeed), (1, .taken .overspeed), (2, .bleed), (2, .taken .lid),
      (11, .live .ringFull)]
  else if obj = 0x21 then [(3, .live .counterSaturated)]
  else if obj = 0x30 then [(0, .composed), (0, .taken .overspeed), (1, .taken .mass)]
  else []

/-- The invariants that read one of the elements addressed. -/
def readBy (obj : Byte) (p : Nat → Bool) : List Invariant := ((elementReaders obj).filter fun e => p e.1).map fun e => e.2

theorem mem_readBy {obj : Byte} {p : Nat → Bool} {i : Invariant} :
    i ∈ readBy obj p ↔ ∃ e, (e, i) ∈ elementReaders obj ∧ p e = true := by
  simp [readBy]

theorem readBy_mono {obj : Byte} {p q : Nat → Bool} (h : ∀ k, p k = true → q k = true) : readBy obj p ⊆ readBy obj q :=
  fun _ hi => let ⟨e, he, hp⟩ := mem_readBy.mp hi; mem_readBy.mpr ⟨e, he, h e hp⟩

theorem storeService_sustains (i v : Nat) (s : State) : Sustains (readBy 0x21 (· == i)) s (storeService i v s) := by
  have hservice : ∀ (x : ServiceSettings) (e : Events), e.live = s.events.live →
      KeepsAll s { s with service := x, events := e } := by
    intro x e he j _ h
    cases j with
    | live k =>
      have hcond : ({ s with service := x, events := e } : State).condition k = s.condition k := by cases k <;> rfl
      show e.live.getLsbD k.number.val = _
      rw [he, hcond]
      exact h
    | _ => exact h
  match i with
  | 0 => exact .of_all (hservice _ _ rfl)
  | 1 => exact .of_all (hservice _ s.events rfl)
  | 2 => exact .of_all (hservice _ s.events rfl)
  | 3 => exact monitor_sustains s _
  | 4 =>
    intro j _ h
    cases j with
    | live k =>
      cases k with
      | counterSaturated =>
        have hcount : (s.monitor.setMode s.now (v != 0)).count = s.monitor.count := by
          unfold Monitor.setMode
          split_ifs <;> rfl
        refine (show s.events.live.getLsbD _ = s.condition .counterSaturated from h).trans ?_
        show _ = ({ s with monitor := s.monitor.setMode s.now (v != 0) } : State).condition .counterSaturated
        simp only [State.condition, hcount]
      | _ => exact h
    | _ => exact h
  | _ + 5 => exact .refl _ s

theorem storeLimit_sustains (i v : Nat) (s : State) : Sustains (readBy 0x30 (· == i)) s (storeLimit i v s) := by
  match i with
  | 0 =>
    intro j hj h
    by_cases hm : j = .taken .mass
    · subst hm; exact h
    · exact limits_sustains s _ j (by
        have hj' : j ≠ .composed ∧ j ≠ .taken .overspeed := by simpa [readBy, elementReaders] using hj
        simp [hj', hm]) h
  | 1 =>
    intro j hj h
    cases j with
    | taken c =>
      cases c with
      | mass => exact absurd (by simp [readBy, elementReaders]) hj
      | _ => exact h
    | live k => cases k <;> exact h
    | _ => exact h
  | _ + 2 => exact .refl _ s

/-- R94, R164: one element stored, those of the tables in IDLE; the ring contents are read by RING_FULL. -/
theorem storeElement_sustains {obj : Byte} (hspin : obj ≠ 0x20) (hring : obj ≠ 0x51) (i : Nat) (w : Word) {s : State}
    (hidle : idleOnly obj = true → s.session.state = .idle) :
    Sustains (readBy obj (· == i)) s (storeElement obj i w s) := by
  generalize hu : storeElement obj i w s = u
  have hstep : StoreStep obj i w s u := hu ▸ storeElement_step obj i w s
  cases hstep with
  | classTable h => exact .of_all fun j _ hj => by cases j <;> exact hj
  | envelope h => exact .of_all (tables_keepsAll (hidle (by rw [h]; rfl)) _)
  | rampLimit h => exact .of_all (tables_keepsAll (hidle (by rw [h]; rfl)) _)
  | gain h => exact .of_all (tables_keepsAll (hidle (by rw [h]; rfl)) _)
  | phase h => exact .of_all (tables_keepsAll (hidle (by rw [h]; rfl)) _)
  | plateau h => exact .of_all (tables_keepsAll (hidle (by rw [h]; rfl)) _)
  | weighThresh h => exact .of_all (tables_keepsAll (hidle (by rw [h]; rfl)) _)
  | spin h => exact absurd h hspin
  | service h => rw [h]; exact storeService_sustains i _ s
  | limit h => rw [h]; exact storeLimit_sustains i _ s
  | contents h => exact absurd h hring
  | nothing => exact .refl _ s

theorem storeElements_sustains {obj : Byte} (hspin : obj ≠ 0x20) (hring : obj ≠ 0x51) (i : Nat) (ws : List Word)
    {s : State} (hidle : idleOnly obj = true → s.session.state = .idle) :
    Sustains (readBy obj (touches i ws.length)) s (storeElements obj i ws s) := by
  induction ws generalizing i s with
  | nil => exact .refl _ s
  | cons w ws ih =>
    have hfirst := (storeElement_sustains hspin hring i w hidle).mono
      (readBy_mono (q := touches i (w :: ws).length) fun k hk => by simp [touches, (beq_iff_eq.mp hk)])
    have hsame := (storeElement_step obj i w s).same.session
    refine hfirst.trans ((ih (i + 1) (s := storeElement obj i w s) fun h => (congrArg (·.state) hsame).trans (hidle h)).mono (readBy_mono fun k hk => ?_))
    simp only [touches, List.length_cons, Bool.and_eq_true, decide_eq_true_eq] at hk ⊢
    omega

theorem storeElements_contents_sustains (i : Nat) (ws : List Word) (s : State) :
    Sustains [.live .ringFull] s (storeElements 0x51 i ws s) := by
  induction ws generalizing i s with
  | nil => exact .refl _ s
  | cons w ws ih => exact (contents_sustains s _).trans (ih (i + 1) _)

/-- R74, R121, R164: what a write of object 0x20 stores is read by VALVE and by the readers of its elements. -/
theorem storeWrite_spin_sustains (idx : Nat) (ws : List Word) (s : State) :
    Sustains (.valve :: readBy 0x20 (touches idx ws.length)) s (storeWrite 0x20 idx ws s) := by
  have hstands : ∀ j < 21, touches idx ws.length j = false →
      (storeElements 0x20 idx ws s).spin.list.getD j 0 = s.spin.list.getD j 0 := fun j hj ht => by
    rw [storeElements_spin_getD idx ws s hj, ht]; rfl
  have hmem : ∀ e i, (e, i) ∈ elementReaders 0x20 → touches idx ws.length e = true →
      i ∈ (.valve :: readBy 0x20 (touches idx ws.length) : List Invariant) :=
    fun e i he ht => List.mem_cons_of_mem _ (mem_readBy.mpr ⟨e, he, ht⟩)
  have hstored : Sustains (.valve :: readBy 0x20 (touches idx ws.length)) s (storeElements 0x20 idx ws s) := by
    rw [storeElements_spin_frame]
    refine spin_sustains List.mem_cons_self ?_ ?_ ?_
    · cases h0 : touches idx ws.length 0 with
      | true => exact .inr ⟨hmem 0 _ (by simp [elementReaders]) h0, hmem 0 _ (by simp [elementReaders]) h0⟩
      | false =>
        cases h1 : touches idx ws.length 1 with
        | true => exact .inr ⟨hmem 1 _ (by simp [elementReaders]) h1, hmem 1 _ (by simp [elementReaders]) h1⟩
        | false => exact .inl ⟨hstands 0 (by decide) h0, hstands 1 (by decide) h1⟩
    · cases h2 : touches idx ws.length 2 with
      | true => exact .inr ⟨hmem 2 _ (by simp [elementReaders]) h2, hmem 2 _ (by simp [elementReaders]) h2⟩
      | false => exact .inl (hstands 2 (by decide) h2)
    · cases h11 : touches idx ws.length 11 with
      | true => exact .inr (hmem 11 _ (by simp [elementReaders]) h11)
      | false => exact .inl (hstands 11 (by decide) h11)
  have hweigh : Sustains (.valve :: readBy 0x20 (touches idx ws.length)) (storeElements 0x20 idx ws s)
      (weighFix 0x20 idx ws.length (storeElements 0x20 idx ws s)) := by
    unfold weighFix
    split_ifs
    · refine spin_sustains List.mem_cons_self (.inl ?_) (.inl ?_) (.inl ?_)
      · unfold SpinSettings.weighClamp; split_ifs <;> exact ⟨rfl, rfl⟩
      · unfold SpinSettings.weighClamp; split_ifs <;> rfl
      · unfold SpinSettings.weighClamp; split_ifs <;> rfl
    · exact .refl _ _
  refine (hstored.trans hweigh).trans ?_
  unfold storeWrite capFix
  split_ifs with h
  · exact (contents_sustains _ _).mono (List.cons_subset.mpr ⟨hmem 11 _ (by simp [elementReaders]) h.2, List.nil_subset _⟩)
  · exact .refl _ _

end Sys2Proof.Machine
end

section
/-! SUPPORT. The management agent's operations leave the invariants standing. -/

namespace Sys2Proof.Machine

open Sys2Proof.Safety

/-! ### What an accepted write brings about -/

/-- Effects in whatever order that leave the invariants standing, and bring about those that did not stand, but for some. -/
theorem Sustains.inOrder_but {B C : List Invariant} {s t : State} {code : List Nat} {fs : List (State → State)}
    (h : Sustains (C ++ B) s t) (hkeeps : ∀ f ∈ fs, ∀ v, KeepsAll v (f v))
    (hbrings : ∀ i ∈ B, ∃ f ∈ fs, ∀ v, i.Stands (f v)) : Sustains C s (Machine.inOrder code fs t) := by
  intro i hi hs
  by_cases hB : i ∈ B
  · exact inOrder_brings i.Stands (fun f hf v => hkeeps f hf v i List.not_mem_nil) (hbrings i hB)
  · have hstands : i.Stands t := h i (by rw [List.mem_append, not_or]; exact ⟨hi, hB⟩) hs
    exact inOrder_keeps i.Stands hstands fun f hf v => hkeeps f hf v i List.not_mem_nil

theorem onlyIf_stands {i : Invariant} {b : Bool} {f : State → State} (hb : b = true) (h : ∀ v, i.Stands (f v)) (v : State) :
    i.Stands (onlyIf b f v) := by
  rw [hb]; exact h v

/-- R132: a tail that closes is read by no invariant. -/
theorem judgeTail_keepsAll (s : State) : KeepsAll s (judgeTail s) := by
  unfold judgeTail
  split_ifs with h
  · exact tailClosed_keepsAll h.1
  · exact .refl [] s

/-- R118, R139, R141: the causes that a write of spin settings judges. -/
def spinCauses (idx n : Nat) : List Cause :=
  (if touches idx n 2 then [.lid] else []) ++ (if touches idx n 0 || touches idx n 1 then [.overspeed] else [])

/-- R82, R118, R122, R132, R135, R139, R141: what follows a write of spin settings. -/
def spinEffects (ch : Choice) (idx n : Nat) : List (State → State) :=
  [onlyIf (touches idx n 0 || touches idx n 1) recompose, onlyIf (touches idx n 2) judgeBleed,
    onlyIf (touches idx n 11) (judgeLive .ringFull), onlyIf (touches idx n 14) judgeTail, judgeCauses ch (spinCauses idx n)]

theorem spinWritten_eq (ch : Choice) (idx n : Nat) (s : State) :
    spinWritten ch idx n s = inOrder ch.effects (spinEffects ch idx n) s := rfl

/-- What each effect of a write of spin settings keeps, wherever it is made, stands at the end. -/
theorem spinEffects_keep {P : State → Prop} {ch : Choice} {idx n : Nat}
    (hcompose : ∀ v, P v → P (recompose v)) (hbleed : touches idx n 2 = true → ∀ v, P v → P (judgeBleed v))
    (hlive : ∀ v, P v → P (judgeLive .ringFull v)) (htail : touches idx n 14 = true → ∀ v, P v → P (judgeTail v))
    (hcause : ∀ c v, P v → P (judgeCause ch c v)) {f : State → State} (hf : f ∈ spinEffects ch idx n) {v : State} (hv : P v) :
    P (f v) := by
  have honly : ∀ {b : Bool} {g : State → State}, (b = true → ∀ u, P u → P (g u)) → P (onlyIf b g v) := by
    intro b g hg
    cases b with
    | true => exact hg rfl v hv
    | false => exact hv
  simp only [spinEffects, List.mem_cons, List.not_mem_nil, or_false] at hf
  rcases hf with rfl | rfl | rfl | rfl | rfl
  · exact honly fun _ => hcompose
  · exact honly hbleed
  · exact honly fun _ => hlive
  · exact honly htail
  · exact judgeCauses_keeps hcause _ hv

theorem spinEffects_keepsAll {ch : Choice} {idx n : Nat} {f : State → State} (hf : f ∈ spinEffects ch idx n) (v : State) :
    KeepsAll v (f v) := by
  intro i hi h
  exact spinEffects_keep (P := i.Stands) (fun u hu => recompose_keepsAll u i hi hu)
    (fun _ u hu => judgeBleed_keepsAll u i hi hu) (fun u hu => judgeLive_keepsAll .ringFull u i hi hu)
    (fun _ u hu => judgeTail_keepsAll u i hi hu) (fun c u hu => judgeCause_keepsAll ch c u i hi hu) hf h

/-- R82, R118, R122, R135, R139, R141: what the elements written are read by, the effects bring about. -/
theorem spinEffects_bring (ch : Choice) {idx n : Nat} {i : Invariant} (hi : i ∈ readBy 0x20 (touches idx n)) :
    ∃ f ∈ spinEffects ch idx n, ∀ v, i.Stands (f v) := by
  obtain ⟨e, he, ht⟩ := mem_readBy.mp hi
  have hcompose : (touches idx n 0 || touches idx n 1) = true →
      ∃ f ∈ spinEffects ch idx n, ∀ v, Invariant.composed.Stands (f v) :=
    fun hb => ⟨_, List.mem_cons_self, onlyIf_stands hb recompose_stands⟩
  have hspeed : (touches idx n 0 || touches idx n 1) = true → Cause.overspeed ∈ spinCauses idx n := fun hb => by
    rw [spinCauses, if_pos hb]; simp
  have hcauses : ∀ c ∈ spinCauses idx n, ∃ f ∈ spinEffects ch idx n, ∀ v, (Invariant.taken c).Stands (f v) :=
    fun c hc => ⟨judgeCauses ch (spinCauses idx n), by simp [spinEffects], judgeCauses_stands ch hc⟩
  simp only [elementReaders, if_true, List.mem_cons, Prod.mk.injEq, List.not_mem_nil, or_false] at he
  rcases he with ⟨rfl, rfl⟩ | ⟨rfl, rfl⟩ | ⟨rfl, rfl⟩ | ⟨rfl, rfl⟩ | ⟨rfl, rfl⟩ | ⟨rfl, rfl⟩ | ⟨rfl, rfl⟩
  · exact hcompose (by rw [ht]; rfl)
  · exact hcompose (by rw [ht, Bool.or_true])
  · exact hcauses _ (hspeed (by rw [ht]; rfl))
  · exact hcauses _ (hspeed (by rw [ht, Bool.or_true]))
  · exact ⟨onlyIf (touches idx n 2) judgeBleed, by simp [spinEffects], onlyIf_stands ht judgeBleed_stands⟩
  · exact hcauses _ (by rw [spinCauses, ht]; simp)
  · exact ⟨onlyIf (touches idx n 11) (judgeLive .ringFull), by simp [spinEffects],
      onlyIf_stands ht (judgeLive_stands .ringFull)⟩

/-- The effects of a write of object 0x20 restore every invariant but VALVE, which waits for the next moment. -/
theorem spinWritten_restores (ch : Choice) {idx n : Nat} {s t : State}
    (h : Sustains (.valve :: readBy 0x20 (touches idx n)) s t) : Sustains [.valve] s (spinWritten ch idx n t) :=
  Sustains.inOrder_but (C := [.valve]) h (fun _ hf v => spinEffects_keepsAll hf v) fun _ hi => spinEffects_bring ch hi

/-- R36: a change completed at a write breaks what reads the level. -/
theorem takeLevel_sustains (b : Bool) (sw : Switch) (s : State) :
    Sustains (if b then switchBroken sw else []) s (onlyIf b (takeLevel sw) s) := by
  cases b with
  | true => exact switch_sustains s sw _
  | false => exact .refl [] s

theorem serviceReaders_keepsAll {ch : Choice} {lid strike source : Bool} {f : State → State}
    (hf : f ∈ serviceReaders ch lid strike source) (v : State) : KeepsAll v (f v) := by
  unfold serviceReaders at hf
  rcases List.mem_append.mp hf with hf | hf
  · rcases List.mem_append.mp hf with hf | hf
    · split at hf
      · exact levelReaders_keepsAll hf v
      · cases hf
    · split at hf
      · exact levelReaders_keepsAll hf v
      · cases hf
  · rcases List.mem_pair.mp hf with rfl | rfl
    · exact KeepsAll.onlyIf (judgeLive_keepsAll .counterSaturated) v
    · exact judgeCauses_keepsAll ch _ v

/-- R36, R158: the readers of a write of object 0x21 bring about what the write and its completed changes break. -/
theorem serviceWritten_restores (ch : Choice) {idx n : Nat} {s t : State}
    (h : Sustains (readBy 0x21 (touches idx n)) s t) : KeepsAll s (serviceWritten ch idx n t) := by
  unfold serviceWritten
  generalize hlid : (touches idx n 1 && t.debounceDue .lid) = lid
  generalize hstrike : (touches idx n 2 && t.debounceDue .strike) = strike
  have hlevels : Sustains (readBy 0x21 (touches idx n) ++
      ((if lid then switchBroken .lid else []) ++ (if strike then switchBroken .strike else []))) s
      (onlyIf strike (takeLevel .strike) (onlyIf lid (takeLevel .lid) t)) := by
    refine (h.mono (List.subset_append_left _ _)).trans
      (Sustains.trans (t := onlyIf lid (takeLevel .lid) t) ?_ ?_)
    · exact (takeLevel_sustains lid .lid t).mono fun i hi => List.mem_append_right _ (List.mem_append_left _ hi)
    · exact (takeLevel_sustains strike .strike _).mono fun i hi => List.mem_append_right _ (List.mem_append_right _ hi)
  refine hlevels.inOrder (fun f hf v => serviceReaders_keepsAll hf v) fun i hi => ?_
  rcases List.mem_append.mp hi with hi | hi
  · obtain ⟨e, he, ht⟩ := mem_readBy.mp hi
    obtain ⟨rfl, rfl⟩ : e = 3 ∧ i = .live .counterSaturated := by simpa [elementReaders] using he
    exact ⟨onlyIf (touches idx n 3) (judgeLive .counterSaturated), by simp [serviceReaders],
      onlyIf_stands ht (judgeLive_stands .counterSaturated)⟩
  · rcases List.mem_append.mp hi with hi | hi
    · cases lid with
      | false => cases hi
      | true =>
        rcases levelReaders_bring .lid hi ch
          (cs := (if true then [.lid] else []) ++ (if strike then [.strike] else [])) (by simp [switchCause]) with
          ⟨f, hf, hstands⟩ | hstands
        · exact ⟨f, List.mem_append_left _ (List.mem_append_left _ hf), hstands⟩
        · exact ⟨_, List.mem_append_right _ (List.mem_cons_of_mem _ List.mem_cons_self), hstands⟩
    · cases strike with
      | false => cases hi
      | true =>
        rcases levelReaders_bring .strike hi ch
          (cs := (if lid then [.lid] else []) ++ (if true then [.strike] else [])) (by simp [switchCause]) with
          ⟨f, hf, hstands⟩ | hstands
        · exact ⟨f, List.mem_append_left _ (List.mem_append_right _ hf), hstands⟩
        · exact ⟨_, List.mem_append_right _ (List.mem_cons_of_mem _ List.mem_cons_self), hstands⟩

/-- R87, R89, R140, R141: the effects of setting a limit bring about what reads it. -/
theorem limitWritten_restores (ch : Choice) {idx n : Nat} {s t : State}
    (h : Sustains (readBy 0x30 (touches idx n)) s t) : KeepsAll s (limitWritten ch idx n t) := by
  refine h.inOrder (fun f hf v => ?_) fun i hi => ?_
  · rcases List.mem_pair.mp hf with rfl | rfl
    · exact KeepsAll.onlyIf recompose_keepsAll v
    · exact judgeCauses_keepsAll ch _ v
  · obtain ⟨e, he, ht⟩ := mem_readBy.mp hi
    obtain ⟨rfl, rfl⟩ | ⟨rfl, rfl⟩ | ⟨rfl, rfl⟩ : e = 0 ∧ i = .composed ∨ e = 0 ∧ i = .taken .overspeed ∨
        e = 1 ∧ i = .taken .mass := by simpa [elementReaders] using he
    · exact ⟨_, List.mem_cons_self, onlyIf_stands ht recompose_stands⟩
    · exact ⟨_, List.mem_cons_of_mem _ List.mem_cons_self, judgeCauses_stands ch (by rw [ht]; simp)⟩
    · exact ⟨_, List.mem_cons_of_mem _ List.mem_cons_self, judgeCauses_stands ch (by rw [ht]; simp)⟩

/-! ### The ring at rest -/

/-- R126: no injection is ACTIVE and VALVE is closed. -/
def Rests (s : State) : Prop := s.ring.ctx.state ≠ .active ∧ s.ring.valve = false

theorem Rests.congr {s t : State} (h : Rests s) (hctx : t.ring.ctx = s.ring.ctx) (hvalve : t.ring.valve = s.ring.valve) :
    Rests t := by
  unfold Rests
  rw [hctx, hvalve]
  exact h

theorem judgeCause_rests (ch : Choice) (c : Cause) (s : State) (h : Rests s) : Rests (judgeCause ch c s) := by
  unfold judgeCause
  split_ifs
  · exact h
  · have hring := (setTrip_trippedBy ch c s).ring
    unfold Rests
    rw [hring]
    exact ringAbort_rests fun _ => h.2
  · exact h

theorem spinWritten_rests (ch : Choice) (idx n : Nat) {s : State} (h : Rests s) : Rests (spinWritten ch idx n s) := by
  refine inOrder_keeps Rests h fun f hf v hv => spinEffects_keep (fun u hu => hu.congr (by simp) (by simp))
    (fun _ u hu => hu.congr (by unfold judgeBleed; rfl) (by unfold judgeBleed; rfl))
    (fun u hu => hu.congr (by simp) (by simp)) (fun _ u hu => ?_) (judgeCause_rests ch) hf hv
  unfold judgeTail
  split_ifs
  · exact ⟨nofun, hu.2⟩
  · exact hu

theorem storeWrite_spin_rests (idx : Nat) (ws : List Word) {s : State} (h : Rests s) : Rests (storeWrite 0x20 idx ws s) := by
  have hring : (weighFix 0x20 idx ws.length (storeElements 0x20 idx ws s)).ring = s.ring := by
    rw [weighFix_ring, storeElements_spin_frame]
  have hfixed : Rests (weighFix 0x20 idx ws.length (storeElements 0x20 idx ws s)) :=
    h.congr (congrArg (·.ctx) hring) (congrArg (·.valve) hring)
  unfold storeWrite capFix
  split_ifs
  · exact hfixed
  · exact hfixed

theorem respond_keepsAll (r : Request) (status : Byte) (data : List Word) (s : State) :
    KeepsAll s (respond r status data s) := portC_keepsAll s _

/-- R164: an accepted write of any object but the spin settings. -/
theorem runAccepted_keepsAll (ch : Choice) {r : Request} {s : State} (hspin : r.object ≠ 0x20)
    (hidle : idleOnly r.object = true → s.session.state = .idle) : KeepsAll s (runAccepted ch r s) := by
  unfold runAccepted
  dsimp only
  generalize (if writeClamped r.object r.index.toNat r.words s then stClamped else stOk) = status
  rw [storeWrite_eq_storeElements hspin]
  by_cases hring : r.object = 0x51
  · unfold writeEffects
    rw [hring, if_neg (by decide), if_neg (by decide), if_neg (by decide), if_neg (by decide), if_pos rfl]
    exact ((storeElements_contents_sustains _ _ s).then_all (respond_keepsAll r _ _ _)).judged
  · have hstored := (storeElements_sustains hspin hring r.index.toNat r.words hidle).then_all
      (respond_keepsAll r status
        ((storeElements r.object r.index.toNat r.words s).readWords r.object r.index.toNat r.words.length) _)
    generalize respond r status _ (storeElements r.object r.index.toNat r.words s) = t at hstored
    unfold writeEffects
    split_ifs with h10 h21 h30
    · rw [h10] at hstored
      exact (hstored : KeepsAll s t).trans (envelopeRevised_keepsAll t)
    · rw [h21] at hstored
      exact serviceWritten_restores ch hstored
    · rw [h30] at hstored
      exact limitWritten_restores ch hstored
    · have hnone : readBy r.object (touches r.index.toNat r.words.length) = [] := by
        simp only [readBy, elementReaders, if_neg hspin, if_neg h21, if_neg h30]
        rfl
      rw [hnone] at hstored
      exact hstored

theorem runAccepted_spin (ch : Choice) {r : Request} {s : State} (hspin : r.object = 0x20) :
    ∃ status data, runAccepted ch r s = spinWritten ch r.index.toNat r.words.length
      (respond r status data (storeWrite 0x20 r.index.toNat r.words s)) := by
  refine ⟨if writeClamped 0x20 r.index.toNat r.words s then stClamped else stOk,
    (storeWrite 0x20 r.index.toNat r.words s).readWords 0x20 r.index.toNat r.words.length, ?_⟩
  unfold runAccepted writeEffects
  rw [hspin, if_neg (by decide), if_pos rfl]

/-- R126, R164: an accepted write of the spin settings, made in IDLE, where the ring is at rest. -/
theorem runAccepted_spin_sustains (ch : Choice) {r : Request} {s : State} (hspin : r.object = 0x20) :
    Sustains [.valve] s (runAccepted ch r s) := by
  obtain ⟨status, data, hrun⟩ := runAccepted_spin ch (s := s) hspin
  rw [hrun]
  exact spinWritten_restores ch ((storeWrite_spin_sustains _ _ s).then_all (respond_keepsAll r status data _))

theorem runAccepted_spin_valve (ch : Choice) {r : Request} {s : State} (hspin : r.object = 0x20)
    (hidle : s.session.state = .idle) (hinj : Invariant.injection.Stands s) :
    Invariant.valve.Stands (runAccepted ch r s) := by
  obtain ⟨status, data, hrun⟩ := runAccepted_spin ch (s := s) hspin
  have hrests : Rests s := ring_rests hinj (by rw [hidle]; decide)
  have hstored : Rests (respond r status data (storeWrite 0x20 r.index.toNat r.words s)) :=
    storeWrite_spin_rests r.index.toNat r.words hrests
  rw [hrun]
  obtain ⟨hctx, hvalve⟩ := spinWritten_rests ch r.index.toNat r.words.length hstored
  exact valve_of_rest hctx hvalve

/-- R164: a WRITE, refused or accepted. -/
theorem runWrite_sustains (ch : Choice) (r : Request) (s : State) : Sustains [.valve] s (runWrite ch r s) := by
  unfold runWrite
  split
  · exact .of_all (respond_keepsAll r _ [] s)
  · next hfail =>
    by_cases hspin : r.object = 0x20
    · exact runAccepted_spin_sustains ch hspin
    · exact .of_all (runAccepted_keepsAll ch hspin (writeFailure_none hfail).1)

theorem runWrite_valve (ch : Choice) (r : Request) {s : State} (hinj : Invariant.injection.Stands s)
    (h : Invariant.valve.Stands s) : Invariant.valve.Stands (runWrite ch r s) := by
  unfold runWrite
  split
  · exact respond_keepsAll r _ [] s .valve List.not_mem_nil h
  · next hfail =>
    by_cases hspin : r.object = 0x20
    · exact runAccepted_spin_valve ch hspin ((writeFailure_none hfail).1 (by rw [hspin]; rfl)) hinj
    · exact runAccepted_keepsAll ch hspin (writeFailure_none hfail).1 .valve List.not_mem_nil h

/-! ### The other operations -/

theorem events_keepsAll {s : State} {e : Events} (h : e.live = s.events.live) : KeepsAll s { s with events := e } := by
  intro i _ hs
  cases i with
  | live k =>
    have hcond : ({ s with events := e } : State).condition k = s.condition k := by cases k <;> rfl
    show e.live.getLsbD k.number.val = _
    rw [h, hcond]
    exact hs
  | _ => exact hs

theorem changeBits_keepsAll (r : Request) (f : Word → Word) (s : State) : KeepsAll s (changeBits r f s) := by
  refine Sustains.trans (events_keepsAll ?_) (respond_keepsAll r stOk _ _)
  unfold Events.withElement
  split <;> rfl

theorem runSetBits_keepsAll (r : Request) (s : State) : KeepsAll s (runSetBits r s) := by
  unfold runSetBits
  split_ifs
  · exact changeBits_keepsAll r _ s
  · exact respond_keepsAll r _ [] s

theorem runClearBits_keepsAll (r : Request) (s : State) : KeepsAll s (runClearBits r s) := by
  unfold runClearBits
  split_ifs
  · exact changeBits_keepsAll r _ s
  · exact respond_keepsAll r _ [] s

theorem runAcknowledge_keepsAll (r : Request) (s : State) : KeepsAll s (runAcknowledge r s) := by
  unfold runAcknowledge
  split
  · exact respond_keepsAll r _ [] s
  · split_ifs
    · exact respond_keepsAll r _ _ s
    · refine Sustains.trans (t := clearLatch r.kindNumber s) ?_ (respond_keepsAll r _ _ _)
      unfold clearLatch
      exact events_keepsAll rfl

theorem runTransfer_keepsAll (r : Request) (s : State) : KeepsAll s (runTransfer r s) := by
  unfold runTransfer
  split
  · exact respond_keepsAll r _ [] s
  · exact ((monitor_sustains s _).then_all (respond_keepsAll r _ _ _)).judged

theorem runQuery_keepsAll (r : Request) (s : State) : KeepsAll s (runQuery r s) := by
  unfold runQuery
  split_ifs
  · exact respond_keepsAll r _ [] s
  · exact respond_keepsAll r _ [] s
  · exact respond_keepsAll r _ _ s

end Sys2Proof.Machine
end

section
/-! SUPPORT. CLEAR TRIP and the resets leave the invariants standing, and with them every command. -/

namespace Sys2Proof.Machine

open Sys2Proof.Safety

/-! ### CLEAR TRIP -/

theorem clearSession_keepsAll (ch : Choice) {s : State} (hclear : s.trip.latch = false) : KeepsAll s (clearSession ch s) := by
  unfold clearSession
  split_ifs with h
  · exact enterIdle_keepsAll ch rfl rfl (by rw [h]; decide) (.inr hclear)
  · exact recompose_keepsAll s

/-- R145: the latch cleared, with no cause true, is read by the ceilings, the session and the live value of TRIP. -/
theorem trip_sustains {s : State} (hcauses : ∀ c, s.causeHolds c = false) (x : Trip) :
    Sustains [.composed, .latched, .live .trip] s { s with trip := x } := by
  intro i hi h
  simp only [List.mem_cons, List.not_mem_nil, or_false, not_or] at hi
  obtain ⟨hcomp, hlatched, htrip⟩ := hi
  cases i with
  | composed => exact absurd rfl hcomp
  | latched => exact absurd rfl hlatched
  | taken c => exact fun hd => absurd ((show s.causeHolds c = true from hd).symm.trans (hcauses c)) (by decide)
  | live k =>
    cases k with
    | trip => exact absurd rfl htrip
    | _ => exact h
  | _ => exact h

/-- R145: what stands at the clearing of the latch stands after it is handed on. -/
theorem handClearing_keeps (ch : Choice) {s : State} (hclear : s.trip.latch = false) {i : Invariant} (h : i.Stands s) :
    i.Stands (handClearing ch s) := by
  rw [handClearing_eq]
  refine (inOrder_keeps (fun u => u.trip.latch = false ∧ i.Stands u) ⟨hclear, h⟩ fun f hf u hu => ?_).2
  obtain ⟨hlatch, hstands⟩ := hu
  rcases List.mem_pair.mp hf with rfl | rfl
  · exact ⟨by rw [clearSession_trip]; exact hlatch, clearSession_keepsAll ch hlatch i List.not_mem_nil hstands⟩
  · exact ⟨by simpa using hlatch, judgeLive_keepsAll .trip u i List.not_mem_nil hstands⟩

theorem runClearTrip_keepsAll (ch : Choice) (r : Request) (s : State) : KeepsAll s (runClearTrip ch r s) := by
  cases hfail : bareFailure r 0x53 with
  | some status => rw [runClearTrip_refused hfail]; exact respond_keepsAll r _ [] s
  | none =>
    rw [runClearTrip_eq hfail]
    split_ifs with hclear haccepted
    · exact respond_keepsAll r _ [] s
    · have hcauses := ((clearAccepted_iff s).mp haccepted).2
      have hcleared := (trip_sustains hcauses s.trip.cleared).then_all (respond_keepsAll r stOk [] _)
      generalize hu : respond r stOk [] { s with trip := s.trip.cleared } = u at hcleared ⊢
      have hlatch : u.trip.latch = false := by rw [← hu]; rfl
      intro i _ h
      by_cases hi : i ∈ [.composed, .latched, .live .trip]
      · simp only [List.mem_cons, List.not_mem_nil, or_false] at hi
        rcases hi with rfl | rfl | rfl
        · exact handClearing_composed ch u
        · have hset : s.trip.latch = true := by simpa using hclear
          have htripped : u.session.state = .tripped := by rw [← hu]; exact h.mpr hset
          have hidle := (handClearing_session_fields htripped ch).1
          show _ = SessionState.tripped ↔ _
          rw [hidle, (handClearing_kept ch u).1, hlatch]
          exact ⟨nofun, nofun⟩
        · show _ = (handClearing ch u).trip.latch
          rw [(handClearing_kept ch u).1]
          exact handClearing_live ch u
      · exact handClearing_keeps ch hlatch (hcleared i hi h)
    · exact respond_keepsAll r _ _ s

/-! ### The resets -/

theorem spinCeiling_of_latched {s : State} (h : s.trip.latch = true) : s.spinCeiling = 0 :=
  Nat.le_zero.mp (spinCeiling_le_of_mem (by simp [State.spinTerms, h]))

theorem agitateCeiling_of_latched {s : State} (h : s.trip.latch = true) : s.agitateCeiling = 0 := by
  simp [State.agitateCeiling, h]

theorem reset_not_passed (e : Fin 6) : Session.reset.progress[e].passed ≠ true := by
  revert e; decide

/-- R120: SOFT RESET leaves no injection ACTIVE. -/
theorem softReset_ctx_not_active (now : Time) (flowTail : Nat) (c : InjContext) :
    (c.softReset now flowTail).state ≠ .active := by
  unfold InjContext.softReset
  by_cases h : c.state = .active
  · rw [if_pos h]
    dsimp only
    by_cases htail : flowTail = 0
    · rw [if_pos htail]; decide
    · rw [if_neg htail]; decide
  · rw [if_neg h]; exact h

/-- R76, R96, R97, R126, R135, R148: as SOFT RESET completes every invariant stands but those of the causes, which the trip
unit then takes. -/
theorem softBase_stands (s : State) {i : Invariant} (hi : ∀ c, i ≠ .taken c) : i.Stands (softBase s) := by
  have hctx : (softJudged s).ring.ctx.state ≠ .active := softReset_ctx_not_active s.now s.spin.flowTail s.ring.ctx
  have hstate : (if s.trip.latch then SessionState.tripped else .idle) ≠ .correct := by split_ifs <;> decide
  rw [softBase_eq]
  cases i with
  | composed =>
    by_cases hlatch : s.trip.latch = true
    · exact ⟨(spinCeiling_of_latched (s := softValues s) hlatch).trans (spinCeiling_of_latched (by exact hlatch)).symm,
        (agitateCeiling_of_latched (s := softValues s) hlatch).trans (agitateCeiling_of_latched (by exact hlatch)).symm⟩
    · rw [if_neg hlatch]
      exact ⟨rfl, rfl⟩
  | latched =>
    show (if s.trip.latch then SessionState.tripped else .idle) = .tripped ↔ s.trip.latch = true
    cases s.trip.latch <;> simp
  | injection => exact injection_of_rest hctx rfl hstate
  | valve => exact valve_of_rest hctx rfl
  | plateau =>
    refine (sessionSound_iff _).mpr ?_
    show ((if s.trip.latch then SessionState.tripped else .idle).onPlateau = true → _) ∧
      ((if s.trip.latch then SessionState.tripped else .idle) = .limited ∨
        (if s.trip.latch then SessionState.tripped else .idle) = .holdDown → _)
    cases s.trip.latch <;> exact ⟨nofun, by simp⟩
  | passed => exact (passedRun_iff _).mpr fun d e _ he => absurd he (reset_not_passed e)
  | corrections => exact correctionsSound_of_closed ⟨Nat.zero_le _, nofun⟩
  | bleed => exact judgeBleed_stands (composeSilently (softValues s))
  | taken c => exact absurd rfl (hi c)
  | live k =>
    refine (liveWord_eq (softJudged s) k).trans ?_
    cases k <;> cases s.trip.latch <;> rfl

theorem softReset_stands (ch : Choice) (s : State) (i : Invariant) : i.Stands (softReset ch s) := by
  rw [softReset_eq]
  cases i with
  | taken c => exact judgeCauses_stands ch (by cases c <;> decide) _
  | _ => exact judgeCauses_keepsAll ch _ _ _ List.not_mem_nil (softBase_stands s nofun)

theorem runSoftReset_keepsAll (ch : Choice) (r : Request) (s : State) : KeepsAll s (runSoftReset ch r s) := by
  unfold runSoftReset
  split_ifs
  · exact respond_keepsAll r _ [] s
  · exact fun i hi _ => respond_keepsAll r stOk [] _ i hi (softReset_stands ch s i)

/-- R76, R96, R148: the power-on values satisfy every invariant but those of the causes. -/
theorem powerOnValues_stands (s : State) (held : Bool) {i : Invariant} (hi : ∀ c, i ≠ .taken c) :
    i.Stands { powerOnValues s with held := held } := by
  cases i with
  | composed => exact ⟨rfl, rfl⟩
  | latched => exact ⟨nofun, nofun⟩
  | injection => exact ⟨⟨nofun, nofun⟩, fun _ => rfl⟩
  | taken c => exact absurd rfl (hi c)
  | live k => exact (liveWord_eq _ k).trans (by cases k <;> rfl)
  | passed => exact (passedRun_iff _).mpr fun d e _ he => absurd he (reset_not_passed e)
  | _ => rfl

theorem powerOn_stands (s : State) (i : Invariant) : i.Stands (powerOn s) := by
  unfold powerOn
  cases i with
  | taken c => exact judgeCauses_stands _ (by cases c <;> decide) _
  | _ => exact judgeCauses_keepsAll _ _ _ _ List.not_mem_nil (powerOnValues_stands s false nofun)

end Sys2Proof.Machine
end

section
/-! SUPPORT. What every command leaves of the invariants: all of them, those of the index speed where the tracker is sound,
and VALVE where the injection is. -/

namespace Sys2Proof.Machine

open Sys2Proof.Safety

/-- What a command leaves of the invariants. -/
structure Leaves (s t : State) : Prop where
  rest : Sustains (.valve :: angleBroken) s t
  angle : trackerSound s.tracker = true → Sustains [.valve] s t
  valve : Invariant.injection.Stands s → Invariant.valve.Stands s → Invariant.valve.Stands t

theorem Leaves.of_all {s t : State} (h : KeepsAll s t) : Leaves s t :=
  ⟨.of_all h, fun _ => .of_all h, fun _ => h .valve List.not_mem_nil⟩

theorem Leaves.of_valve {s t : State} (h : Sustains [.valve] s t)
    (hvalve : Invariant.injection.Stands s → Invariant.valve.Stands s → Invariant.valve.Stands t) : Leaves s t :=
  ⟨h.mono (by simp), fun _ => h, hvalve⟩

/-- What is made of a state in which everything still stands. -/
theorem Leaves.after {s t u : State} (h : Leaves t u) (hst : KeepsAll s t) (htracker : t.tracker = s.tracker) :
    Leaves s u where
  rest := (Sustains.of_all hst).trans h.rest
  angle hsound := (Sustains.of_all hst).trans (h.angle (by rw [htracker]; exact hsound))
  valve hinj hvalve := h.valve (hst .injection List.not_mem_nil hinj) (hst .valve List.not_mem_nil hvalve)

theorem happen_leaves {m : Moment} {f : State → State} {s t : State} (h : ∀ u, Leaves u (f u))
    (ht : happen m f s = .next t) : Leaves s t := by
  cases hheld : s.held with
  | true => rw [happen_held hheld] at ht; cases ht; exact .of_all (.refl [] s)
  | false =>
    rw [happen_live hheld] at ht; cases ht
    exact (h _).after (tick_keepsAll m s) (by simp)

theorem happen_keepsAll {m : Moment} {f : State → State} {s t : State} (h : ∀ u, KeepsAll u (f u))
    (ht : happen m f s = .next t) : Leaves s t := happen_leaves (fun u => .of_all (h u)) ht

theorem execute_keepsAll {isOp : Byte → Bool} {run : Request → State → State} (h : ∀ r u, KeepsAll u (run r u)) (s : State) :
    KeepsAll s (execute isOp run s) := by
  unfold execute
  split
  · exact .refl [] s
  · split
    · exact (requests_keepsAll s _).trans (h _ _)
    · exact .refl [] s

theorem execute_leaves {isOp : Byte → Bool} {run : Request → State → State} (h : ∀ r u, Leaves u (run r u)) (s : State) :
    Leaves s (execute isOp run s) := by
  unfold execute
  split
  · exact .of_all (.refl [] s)
  · split
    · exact (h _ _).after (requests_keepsAll s _) rfl
    · exact .of_all (.refl [] s)

/-- Every command but the hold of RESET_N. -/
theorem exec_leaves {c : Instr} {s t : State} (hc : c ≠ .resetNLow) (ht : exec c s = .next t) : Leaves s t := by
  cases c with
  | powerOnReset => cases ht; exact .of_all fun i _ _ => powerOn_stands s i
  | frameError m link byte => exact happen_keepsAll (lineByte_keepsAll _ _ _) ht
  | frameTimeout m link => exact happen_keepsAll (framerTimeout_keepsAll _) ht
  | speedDemandTaken => exact happen_keepsAll (wholeFrame_keepsAll _ _ _ _ _) ht
  | driveStatusTaken => exact happen_keepsAll (wholeFrame_keepsAll _ _ _ _ _) ht
  | managementRequestTaken => exact happen_keepsAll (wholeFrame_keepsAll _ _ _ _ _) ht
  | passFrameTaken => exact happen_keepsAll (wholeFrame_keepsAll _ _ _ _ _) ht
  | dropFrameTaken => exact happen_keepsAll (wholeFrame_keepsAll _ _ _ _ _) ht
  | sampleTaken => exact happen_keepsAll (wholeFrame_keepsAll _ _ _ _ _) ht
  | transmitEnd => exact happen_keepsAll (endSend_keepsAll _) ht
  | controllerSilent => exact happen_keepsAll (controllerSilences_keepsAll _) ht
  | orphanStopRepeat => exact happen_keepsAll (orphanRepeats_keepsAll _) ht
  | driveSilent => exact happen_keepsAll (driveSilences_keepsAll _) ht
  | sensorLoss => exact happen_keepsAll (sensorLost_keepsAll _) ht
  | switchRawChange m sw =>
    unfold exec execSwitchRawChange at ht; dsimp only at ht; split at ht
    · cases ht; exact .of_all (toggleRaw_keepsAll sw s)
    · exact happen_keepsAll (rawChange_keepsAll _ _) ht
  | debounceExpiry => exact happen_keepsAll (debounceExpires_keepsAll _ _) ht
  | indexPulse m =>
    refine happen_leaves (fun u => ⟨(indexPulse_sustains m.choice u).mono (by simp), fun hsound => ?_, fun _ h => ?_⟩) ht
    · exact .of_all (indexPulse_keepsAll m.choice hsound)
    · exact indexPulse_sustains m.choice u .valve (by simp [angleBroken]) h
  | indexLost m => exact happen_leaves (fun u => .of_valve (indexLost_sustains m.choice u) (indexLost_valve m.choice)) ht
  | valveWindowEdge => exact happen_keepsAll judgeValve_keepsAll ht
  | flowPulse => exact happen_keepsAll (flowPulse_keepsAll _) ht
  | flowTimeout => exact happen_keepsAll (flowTimesOut_keepsAll _) ht
  | flowTailExpiry => exact happen_keepsAll tailExpires_keepsAll ht
  | bleedPeriod => exact happen_keepsAll bleeds_keepsAll ht
  | monitorPeriodExpiry => exact happen_keepsAll monitorExpires_keepsAll ht
  | read => exact happen_keepsAll (execute_keepsAll (run := runRead) fun r u => respond_keepsAll r _ _ u) ht
  | write m =>
    exact happen_leaves (execute_leaves fun r u =>
      .of_valve (runWrite_sustains m.choice r u) (runWrite_valve m.choice r)) ht
  | setBits => exact happen_keepsAll (execute_keepsAll runSetBits_keepsAll) ht
  | clearBits => exact happen_keepsAll (execute_keepsAll runClearBits_keepsAll) ht
  | acknowledgeIf => exact happen_keepsAll (execute_keepsAll runAcknowledge_keepsAll) ht
  | transfer => exact happen_keepsAll (execute_keepsAll runTransfer_keepsAll) ht
  | clearTrip m => exact happen_keepsAll (execute_keepsAll (runClearTrip_keepsAll m.choice)) ht
  | query => exact happen_keepsAll (execute_keepsAll runQuery_keepsAll) ht
  | softReset m => exact happen_keepsAll (execute_keepsAll (runSoftReset_keepsAll m.choice)) ht
  | unknownOp => exact happen_keepsAll (execute_keepsAll (run := runUnknown) fun r => respond_keepsAll r _ _) ht
  | byteReceived m link byte => exact happen_keepsAll (lineByte_keepsAll _ _ _) ht
  | resetNLow => exact absurd rfl hc

end Sys2Proof.Machine
end

section
/-! SUPPORT. What every move keeps of the standing demand, the TRIP line, ATTN, the orphan stop and the Port C local queue. -/

namespace Sys2Proof.Machine

open Sys2Proof.Safety

/-! ### The standing demand -/

theorem mem_replaceFirst_self {same : QFrame → Bool} {q : List QFrame} (h : q.any same = true) (f : QFrame) :
    f ∈ replaceFirst same f q := by
  induction q with
  | nil => cases h
  | cons g rest ih =>
    unfold replaceFirst
    split
    · exact List.mem_cons_self
    · next hg => exact List.mem_cons_of_mem _ (ih (by simpa [hg] using h))

/-- R22, R90: the standing target lies within the ceiling of its mode, or a SPEED DEMAND waits. -/
def Within (s : State) : Prop :=
  s.portD.demandWaits = true ∨ s.standing.target.natAbs ≤ s.gov.ceiling s.standing.mode

theorem standingWithin_iff (s : State) : standingWithin s = true ↔ Within s := by
  simp [standingWithin, Within]

theorem Within.congr {s t : State} (h : Within s) (hport : t.portD = s.portD) (hstanding : t.standing = s.standing)
    (hspin : t.gov.spin = s.gov.spin) (hagitate : t.gov.agitate = s.gov.agitate) : Within t := by
  have hceiling : t.gov.ceiling = s.gov.ceiling := by
    funext mode
    cases mode <;> simp [Governor.ceiling, hspin, hagitate]
  unfold Within
  rw [hport, hstanding, hceiling]
  exact h

/-- R17: the arbiter takes a SPEED DEMAND, or leaves those that wait. -/
theorem pick_demandWaits {p q : PortD} {f : QFrame} (h : p.pick = some (f, q)) (hc : f.cls ≠ speedDemandClass) :
    q.demandWaits = p.demandWaits := by
  obtain ⟨fq, lq, seq, sending⟩ := p
  cases lq with
  | cons g rest =>
    obtain ⟨rfl, rfl⟩ : g = f ∧ _ = q := by simpa [PortD.pick] using h
    simp [PortD.demandWaits, beq_eq_false_iff_ne.mpr hc]
  | nil =>
    cases fq with
    | cons g rest =>
      obtain ⟨rfl, rfl⟩ : g = f ∧ _ = q := by simpa [PortD.pick] using h
      simp [PortD.demandWaits, beq_eq_false_iff_ne.mpr hc]
    | nil => simp [PortD.pick] at h

/-- R19, R22: what starts to leave Port D is governed by the ceilings in force. -/
theorem Within.startD {s : State} (h : Within s) : Within (startD s) := by
  cases hp : s.portD.pick with
  | none => rw [startD_nothing hp]; exact h
  | some fp =>
    obtain ⟨f, p⟩ := fp
    by_cases hc : f.cls = speedDemandClass
    · rw [startD_demand hp hc]
      have hsent : Within { s with portD := p.send s.now f.cls (govern s f).payload, standing := govern s f } :=
        .inr (govern_target_natAbs_le s f)
      exact hsent.congr (by simp) (by simp) (by simp) (by simp)
    · rw [startD_plain hp hc]
      exact h.imp_left fun hwaits => (pick_demandWaits hp hc).trans hwaits

theorem Within.kickD {s : State} (h : Within s) : Within (kickD s) := by
  unfold Machine.kickD
  split
  · exact h.startD
  · exact h

/-- R22: a restated demand waits, or leaves governed. -/
theorem queueRestated_within (s : State) : Within (queueRestated s) := by
  unfold queueRestated
  split
  · next hwaits => exact .inl hwaits
  · exact Within.kickD (.inl (demandWaits_append s.portD _ rfl))

/-- R22, R89: a ceiling that falls below the standing target restates the demand. -/
theorem recompose_within {s : State} (h : Within s) : Within (recompose s) := by
  unfold recompose
  dsimp only
  split
  · exact queueRestated_within _
  · next hnot =>
    refine h.imp_right fun htarget => ?_
    by_contra hbelow
    refine hnot ⟨fun hsame => hbelow ?_, not_le.mp hbelow⟩
    exact hsame ▸ htarget

/-- R24: the orphan stop waits, or leaves governed. -/
theorem queueOrphan_within (s : State) : Within (queueOrphan s) := by
  unfold queueOrphan
  dsimp only
  split
  · next hwaits =>
    refine .inl ?_
    have hmem : orphanFrame s.spin.downRamp ∈
        replaceFirst (fun f => f.restated) (orphanFrame s.spin.downRamp) s.portD.localQ := mem_replaceFirst_self hwaits _
    simp only [PortD.demandWaits, Bool.or_eq_true, List.any_eq_true]
    exact .inr ⟨_, hmem, rfl⟩
  · exact Within.kickD (.inl (demandWaits_append
      { s.portD with forwardedQ := s.portD.forwardedQ.filter fun f => f.cls != speedDemandClass } _ rfl))

theorem Effect.within {s t : State} (h : Effect s t) (hs : Within s) : Within t := by
  cases h with
  | compose => exact recompose_within hs
  | restate => exact queueRestated_within s
  | _ => exact hs.congr rfl rfl rfl rfl

theorem Move.within {c : Instr} {s t : State} (h : Move c s t) (hs : Within s) : Within t := by
  cases h with
  | effect h => exact h.within hs
  | framer link => cases link <;> exact hs
  | switch sw => cases sw <;> exact hs
  | stored m r =>
    have hsame := storeWrite_same r.object r.index.toNat r.words s
    exact hs.congr hsame.portD hsame.standing (congrArg (·.spin) hsame.gov) (congrArg (·.agitate) hsame.gov)
  | orphaned => exact queueOrphan_within s
  | freedD => exact Within.kickD (s := freeD s) hs
  | joinedD f =>
    refine Within.kickD (hs.imp_left fun hwaits => ?_)
    simp only [PortD.demandWaits, List.any_append, Bool.or_eq_true] at hwaits ⊢
    tauto
  | demandReplaced f hcls hplain hone =>
    refine .inl ?_
    simp only [PortD.demandWaits, Bool.or_eq_true, List.any_eq_true]
    exact .inl ⟨f, mem_replaceFirst_self hone f, by simpa using hcls⟩
  | demandJoined f hcls => exact Within.kickD (.inl (by simp [PortD.demandWaits, hcls]))
  | soft => unfold resumeTrip; split <;> exact .inr (Nat.zero_le _)
  | power => exact .inr (Nat.zero_le _)
  | hold => exact .inr (Nat.zero_le _)
  | _ => exact hs

/-! ### The TRIP line and the orphan stop -/

theorem tripLine_portDFree : PortDFree fun s => tripLine s = true where
  queue _ _ h := h
  sent _ _ _ h := h
  offer u h := by simpa [tripLine] using h

theorem Effect.tripLine {s t : State} (h : Effect s t) (hs : tripLine s = true) : tripLine t = true := by
  cases h with
  | compose => exact tripLine_portDFree.recompose (fun _ _ h => h) hs
  | restate => exact tripLine_portDFree.queueRestated hs
  | trip c h => rfl
  | _ => exact hs

theorem Move.tripLine {c : Instr} {s t : State} (h : Move c s t) (hs : tripLine s = true) : tripLine t = true := by
  cases h with
  | effect h => exact h.tripLine hs
  | framer link => cases link <;> exact hs
  | switch sw => cases sw <;> exact hs
  | stored m r =>
    rw [Safety.tripLine, (storeWrite_same r.object r.index.toNat r.words s).trip]
    exact hs
  | orphaned => exact tripLine_portDFree.queueOrphan hs
  | freedD | joinedD | demandJoined => exact tripLine_portDFree.kickD (tripLine_portDFree.queue s _ hs)
  | cleared => rfl
  | soft => unfold resumeTrip; split <;> exact beq_self_eq_true s.trip.latch
  | power => rfl
  | hold => rfl
  | _ => exact hs

theorem orphan_portDFree : PortDFree fun s => orphanWhileSilent s = true where
  queue _ _ h := h
  sent _ _ _ h := h
  offer u h := by simpa [orphanWhileSilent] using h

theorem Move.orphanWhileSilent {c : Instr} {s t : State} (h : Move c s t) (hs : orphanWhileSilent s = true) :
    orphanWhileSilent t = true := by
  cases h with
  | effect h => rw [Safety.orphanWhileSilent, h.sameInputs.silence]; exact hs
  | framer link => cases link <;> exact hs
  | switch sw => cases sw <;> exact hs
  | silence x h => exact h hs
  | stored m r =>
    rw [Safety.orphanWhileSilent, (storeWrite_same r.object r.index.toNat r.words s).silence]
    exact hs
  | orphaned => exact orphan_portDFree.queueOrphan hs
  | freedD | joinedD | demandJoined => exact orphan_portDFree.kickD (orphan_portDFree.queue s _ hs)
  | soft => unfold resumeTrip; split <;> rfl
  | power => rfl
  | hold => rfl
  | _ => exact hs

/-! ### ATTN -/

theorem latchKind_attn (k : Kind) (s : State) : attnFollows (latchKind k s) = true := beq_self_eq_true _

theorem offerLive_attn (k : Kind) (v : Bool) {s : State} (h : attnFollows s = true) : attnFollows (offerLive k v s) = true := by
  unfold offerLive
  dsimp only
  split
  · exact h
  · split
    · exact latchKind_attn k _
    · exact h

theorem attn_portDFree : PortDFree fun s => attnFollows s = true where
  queue _ _ h := h
  sent _ _ _ h := h
  offer _ h := offerLive_attn .governing _ h

theorem attnFollows_none {s : State} {live : Word} (h : s.events = { Events.reset with live := live } := by rfl) :
    attnFollows s = true := by
  have hreset : (Events.reset.attn == Events.reset.attnDue) = true := by decide
  rw [Safety.attnFollows, h]
  exact hreset

/-- R155, R164: a write of REPORT_EVERY clears the report count; nothing else of the event unit is stored. -/
theorem StoreStep.events {obj : Byte} {i : Nat} {w : Word} {s t : State} (h : StoreStep obj i w s t) :
    ∃ n, t.events = { s.events with reportCount := n } := by
  cases h with
  | service => unfold storeService; split <;> exact ⟨_, rfl⟩
  | limit => unfold storeLimit; split <;> exact ⟨_, rfl⟩
  | _ => exact ⟨_, rfl⟩

theorem storeElements_events (obj : Byte) (i : Nat) (ws : List Word) (s : State) :
    ∃ n, (storeElements obj i ws s).events = { s.events with reportCount := n } := by
  induction ws generalizing i s with
  | nil => exact ⟨_, rfl⟩
  | cons w ws ih =>
    obtain ⟨n, hfirst⟩ := (storeElement_step obj i w s).events
    obtain ⟨n', hrest⟩ := ih (i + 1) (storeElement obj i w s)
    exact ⟨n', hrest.trans (by rw [hfirst])⟩

theorem storeWrite_events (obj : Byte) (idx : Nat) (ws : List Word) (s : State) :
    ∃ n, (storeWrite obj idx ws s).events = { s.events with reportCount := n } := by
  have hfixes : (storeWrite obj idx ws s).events = (storeElements obj idx ws s).events := by
    unfold storeWrite capFix weighFix
    split_ifs <;> rfl
  rw [hfixes]
  exact storeElements_events obj idx ws s

theorem Effect.attnFollows {s t : State} (h : Effect s t) (hs : attnFollows s = true) : attnFollows t = true := by
  cases h with
  | latch k h => exact latchKind_attn k s
  | compose => exact attn_portDFree.recompose (fun _ _ h => h) hs
  | restate => exact attn_portDFree.queueRestated hs
  | _ => exact hs

theorem Move.attnFollows {c : Instr} {s t : State} (h : Move c s t) (hs : attnFollows s = true) : attnFollows t = true := by
  cases h with
  | effect h => exact h.attnFollows hs
  | framer link => cases link <;> exact hs
  | switch sw => cases sw <;> exact hs
  | overflow => exact latchKind_attn .queueOverflow s
  | events e h => exact h hs
  | stored m r =>
    obtain ⟨n, hevents⟩ := storeWrite_events r.object r.index.toNat r.words s
    rw [Safety.attnFollows, hevents]
    exact hs
  | orphaned => exact attn_portDFree.queueOrphan hs
  | freedD | joinedD | demandJoined => exact attn_portDFree.kickD (attn_portDFree.queue s _ hs)
  | soft => unfold resumeTrip; split <;> exact attnFollows_none
  | power => exact attnFollows_none
  | hold => exact attnFollows_none
  | _ => exact hs

end Sys2Proof.Machine
end

section
/-! SUPPORT. R154: the notices and the report that wait in the Port C local queue. -/

namespace Sys2Proof.Machine

open Sys2Proof.Safety

/-! ### The queue's keys -/

/-- What a notice or a report is one of: its kind, or the report; other frames have none. -/
def localKey (f : QFrame) : Option (Option Byte) :=
  if f.cls = noticeClass then some (some (field8 f.payload 0)) else if f.cls = reportClass then some none else none

theorem localKey_notice {f : QFrame} {b : Byte} :
    localKey f = some (some b) ↔ f.cls = noticeClass ∧ field8 f.payload 0 = b := by
  unfold localKey
  split_ifs <;> simp_all

theorem localKey_report {f : QFrame} : localKey f = some none ↔ f.cls = reportClass := by
  have hne : noticeClass ≠ reportClass := by decide
  unfold localKey
  split_ifs with hnotice hreport
  · simp [hnotice, hne]
  · simp [hreport]
  · simp [hreport]

/-- R154: no two of one kind, nor two reports. -/
def Distinct (q : List QFrame) : Prop := (q.filterMap localKey).Nodup

theorem distinct_cons {f : QFrame} {q : List QFrame} :
    Distinct (f :: q) ↔ (∀ x, localKey f = some x → x ∉ q.filterMap localKey) ∧ Distinct q := by
  unfold Distinct
  cases h : localKey f with
  | none => simp [h]
  | some x => simp [h]

theorem distinct_iff (q : List QFrame) :
    Distinct q ↔ (((ofClass noticeClass q).map fun f => field8 f.payload 0).Nodup ∧ (ofClass reportClass q).length ≤ 1) := by
  have hne : noticeClass ≠ reportClass := by decide
  induction q with
  | nil => simp [Distinct, ofClass]
  | cons f q ih =>
    refine distinct_cons.trans ((and_congr_right' ih).trans ?_)
    have hmem : ∀ b, some b ∈ q.filterMap localKey ↔ b ∈ (ofClass noticeClass q).map fun g => field8 g.payload 0 := by
      intro b
      simp [localKey_notice, ofClass, and_assoc]
    have hreport : none ∈ q.filterMap localKey ↔ ofClass reportClass q ≠ [] := by
      simp [localKey_report, ofClass]
    by_cases hn : f.cls = noticeClass
    · have hkey : localKey f = some (some (field8 f.payload 0)) := localKey_notice.mpr ⟨hn, rfl⟩
      have hcons : ofClass noticeClass (f :: q) = f :: ofClass noticeClass q := by simp [ofClass, hn]
      have hrest : ofClass reportClass (f :: q) = ofClass reportClass q := by simp [ofClass, hn, hne]
      rw [hcons, hrest, List.map_cons, List.nodup_cons, hkey]
      simp only [Option.some.injEq, forall_eq', hmem]
      tauto
    · have hcons : ofClass noticeClass (f :: q) = ofClass noticeClass q := by simp [ofClass, hn]
      rw [hcons]
      by_cases hr : f.cls = reportClass
      · have hrest : ofClass reportClass (f :: q) = f :: ofClass reportClass q := by simp [ofClass, hr]
        have hlength : (f :: ofClass reportClass q).length ≤ 1 ↔ ofClass reportClass q = [] := by
          simp [List.length_eq_zero_iff]
        rw [hrest, hlength, localKey_report.mpr hr]
        simp only [Option.some.injEq, forall_eq', hreport, not_not]
        refine ⟨fun ⟨hnil, hnodup, _⟩ => ⟨hnodup, hnil⟩,
          fun ⟨hnodup, hnil⟩ => ⟨hnil, hnodup, by rw [hnil]; exact Nat.zero_le _⟩⟩
      · have hkey : localKey f = none := by simp [localKey, hn, hr]
        have hrest : ofClass reportClass (f :: q) = ofClass reportClass q := by simp [ofClass, hr]
        rw [hrest, hkey]
        simp

theorem localDistinct_iff (s : State) : localDistinct s = true ↔ Distinct s.portC.localQ := by
  rw [distinct_iff]
  simp only [localDistinct, Bool.and_eq_true, decide_eq_true_eq]

/-! ### The operations of the queue -/

theorem Distinct.sublist {q p : List QFrame} (h : Distinct q) (hp : p.Sublist q) : Distinct p :=
  List.Nodup.sublist (hp.filterMap localKey) h

/-- R15, R159: a frame that is no notice and no report joins. -/
theorem Distinct.joined {q : List QFrame} (h : Distinct q) {f : QFrame} (hf : localKey f = none) : Distinct (q ++ [f]) := by
  simpa [Distinct, List.filterMap_append, hf] using h

theorem filterMap_replaceFirst {same : QFrame → Bool} {f : QFrame} {x : Option Byte} (hf : localKey f = some x)
    (hsame : ∀ g, same g = true ↔ localKey g = some x) (q : List QFrame) :
    (replaceFirst same f q).filterMap localKey = q.filterMap localKey := by
  induction q with
  | nil => rfl
  | cons g rest ih =>
    unfold replaceFirst
    split
    · next hg => simp [hf, (hsame g).mp hg]
    · simp [List.filterMap_cons, ih]

/-- R154, R155: a frame offered replaces the one of its key, or joins where there is none. -/
theorem Distinct.offered {p : PortC} (h : Distinct p.localQ) {same : QFrame → Bool} {f : QFrame} {x : Option Byte}
    (hf : localKey f = some x) (hsame : ∀ g, same g = true ↔ localKey g = some x) :
    Distinct (p.offerLocal same f).localQ := by
  unfold PortC.offerLocal
  split
  · unfold Distinct
    rw [filterMap_replaceFirst hf hsame]
    exact h
  · next hnone =>
    split
    · have hfresh : x ∉ p.localQ.filterMap localKey := by
        intro hx
        obtain ⟨g, hg, hkey⟩ := List.mem_filterMap.mp hx
        exact hnone (List.any_eq_true.mpr ⟨g, hg, (hsame g).mpr hkey⟩)
      unfold Distinct
      rw [List.filterMap_append, List.nodup_append]
      refine ⟨h, by simp [hf], fun a ha b hb => ?_⟩
      have hbx : b = x := by simpa [List.filterMap_cons, hf] using hb
      exact fun hab => hfresh (hbx ▸ hab ▸ ha)
    · exact h

theorem Distinct.kick {p : PortC} (h : Distinct p.localQ) (now : Time) : Distinct (p.kick now).localQ := by
  unfold PortC.kick
  split
  · rcases PortC.startNext_cases now p with ⟨-, -, heq⟩ | ⟨f, rest, hq, -, heq⟩ | ⟨f, rest, -, -, heq⟩
    · rw [heq]; exact h
    · rw [heq]; exact h.sublist (by rw [hq]; exact List.sublist_cons_self f rest)
    · rw [heq]; exact h
  · exact h

theorem sameNotice_iff (k : Kind) (g : QFrame) :
    sameNotice k g = true ↔ localKey g = some (some (BitVec.ofNat 8 k.number.val)) := by
  simp [sameNotice, localKey_notice]

theorem isReport_iff (g : QFrame) : isReport g = true ↔ localKey g = some none := by
  simp [isReport, localKey_report]

/-! ### What the moves keep -/

theorem latchKind_distinct (k : Kind) {s : State} (h : Distinct s.portC.localQ) :
    Distinct (latchKind k s).portC.localQ := by
  unfold latchKind
  dsimp only
  split
  · exact (h.offered (localKey_notice.mpr ⟨rfl, rfl⟩) (sameNotice_iff k)).kick s.now
  · exact h

theorem offerLive_distinct (k : Kind) (v : Bool) {s : State} (h : Distinct s.portC.localQ) :
    Distinct (offerLive k v s).portC.localQ := by
  unfold offerLive
  dsimp only
  split
  · exact h
  · split
    · exact latchKind_distinct k h
    · exact h

theorem distinct_portDFree : PortDFree fun s => Distinct s.portC.localQ where
  queue _ _ h := h
  sent _ _ _ h := h
  offer _ h := offerLive_distinct .governing _ h

theorem Effect.distinct {s t : State} (h : Effect s t) (hs : Distinct s.portC.localQ) : Distinct t.portC.localQ := by
  cases h with
  | latch k h => exact latchKind_distinct k hs
  | report => exact (hs.offered (localKey_report.mpr rfl) isReport_iff).kick s.now
  | compose => exact distinct_portDFree.recompose (fun _ _ h => h) hs
  | restate => exact distinct_portDFree.queueRestated hs
  | _ => exact hs

theorem Move.distinct {c : Instr} {s t : State} (h : Move c s t) (hs : Distinct s.portC.localQ) :
    Distinct t.portC.localQ := by
  have hempty : Distinct [] := List.nodup_nil
  cases h with
  | effect h => exact h.distinct hs
  | framer link => cases link <;> exact hs
  | switch sw => cases sw <;> exact hs
  | overflow => exact latchKind_distinct .queueOverflow hs
  | response r status data h => exact (hs.joined (show localKey (responseFrame r status data) = none from rfl)).kick s.now
  | freedC => exact Distinct.kick (p := { s.portC with sending := none }) hs s.now
  | joinedC f => exact Distinct.kick (p := { s.portC with forwardedQ := s.portC.forwardedQ ++ [f] }) hs s.now
  | stored m r => rw [(storeWrite_same r.object r.index.toNat r.words s).portC]; exact hs
  | orphaned => exact distinct_portDFree.queueOrphan hs
  | freedD | joinedD | demandJoined => exact distinct_portDFree.kickD (distinct_portDFree.queue s _ hs)
  | soft => unfold resumeTrip; split <;> exact hempty
  | power => exact hempty
  | hold => exact hempty
  | _ => exact hs

end Sys2Proof.Machine
end

section
/-! SUPPORT. The ceilings, the trip and the session, the events and the notices: what every step keeps of them. -/

namespace Sys2Proof.Machine

open Sys2Proof.Safety

/-! ### Every step -/

theorem stands_pending {i : Invariant} {s : State} (h : i.Stands s) (q : List Instr) : i.Stands { s with pending := q } := by
  cases i with
  | live k => cases k <;> exact h
  | _ => exact h

/-- The hold of RESET_N leaves every invariant standing but those of the causes, which it does not take (log 14). -/
theorem hold_stands (s : State) {i : Invariant} (hi : ∀ c, i ≠ .taken c) : i.Stands (hold s) :=
  powerOnValues_stands s true hi

/-- Every invariant but those of the causes stands after a step: those of the index speed where the tracker is sound,
VALVE where the injection is. -/
theorem step_stands {i : Invariant} (htaken : ∀ c, i ≠ .taken c) {s t : State} (hstep : step s = .next t)
    (hangle : i ∈ angleBroken → trackerSound s.tracker = true) (hvalve : i = .valve → Invariant.injection.Stands s)
    (h : i.Stands s) : i.Stands t := by
  unfold step at hstep
  split at hstep
  · cases hstep; exact h
  · next c rest _ =>
    have hs := stands_pending h rest
    by_cases hlow : c = .resetNLow
    · subst hlow; cases hstep; exact hold_stands _ htaken
    · have hleaves := exec_leaves hlow hstep
      by_cases hv : i = .valve
      · subst hv; exact hleaves.valve (stands_pending (hvalve rfl) rest) hs
      · by_cases ha : i ∈ angleBroken
        · exact hleaves.angle (hangle ha) i (by simpa using hv) hs
        · exact hleaves.rest i (by rw [List.mem_cons, not_or]; exact ⟨hv, ha⟩) hs

/-- R142, R143: the causes are taken, but while RESET_N is held. -/
def CausesTaken (s : State) : Prop := s.held = true ∨ ∀ c, (Invariant.taken c).Stands s

theorem causesTaken_iff (s : State) : causesTaken s = true ↔ CausesTaken s := by
  simp only [causesTaken, CausesTaken, Bool.or_eq_true, allCauses, List.all_cons, List.all_nil, Bool.and_true,
    Bool.and_eq_true, Bool.not_eq_true', Invariant.Stands]
  refine or_congr_right ⟨fun h c => ?_, fun h => ?_⟩
  · have hc : s.causeHolds c = false ∨ s.trip.latch = true ∧ s.trip.causes.has c = true := by
      cases c <;> tauto
    exact fun hd => hc.resolve_left (by rw [hd]; decide)
  · have hc : ∀ c, s.causeHolds c = false ∨ s.trip.latch = true ∧ s.trip.causes.has c = true := fun c => by
      cases hd : s.causeHolds c with
      | true => exact .inr (h c hd)
      | false => exact .inl rfl
    exact ⟨hc _, hc _, hc _, hc _, hc _⟩

theorem exec_causesTaken {c : Instr} {s t : State} (ht : exec c s = .next t) (hsound : trackerSound s.tracker = true)
    (hs : CausesTaken s) : CausesTaken t := by
  by_cases hlow : c = .resetNLow
  · subst hlow; cases ht; exact .inl rfl
  · rcases hs with hheld | hs
    · by_cases hpower : c = .powerOnReset
      · subst hpower; cases ht; exact .inr fun c => powerOn_stands s (.taken c)
      · by_cases hswitch : ∃ m sw, c = .switchRawChange m sw
        · obtain ⟨m, sw, rfl⟩ := hswitch
          have htoggle : t = toggleRaw sw s := by
            unfold exec execSwitchRawChange at ht
            dsimp only at ht
            rw [if_pos hheld] at ht
            cases ht; rfl
          rw [htoggle]
          exact .inl (by cases sw <;> exact hheld)
        · have hsame := holdInReset.2 c s hheld hpower hlow fun m sw h => hswitch ⟨m, sw, h⟩
          rw [hsame] at ht
          cases ht; exact .inl hheld
    · exact .inr fun d => (exec_leaves hlow ht).angle hsound (.taken d) (by simp) (hs d)

theorem step_causesTaken {s t : State} (hstep : step s = .next t) (hsound : trackerSound s.tracker = true)
    (hs : CausesTaken s) : CausesTaken t :=
  (step_keeps_of_exec (P := fun u => trackerSound u.tracker = true ∧ CausesTaken u)
    (fun _ q h => ⟨h.1, h.2.imp_right fun h c => stands_pending (h c) q⟩)
    (fun _ _ _ hexec h => ⟨(exec_moves hexec).keeps (P := fun u => trackerSound u.tracker = true)
      (fun _ _ => Move.trackerSound) h.1, exec_causesTaken hexec h.1 h.2⟩) hstep ⟨hsound, hs⟩).2

/-! ### The ceilings -/

theorem ceilingsComposed_iff (s : State) : ceilingsComposed s = true ↔ Invariant.composed.Stands s := by
  simp only [ceilingsComposed, Bool.and_eq_true, beq_iff_eq]
  rfl

/-- Settles O54: each command composes the ceilings wherever it moves a term, and restates a demand above them. -/
theorem ceilingsKept : Obligations.CeilingsKept := by
  intro s t hcomposed hwithin hstep
  exact ⟨(ceilingsComposed_iff t).mpr
      (step_stands (i := .composed) nofun hstep (by simp [angleBroken]) nofun ((ceilingsComposed_iff s).mp hcomposed)),
    (standingWithin_iff t).mpr
      (step_keeps (fun _ _ h => h) (fun _ _ _ => Move.within) hstep ((standingWithin_iff s).mp hwithin))⟩

/-! ### The trip and the session -/

theorem injectionWhileCorrect_iff (s : State) :
    injectionWhileCorrect s = true ↔ (s.ring.ctx.state = .active ↔ s.session.state = .correct) := by
  simp only [injectionWhileCorrect, beq_iff_eq]
  constructor
  · intro h
    rw [← beq_iff_eq (a := s.ring.ctx.state), ← beq_iff_eq (a := s.session.state), h]
  · intro h
    rw [Bool.eq_iff_iff, beq_iff_eq, beq_iff_eq]
    exact h

/-- R126: with VALVE as its conditions, an injection is sound as soon as it is ACTIVE exactly in CORRECT. -/
theorem injection_stands {s : State} (h : s.ring.ctx.state = .active ↔ s.session.state = .correct)
    (hvalve : Invariant.valve.Stands s) : Invariant.injection.Stands s :=
  ⟨h, fun hctx => hvalve.trans (valveOpen_of_not_active hctx)⟩

/-- R88, R115, R144: what a set latch holds follows from the ceilings, the session and the injection. -/
theorem tripHolds_of_stands {s : State} (hlatched : Invariant.latched.Stands s) (hcomposed : Invariant.composed.Stands s)
    (hinj : Invariant.injection.Stands s) : tripHolds s = true := by
  have hlatched' : (s.session.state == .tripped) = s.trip.latch := by
    rw [Bool.eq_iff_iff, beq_iff_eq]
    exact hlatched
  simp only [tripHolds, hlatched', beq_self_eq_true, Bool.true_and]
  cases hlatch : s.trip.latch with
  | false => rfl
  | true =>
    obtain ⟨hspin, hagitate⟩ := hcomposed
    have hrests := ring_rests hinj (by rw [hlatched.mpr hlatch]; decide)
    rw [hrests.2, hspin, hagitate, spinCeiling_of_latched hlatch, agitateCeiling_of_latched hlatch]
    rfl

theorem latched_of_tripHolds {s : State} (h : tripHolds s = true) : Invariant.latched.Stands s := by
  simp only [tripHolds, Bool.and_eq_true, beq_iff_eq] at h
  exact ⟨fun hstate => by rw [← h.1, hstate]; rfl, fun hlatch => beq_iff_eq.mp (h.1.trans hlatch)⟩

/-- Settles O55: each invariant by `step_stands`, the TRIP line and the orphan stop by the moves. -/
theorem tripAndSessionKept : Obligations.TripAndSessionKept := by
  refine ⟨fun s t hline hholds hcauses hcomposed hcorrect hvalve hsound hstep => ?_, fun s t hstep => ?_⟩
  · have hvalveStands : Invariant.valve.Stands s := beq_iff_eq.mp hvalve
    have hinj := injection_stands ((injectionWhileCorrect_iff s).mp hcorrect) hvalveStands
    have hcomposed' : Invariant.composed.Stands t :=
      step_stands (i := .composed) nofun hstep (by simp [angleBroken]) nofun ((ceilingsComposed_iff s).mp hcomposed)
    have hlatched' : Invariant.latched.Stands t :=
      step_stands (i := .latched) nofun hstep (by simp [angleBroken]) nofun (latched_of_tripHolds hholds)
    have hinj' : Invariant.injection.Stands t :=
      step_stands (i := .injection) nofun hstep (by simp [angleBroken]) nofun hinj
    have hvalve' : Invariant.valve.Stands t :=
      step_stands (i := .valve) nofun hstep (by simp [angleBroken]) (fun _ => hinj) hvalveStands
    exact ⟨step_keeps (P := fun u => tripLine u = true) (fun _ _ h => h) (fun _ _ _ => Move.tripLine) hstep hline,
      tripHolds_of_stands hlatched' hcomposed' hinj',
      (causesTaken_iff t).mpr (step_causesTaken hstep hsound ((causesTaken_iff s).mp hcauses)),
      (ceilingsComposed_iff t).mpr hcomposed', (injectionWhileCorrect_iff t).mpr hinj'.1, beq_iff_eq.mpr hvalve',
      step_trackerSound hstep hsound⟩
  · exact ⟨step_stands (i := .plateau) nofun hstep (by simp [angleBroken]) nofun,
      step_stands (i := .passed) nofun hstep (by simp [angleBroken]) nofun,
      step_stands (i := .corrections) nofun hstep (by simp [angleBroken]) nofun,
      fun hsound => step_stands (i := .bleed) nofun hstep (fun _ => hsound) nofun,
      step_keeps (P := fun u => orphanWhileSilent u = true) (fun _ _ h => h) (fun _ _ _ => Move.orphanWhileSilent) hstep⟩

/-! ### The events -/

theorem liveFollows_iff (s : State) : liveFollows s = true ↔ ∀ k, (Invariant.live k).Stands s := by
  have hmem : ∀ k : Kind, k ∈ allKinds := fun k => by cases k <;> decide
  simp only [liveFollows, List.all_eq_true, beq_iff_eq]
  exact ⟨fun h k => h k (hmem k), fun h k _ => h k⟩

/-- R149, R154: on a busy Port C a notice or report takes its place, or is skipped. -/
theorem offered_busy {p : PortC} (h : p.sending ≠ none) (same : QFrame → Bool) (f : QFrame) (now : Time) :
    (p.offerLocal same f).kick now = { p with
      localQ := if p.localQ.any same then replaceFirst same f p.localQ
        else if p.localQ.length < 4 then p.localQ ++ [f] else p.localQ } := by
  rw [PortC.kick_busy (by simpa using h)]
  unfold PortC.offerLocal
  by_cases hsame : p.localQ.any same = true
  · rw [if_pos hsame, if_pos hsame]
  · rw [if_neg hsame, if_neg hsame]
    by_cases hroom : p.localQ.length < 4
    · rw [if_pos hroom, if_pos (show p.localQ.length < Config.localCapacity from hroom)]
    · rw [if_neg hroom, if_neg (show ¬p.localQ.length < Config.localCapacity from hroom)]

/-- R149, R154: on an idle Port C with nothing waiting it leaves at once. -/
theorem offered_idle {p : PortC} (hsending : p.sending = none) (hl : p.localQ = []) (hf : p.forwardedQ = [])
    (same : QFrame → Bool) (f : QFrame) (now : Time) :
    (p.offerLocal same f).kick now = { p with
      seq := p.seq + 1, mark := .localQ
      sending := some { bytes := frameBytes f.cls p.seq f.payload, start := now } } := by
  obtain ⟨fq, lq, seq, sending, mark⟩ := p
  subst hsending hl hf
  rfl

/-- R149: the latches and the counts after a latching. -/
theorem latched_at (k : Kind) (e : Events) (j : Fin 16) :
    (e.latched k.number).latch.getLsbD j.val = (if j = k.number then true else e.latch.getLsbD j.val) ∧
      (e.latched k.number).counts[j] = (if j = k.number then e.counts[j] + 1 else e.counts[j]) := by
  by_cases h : j = k.number
  · subst h
    rw [if_pos rfl, if_pos rfl]
    exact ⟨latched_latch _ _, latched_counts _ _⟩
  · rw [if_neg h, if_neg h]
    exact ⟨setBit_other _ _ (Fin.val_ne_of_ne h), by simp [Events.latched, Ne.symm (Fin.val_ne_of_ne h)]⟩

/-- Table 1-7: the notice that a latching makes. -/
theorem noticeFrame_latched (s : State) (k : Kind) :
    noticeFrame s (s.events.latched k.number) k =
      { cls := 0x3E
        payload := [BitVec.ofNat 8 k.number.val, if s.events.live.getLsbD k.number.val then 1 else 0,
            s.events.counts[k.number] + 1, s.session.state.code] ++ be16 (BitVec.ofNat 16 s.indexSpeed) ++
          be16 (BitVec.ofNat 16 s.est.u) ++ [BitVec.ofNat 8 (if s.trip.latch then causeCode s.trip.first else 0), 0]
        changed := false
        restated := false } := by
  rw [noticeFrame, latched_counts]
  rfl

/-- R149: a latching moves the event unit and Port C, and its notice is `noticeFrame`. -/
theorem latchKind_frame (k : Kind) (s : State) :
    latchKind k s = { s with
      events := { s.events with
        latch := (latchKind k s).events.latch, counts := (latchKind k s).events.counts, attn := (latchKind k s).events.attn }
      portC := (latchKind k s).portC } := rfl

theorem latchKind_portC_quiet {k : Kind} {s : State} (h : s.events.report.getLsbD k.number.val = false) :
    (latchKind k s).portC = s.portC :=
  if_neg (by rw [h]; decide)

theorem latchKind_portC_report {k : Kind} {s : State} (h : s.events.report.getLsbD k.number.val = true) :
    (latchKind k s).portC =
      (s.portC.offerLocal (sameNotice k) (noticeFrame s (s.events.latched k.number) k)).kick s.now :=
  if_pos h

/-! ### The report -/

/-- R155: the event unit with the revolution number advanced. -/
def nextRev (s : State) : State := { s with events := { s.events with revNumber := s.events.revNumber + 1 } }

theorem reportClose_eq (s : State) :
    reportClose s =
      if s.service.reportEvery = 0 then
        { nextRev s with events := { (nextRev s).events with reportCount := 0 } }
      else if s.service.reportEvery ≤ s.events.reportCount + 1 then makeReport (nextRev s)
      else { nextRev s with events := { (nextRev s).events with reportCount := s.events.reportCount + 1 } } := rfl

/-- Settles O57: each live value and ATTN are kept by every step; a latching and a report are as their definitions. -/
theorem eventsAndNoticesKept : Obligations.EventsAndNoticesKept := by
  refine ⟨fun s t hlive hattn hsound hstep => ?_, fun s t hdistinct hstep => ?_, fun k s => ?_, fun s => ?_⟩
  · have hlive' : ∀ k, (Invariant.live k).Stands t := fun k =>
      step_stands (i := .live k) nofun hstep (fun _ => hsound) nofun ((liveFollows_iff s).mp hlive k)
    exact ⟨(liveFollows_iff t).mpr hlive',
      step_keeps (P := fun u => attnFollows u = true) (fun _ _ h => h) (fun _ _ _ => Move.attnFollows) hstep hattn,
      step_trackerSound hstep hsound⟩
  · exact (localDistinct_iff t).mpr
      (step_keeps (P := fun u => Distinct u.portC.localQ) (fun _ _ h => h) (fun _ _ _ => Move.distinct) hstep
        ((localDistinct_iff s).mp hdistinct))
  · refine ⟨fun j => latched_at k s.events j, ?_, latchKind_portC_quiet, fun hreport hbusy => ?_,
      fun hreport hidle hl hf => ?_, latchKind_frame k s⟩
    · rw [latchKind_events, Bool.eq_iff_iff, decide_eq_true_eq]
      exact bne_iff_ne
    · rw [latchKind_portC_report hreport, offered_busy hbusy, noticeFrame_latched]
      rfl
    · rw [latchKind_portC_report hreport, offered_idle hidle hl hf, noticeFrame_latched]
  · rw [reportClose_eq]
    dsimp only
    by_cases hzero : s.service.reportEvery = 0
    · rw [if_pos hzero]
      refine ⟨by rw [if_pos (by omega)]; rfl, fun _ => rfl, fun h => absurd hzero (by omega), fun h => absurd hzero (by omega), rfl⟩
    · rw [if_neg hzero]
      by_cases hdue : s.service.reportEvery ≤ s.events.reportCount + 1
      · rw [if_pos hdue]
        refine ⟨by rw [if_pos hdue]; rfl, fun h => absurd h (by omega), fun _ _ hbusy => ?_, fun _ _ hidle hl hf => ?_, rfl⟩
        · exact offered_busy (p := s.portC) hbusy isReport (reportFrame (nextRev s)) s.now
        · exact offered_idle (p := s.portC) hidle hl hf isReport (reportFrame (nextRev s)) s.now
      · rw [if_neg hdue]
        exact ⟨by rw [if_neg hdue]; rfl, fun _ => rfl, fun _ h => absurd h hdue, fun _ h => absurd h hdue, rfl⟩

end Sys2Proof.Machine
end

section
/-! SUPPORT. An accepted WRITE of any object but the spin settings while Port C transmits: what is stored, the answer, and
the effects that follow (R164). -/

namespace Sys2Proof.Machine

open Sys2Proof.Safety

/-! ### What is found, stored and answered -/

/-- R164: the front request is a WRITE that is accepted, of any object but the spin settings, and Port C transmits. -/
structure WriteFound (s : State) (tag obj index : Byte) (ws : List Word) (rest : List Request) : Prop where
  live : s.held = false
  front : s.requests = { tag := tag, op := 2, object := obj, index := index, data := ws.flatMap be16 } :: rest
  room : s.portC.localQ.length < 4
  busy : s.portC.sending ≠ none
  some : 0 < ws.length
  few : ws.length ≤ 10
  object : obj ∈ settingsList ∨ obj = 0x51
  other : obj ≠ 0x20
  inside : index.toNat + ws.length ≤ writableSize obj
  ordinary : obj = 0x01 → ∀ k < ws.length, index.toNat + k ∉ [0x11, 0x31, 0x3C, 0x3D, 0x3E, 0x3F]
  idle : idleOnly obj = true → s.session.state = .idle
  free : limitLocked s obj index.toNat ws.length = false

/-- R164: the elements as they are stored. -/
def storedWords (s : State) (obj index : Byte) (ws : List Word) : List Word :=
  ws.mapIdx fun k w => storedWord s.spin.chamberCap obj (index.toNat + k) w

/-- R164: the answer to an accepted WRITE: OK, or CLAMPED where an element was stored other than given. -/
def writeAnswer (tag obj : Byte) (ws out : List Word) : QFrame :=
  { cls := 0x3D, payload := [tag, 2, if obj = 0x01 ∨ out = ws then 0 else 1, obj] ++ out.flatMap be16
    changed := false, restated := false }

/-- R164: the state with the elements stored and the answer queued, before the effects. -/
def writeStored (m : Moment) (tag obj index : Byte) (ws : List Word) (rest : List Request) (s : State) : State :=
  { storeElements obj index.toNat ws { tick m s with requests := rest } with
    portC := { s.portC with localQ := s.portC.localQ ++ [writeAnswer tag obj ws (storedWords s obj index ws)] } }

theorem responseFrame_write (tag obj index : Byte) (data : List Byte) (ws out : List Word) :
    responseFrame { tag := tag, op := 2, object := obj, index := index, data := data }
      (if (obj != 0x01 && out != ws) = true then stClamped else stOk) out = writeAnswer tag obj ws out := by
  have hstatus : (if (obj != 0x01 && out != ws) = true then stClamped else stOk) =
      if obj = 0x01 ∨ out = ws then (0 : Byte) else 1 := by
    by_cases hobj : obj = 0x01
    · simp [hobj, stOk]
    · by_cases hout : out = ws <;> simp [hout, stOk, stClamped]
  rw [hstatus]
  rfl

theorem objectWords_length_writable {o : Byte} (h : o ∈ settingsList ∨ o = 0x51) (s : State) :
    (s.objectWords o).length = (objectSize o).getD 0 := by
  have hlength := objectWords_length { s with session := Session.reset } o (Nat.zero_le _)
  simp only [settingsList, List.mem_cons, List.not_mem_nil, or_false, or_assoc] at h
  rcases h with rfl | rfl | rfl | rfl | rfl | rfl | rfl | rfl | rfl | rfl | rfl <;> exact hlength

theorem writableSize_le (o : Byte) : writableSize o ≤ (objectSize o).getD 0 := by
  unfold writableSize
  split_ifs with h
  · subst h; decide
  · exact Nat.le_refl _

theorem drop_take_splice {α : Type} {a : List α} (out c : List α) {i : Nat} (h : a.length = i) :
    ((a ++ out ++ c).drop i).take out.length = out := by
  rw [List.append_assoc, List.drop_left' h, List.take_left' rfl]

/-- R163, R164: the elements of an accepted write read back as they were stored. -/
theorem readWords_of_splice {s t : State} {obj : Byte} {i : Nat} {out : List Word}
    (h : t.objectWords obj = (s.objectWords obj).take i ++ out ++ (s.objectWords obj).drop (i + out.length))
    (hi : i ≤ (s.objectWords obj).length) : t.readWords obj i out.length = out := by
  rw [State.readWords, h]
  exact drop_take_splice out _ (List.length_take_of_le hi)

namespace WriteFound

variable {s : State} {tag obj index : Byte} {ws : List Word} {rest : List Request}

theorem size (h : WriteFound s tag obj index ws rest) :
    ∃ size, objectSize obj = Option.some size ∧ writableSize obj ≤ size := by
  have hobject := h.object
  simp only [settingsList, List.mem_cons, List.not_mem_nil, or_false, or_assoc] at hobject
  rcases hobject with rfl | rfl | rfl | rfl | rfl | rfl | rfl | rfl | rfl | rfl | rfl <;>
    exact ⟨_, rfl, by decide⟩

theorem writable (h : WriteFound s tag obj index ws rest) {k : Nat} (hk : k < ws.length) :
    elementReadOnly obj (index.toNat + k) = false := by
  have hinside := h.inside
  rw [← Bool.not_eq_true, elementReadOnly_iff obj (fun h01 => by subst h01; change _ ≤ 64 at hinside; omega)]
  have hobject := h.object
  rintro (rfl | rfl | rfl | rfl | rfl | ⟨rfl, hfour⟩ | ⟨h01, hmem⟩)
  · exact absurd hobject (by decide)
  · exact absurd hobject (by decide)
  · exact absurd hobject (by decide)
  · exact absurd hobject (by decide)
  · exact absurd hobject (by decide)
  · change _ ≤ 4 at hinside; omega
  · exact h.ordinary h01 k hk hmem

theorem accepted (h : WriteFound s tag obj index ws rest) {u : State} (hsession : u.session = s.session)
    (hlimits : u.limits = s.limits) :
    writeFailure { tag := tag, op := 2, object := obj, index := index, data := ws.flatMap be16 } u = none := by
  have hwords : (⟨tag, 2, obj, index, ws.flatMap be16⟩ : Request).words = ws := dataWords_flatMap_be16 ws
  obtain ⟨size, hsize, hle⟩ := h.size
  refine writeFailure_eq_none hsize ?_ ?_ ?_ ?_ ?_
  · have hlength := flatMap_be16_length ws
    have hsome := h.some
    have hfew := h.few
    rw [← Bool.not_eq_true, badWrite_iff]
    dsimp only
    omega
  · rw [hwords]; exact h.inside.trans hle
  · rw [hwords]; exact fun k hk => h.writable hk
  · rw [hsession]; exact h.idle
  · rw [hwords, limitLocked, hlimits]; exact h.free

/-- R164: the object after the storing: the elements stored laid over those that stood. -/
theorem stored_words (h : WriteFound s tag obj index ws rest) {u : State} (hspin : u.spin = s.spin) :
    (storeElements obj index.toNat ws u).objectWords obj =
      (u.objectWords obj).take index.toNat ++ storedWords s obj index ws ++
        (u.objectWords obj).drop (index.toNat + ws.length) := by
  rw [storeElements_objectWords h.other h.object index.toNat ws u h.inside h.ordinary, hspin]
  · rfl
  · rw [objectWords_length_writable h.object]
    exact writableSize_le obj

theorem storedWords_length : (storedWords s obj index ws).length = ws.length := List.length_mapIdx

theorem read_stored (h : WriteFound s tag obj index ws rest) {u : State} (hspin : u.spin = s.spin) :
    (storeElements obj index.toNat ws u).readWords obj index.toNat ws.length = storedWords s obj index ws := by
  have hlength : (storedWords s obj index ws).length = ws.length := storedWords_length
  have hinside := h.inside
  have hle := writableSize_le obj
  rw [← hlength]
  refine readWords_of_splice (s := u) ?_ ?_
  · rw [hlength]; exact h.stored_words hspin
  · rw [objectWords_length_writable h.object]; omega

/-- R164: an accepted write is stored and answered, and its effects follow. -/
theorem exec (h : WriteFound s tag obj index ws rest) (m : Moment) :
    Machine.exec (.write m) s =
      .next (writeEffects m.choice obj index.toNat ws.length (writeStored m tag obj index ws rest s)) := by
  rw [exec_write m h.live h.front rfl h.room]
  refine congrArg Host.Outcome.next ?_
  generalize hu : ({ tick m s with requests := rest } : State) = u
  have hsession : u.session = s.session := by rw [← hu]; simp
  have hlimits : u.limits = s.limits := by rw [← hu]; simp
  have hspin : u.spin = s.spin := by rw [← hu]; simp
  have hport : u.portC = s.portC := by rw [← hu]; simp
  have hwords : (⟨tag, 2, obj, index, ws.flatMap be16⟩ : Request).words = ws := dataWords_flatMap_be16 ws
  have hread := h.read_stored hspin
  have hbusy : (storeElements obj index.toNat ws u).portC.sending ≠ none := by
    rw [(storeElements_same obj index.toNat ws u).portC, hport]; exact h.busy
  rw [runWrite, h.accepted hsession hlimits]
  dsimp only
  rw [runAccepted]
  dsimp only
  rw [hwords, storeWrite_eq_storeElements h.other, hread, respond_busy hbusy]
  have hclamped : writeClamped obj index.toNat ws u = (obj != 0x01 && storedWords s obj index ws != ws) := by
    rw [writeClamped, storeWrite_eq_storeElements h.other, hread]
    simp
  rw [hclamped, responseFrame_write, (storeElements_same obj index.toNat ws u).portC, hport, writeStored, hu]

end WriteFound

/-! ### A write of one element -/

/-- R164: the front request is an accepted WRITE of one element. -/
theorem WriteFound.one {s : State} {tag obj index : Byte} {w : Word} {rest : List Request} (hlive : s.held = false)
    (hfront : s.requests = { tag := tag, op := 2, object := obj, index := index, data := be16 w } :: rest)
    (hroom : s.portC.localQ.length < 4) (hbusy : s.portC.sending ≠ none) (hobject : obj ∈ settingsList ∨ obj = 0x51)
    (hother : obj ≠ 0x20) (hinside : index.toNat < writableSize obj)
    (hordinary : obj = 0x01 → index.toNat ∉ [0x11, 0x31, 0x3C, 0x3D, 0x3E, 0x3F])
    (hidle : idleOnly obj = true → s.session.state = .idle) (hfree : limitLocked s obj index.toNat 1 = false) :
    WriteFound s tag obj index [w] rest where
  live := hlive
  front := by simpa using hfront
  room := hroom
  busy := hbusy
  some := Nat.one_pos
  few := by simp
  object := hobject
  other := hother
  inside := hinside
  ordinary h k hk := by
    obtain rfl : k = 0 := by simpa using hk
    exact hordinary h
  idle := hidle
  free := hfree

theorem storedWords_one (s : State) (obj index : Byte) (w : Word) :
    storedWords s obj index [w] = [storedWord s.spin.chamberCap obj index.toNat w] := rfl

theorem uWord_eq_iff {n : Nat} (h : n < 65536) (w : Word) : uWord n = w ↔ n = w.toNat := by
  rw [uWord, ← BitVec.toNat_inj, BitVec.toNat_ofNat, Nat.mod_eq_of_lt h]

/-- R164: the answer to a write of one element that is no class entry. -/
theorem writeAnswer_one (tag : Byte) {obj : Byte} (hobj : obj ≠ 0x01) (w : Word) {n : Nat} (h : n < 65536) :
    writeAnswer tag obj [w] [uWord n] =
      { cls := 0x3D, payload := [tag, 2, if n = w.toNat then 0 else 1, obj] ++ be16 (BitVec.ofNat 16 n)
        changed := false, restated := false } := by
  have hone : obj = 0x01 ∨ [uWord n] = [w] ↔ n = w.toNat := by
    rw [List.cons.injEq, uWord_eq_iff h]
    exact ⟨fun hor => (hor.resolve_left hobj).1, fun hn => .inr ⟨hn, rfl⟩⟩
  simp only [writeAnswer, hone, List.flatMap_cons, List.flatMap_nil, List.append_nil]
  rfl

end Sys2Proof.Machine
end

section
/-! SUPPORT. The writes of the limits, of a table, of the chamber contents and of the class table. -/

namespace Sys2Proof.Machine

open Sys2Proof.Safety

/-! ### What the effects of a write leave -/

/-- The answer stands while the effects follow. -/
theorem writeStored_answer {s : State} {tag obj index : Byte} {ws : List Word} {rest : List Request}
    (h : WriteFound s tag obj index ws rest) (m : Moment) :
    AnswerStands s.portC.localQ.length (writeAnswer tag obj ws (storedWords s obj index ws))
      (writeStored m tag obj index ws rest s) :=
  ⟨h.busy, by simp [writeStored]⟩

theorem limitWritten_est (ch : Choice) (idx n : Nat) (s : State) : (limitWritten ch idx n s).est = s.est := by
  refine inOrder_keeps (fun u => u.est = s.est) rfl fun f hf u hu => ?_
  rcases List.mem_pair.mp hf with rfl | rfl
  · unfold onlyIf; split
    · simpa using hu
    · exact hu
  · simpa using hu

/-- R89: a limit set, the ceilings are composed. -/
theorem limitWritten_composed (ch : Choice) {idx n : Nat} (h : touches idx n 0 = true) (s : State) :
    (limitWritten ch idx n s).composed := by
  refine inOrder_brings (Invariant.composed.Stands) (fun f hf u hu => ?_) ⟨_, List.mem_cons_self, onlyIf_stands h recompose_stands⟩
  rcases List.mem_pair.mp hf with rfl | rfl
  · exact KeepsAll.onlyIf recompose_keepsAll u _ List.not_mem_nil hu
  · exact judgeCauses_keepsAll ch _ u _ List.not_mem_nil hu

theorem spinCeiling_le_abs {s : State} {a : Nat} (h : s.limits.abs = some a) : s.spinCeiling ≤ a :=
  spinCeiling_le_of_mem (by simp [State.spinTerms, h])

theorem agitateCeiling_le_abs {s : State} {a : Nat} (h : s.limits.abs = some a) : s.agitateCeiling ≤ a := by
  unfold State.agitateCeiling
  rw [h]
  split
  · exact Nat.zero_le _
  · exact Nat.min_le_right _ _

/-! ### ABS_LIMIT -/

/-- Settles O47: the limit stored and answered, and the ceilings composed under it. -/
theorem absLimitSet : Obligations.AbsLimitSet := by
  intro m s tag w rest hlive hfront hroom hbusy habs _
  have hfound : WriteFound s tag 0x30 0 [w] rest :=
    .one hlive hfront hroom hbusy (by decide) (by decide) (by decide) (by decide) (by rintro ⟨⟩)
      (by simp [limitLocked, touches, habs])
  have hstored : storedWords s 0x30 0 [w] = [uWord (max 300 (min 1500 w.toNat))] := by
    rw [storedWords_one, ← clampNat_eq_max_min (by decide)]
    rfl
  have hbound : max 300 (min 1500 w.toNat) < 65536 := by omega
  have hanswer := writeStored_answer hfound m
  rw [hstored, writeAnswer_one tag (by decide) w hbound] at hanswer
  generalize hv : writeStored m tag 0x30 0 [w] rest s = v at hanswer
  have heffects := limitWritten_effects m.choice 0 1 v
  have hinputs := heffects.sameInputs
  have hlimits : v.limits = { s.limits with abs := some (max 300 (min 1500 w.toNat)) } := by
    rw [← hv, ← clampNat_eq_max_min (by decide)]
    rfl
  have hlimits' : (limitWritten m.choice 0 1 v).limits = { s.limits with abs := some (max 300 (min 1500 w.toNat)) } :=
    hinputs.limits.trans hlimits
  have hcomposed := limitWritten_composed m.choice (idx := 0) (n := 1) (by decide) v
  have habs' : (limitWritten m.choice 0 1 v).limits.abs = some (max 300 (min 1500 w.toNat)) := by rw [hlimits']
  refine ⟨limitWritten m.choice 0 1 v, (hfound.exec m).trans (by rw [hv]; rfl), hlimits', ?_, ?_,
    (ceilingsComposed_iff _).mpr hcomposed, ?_, ?_, ?_, ?_, ?_, ?_, ?_⟩
  · rw [hcomposed.1]; exact spinCeiling_le_abs habs'
  · rw [hcomposed.2]; exact agitateCeiling_le_abs habs'
  · have hrange : max 300 (min 1500 w.toNat) = w.toNat ↔ 300 ≤ w.toNat ∧ w.toNat ≤ 1500 := by omega
    simp only [hrange] at hanswer
    exact (heffects.answerStands rfl hanswer).2
  · rw [hinputs.requests, ← hv]; rfl
  · rw [hinputs.spin, ← hv]; rfl
  · rw [hinputs.tables, ← hv]; rfl
  · rw [hinputs.service, ← hv]; rfl
  · rw [limitWritten_est, ← hv]; rfl
  · rw [hinputs.tracker, ← hv]; rfl

end Sys2Proof.Machine
end

section
/-! SUPPORT. The parts of `Obligations.WriteAnswered` but for the service settings and the longer writes. -/

namespace Sys2Proof.Machine

open Sys2Proof.Safety

/-! ### Refusals -/

/-- R160, R164: the failure of a WRITE, with its conditions written out. -/
theorem writeFailure_of_conditions {r : Request} {s : State} {readOnly : Nat → Bool} {settings locked : Bool}
    (hro : ∀ k, (r.object = 0x01 → k < 64) → (readOnly k = true ↔ elementReadOnly r.object k = true))
    (hsettings : settings = true ↔ idleOnly r.object = true)
    (hlocked : 0 < r.data.length / 2 → (locked = true ↔ limitLocked s r.object r.index.toNat (r.data.length / 2) = true)) :
    writeFailure r s =
      (match objectSize r.object with
        | none => some 3
        | some size =>
          if r.data.length % 2 = 1 ∨ r.data.length = 0 ∨ 20 < r.data.length then some 5
          else if size < r.index.toNat + r.data.length / 2 then some 4
          else if (List.range (r.data.length / 2)).any (fun k => readOnly (r.index.toNat + k)) then some 6
          else if settings = true ∧ s.session.state ≠ .idle then some 7
          else if locked = true then some 8
          else none) := by
  rw [writeFailure_eq]
  cases hsize : objectSize r.object with
  | none => rfl
  | some size =>
    dsimp only
    refine ite_congr rfl (fun _ => rfl) fun hdata => ite_congr rfl (fun _ => rfl) fun hindex => ?_
    have hclass : r.object = 0x01 → size = 64 := fun h => by
      rw [h] at hsize
      exact (Option.some.inj hsize).symm
    have hany : (List.range (r.data.length / 2)).any (fun k => elementReadOnly r.object (r.index.toNat + k)) =
        (List.range (r.data.length / 2)).any fun k => readOnly (r.index.toNat + k) := by
      rw [Bool.eq_iff_iff, List.any_eq_true, List.any_eq_true]
      refine exists_congr fun k => and_congr_right fun hk => (hro _ fun h => ?_).symm
      have := List.mem_range.mp hk
      have := hclass h
      omega
    rw [hany, Bool.eq_iff_iff.mpr hsettings, Bool.eq_iff_iff.mpr (hlocked (by omega))]

/-- R160, R164: a WRITE that fails a check. -/
theorem write_refused (m : Moment) {s : State} {r : Request} {rest : List Request} {status : Byte} (hheld : s.held = false)
    (hfront : s.requests = r :: rest) (hop : r.op = 2) (hroom : s.portC.localQ.length < 4)
    (hbusy : s.portC.sending ≠ none) (hfail : writeFailure r { tick m s with requests := rest } = some status) :
    exec (.write m) s = .next { tick m s with
      requests := rest
      portC := { s.portC with
        localQ := s.portC.localQ ++
          [{ cls := 0x3D, payload := [r.tag, 2, status, r.object], changed := false, restated := false }] } } := by
  rw [exec_write m hheld hfront hop hroom, runWrite_refused hfail, respond_taken_busy hbusy]
  simp only [responseFrame, responsePayload, hop]
  rfl

/-! ### The class table -/

/-- R8, R164: an entry of the class table. -/
theorem class_written (m : Moment) {s : State} {tag index : Byte} {w : Word} {rest : List Request}
    (h : WriteFound s tag 0x01 index [w] rest) :
    exec (.write m) s = .next { tick m s with
      requests := rest
      classTable := put s.classTable index.toNat
        { atC := disposalOf (w.extractLsb' 0 8), atD := disposalOf (w.extractLsb' 8 8) }
      portC := { s.portC with
        localQ := s.portC.localQ ++
          [{ cls := 0x3D
             payload := [tag, 2, 0, 0x01, (disposalOf (w.extractLsb' 8 8)).code, (disposalOf (w.extractLsb' 0 8)).code]
             changed := false, restated := false }] } } := by
  have hbytes : be16 ((disposalOf (w.extractLsb' 8 8)).code ++ (disposalOf (w.extractLsb' 0 8)).code : Word) =
      [(disposalOf (w.extractLsb' 8 8)).code, (disposalOf (w.extractLsb' 0 8)).code] := by
    cases disposalOf (w.extractLsb' 8 8) <;> cases disposalOf (w.extractLsb' 0 8) <;> rfl
  have hanswer : writeAnswer tag 0x01 [w] (storedWords s 0x01 index [w]) =
      { cls := 0x3D
        payload := [tag, 2, 0, 0x01, (disposalOf (w.extractLsb' 8 8)).code, (disposalOf (w.extractLsb' 0 8)).code]
        changed := false, restated := false } := by
    simp only [writeAnswer, storedWords_one, storedWord, if_true, true_or, List.flatMap_cons, List.flatMap_nil, hbytes]
    rfl
  rw [h.exec m, writeStored, hanswer]
  rfl

/-! ### The tables -/

/-- R94, Tables 6-1, 10-2: the value of a table's element as it is stored. -/
def tableStored (obj : Byte) (i v : Nat) : Nat :=
  if obj = 0x10 then min 9999 v else if obj = 0x11 then min 2000 v else if obj = 0x14 then clampPlateau (i % 6) v else v

/-- The tables with an element stored. -/
def tableSet (obj : Byte) (i x : Nat) (t : Tables) : Tables :=
  if obj = 0x10 then { t with envelope := put t.envelope i x }
  else if obj = 0x11 then { t with rampLimit := put t.rampLimit i x }
  else if obj = 0x12 then { t with gain := put t.gain i x }
  else if obj = 0x13 then { t with phase := put t.phase i x }
  else if obj = 0x14 then { t with plateau := put t.plateau i x }
  else { t with weighThresh := put t.weighThresh i x }

def tableList : List Byte := [0x10, 0x11, 0x12, 0x13, 0x14, 0x15]

theorem tableStored_le (obj : Byte) (i : Nat) (w : Word) : tableStored obj i w.toNat < 65536 := by
  have hw : w.toNat < 65536 := w.isLt
  have hplateau : clampPlateau (i % 6) w.toNat ≤ 9999 := by
    unfold clampPlateau clampNat
    repeat' split
    all_goals omega
  unfold tableStored
  split_ifs <;> omega

theorem storedWord_table {obj : Byte} (h : obj ∈ tableList) (cap i : Nat) (w : Word) :
    storedWord cap obj i w = uWord (tableStored obj i w.toNat) := by
  simp only [tableList, List.mem_cons, List.not_mem_nil, or_false] at h
  rcases h with rfl | rfl | rfl | rfl | rfl | rfl <;> rfl

theorem storeElement_table {obj : Byte} (h : obj ∈ tableList) (i : Nat) (w : Word) (s : State) :
    storeElement obj i w s = { s with tables := tableSet obj i (tableStored obj i w.toNat) s.tables } := by
  simp only [tableList, List.mem_cons, List.not_mem_nil, or_false] at h
  rcases h with rfl | rfl | rfl | rfl | rfl | rfl <;> rfl

theorem writeEffects_table {obj : Byte} (h : obj ∈ tableList) (ch : Choice) (i n : Nat) (s : State) :
    writeEffects ch obj i n s = if obj = 0x10 then envelopeRevised s else s := by
  simp only [tableList, List.mem_cons, List.not_mem_nil, or_false] at h
  rcases h with rfl | rfl | rfl | rfl | rfl | rfl <;> rfl

/-- R82: with the estimate VALID a new ENVELOPE lowers E_held at once, and only lowers it. -/
theorem envelopeRevised_gov {s : State} (h : s.est.state = .valid) :
    (envelopeRevised s).gov.eNew = (envelopeRevised s).envelopeNew ∧
      (envelopeRevised s).gov.eHeld = min s.gov.eHeld (envelopeRevised s).envelopeNew ∧
      (envelopeRevised s).gov.rise = (if (envelopeRevised s).envelopeNew < s.gov.eHeld then 0 else s.gov.rise) := by
  have hnew : (envelopeRevised s).envelopeNew = s.envelopeNew := by
    unfold envelopeRevised
    rw [if_pos h]
    simp [State.envelopeNew]
  rw [hnew]
  unfold envelopeRevised
  rw [if_pos h]
  dsimp only
  rw [recompose_gov]
  refine ⟨rfl, ?_, rfl⟩
  dsimp only
  split_ifs <;> omega

theorem envelopeRevised_not_valid {s : State} (h : s.est.state ≠ .valid) : envelopeRevised s = s := if_neg h

theorem envelopeRevised_frame (s : State) :
    envelopeRevised s = { s with
      gov := (envelopeRevised s).gov, portD := (envelopeRevised s).portD, standing := (envelopeRevised s).standing
      events := (envelopeRevised s).events, portC := (envelopeRevised s).portC } := by
  unfold envelopeRevised
  split
  · apply State.eq_of_fields <;> simp
  · rfl

/-- R164: a table's element in IDLE. -/
theorem table_written (m : Moment) {s : State} {tag obj index : Byte} {w : Word} {rest : List Request}
    (h : WriteFound s tag obj index [w] rest) (hobj : obj ∈ tableList) {stored : Nat}
    (hstored : stored = tableStored obj index.toNat w.toNat) {answer : QFrame}
    (hanswer : answer = { cls := 0x3D
                          payload := [tag, 2, if stored = w.toNat then 0 else 1, obj] ++ be16 (BitVec.ofNat 16 stored)
                          changed := false, restated := false }) :
    ∃ t, exec (.write m) s = .next t ∧ t.tables = tableSet obj index.toNat stored s.tables ∧
      t.portC.localQ[s.portC.localQ.length]? = some answer ∧
      (obj = 0x10 → s.est.state = .valid →
        t.gov.eNew = t.envelopeNew ∧ t.gov.eHeld = min s.gov.eHeld t.envelopeNew ∧
          t.gov.rise = (if t.envelopeNew < s.gov.eHeld then 0 else s.gov.rise)) ∧
      (obj ≠ 0x10 ∨ s.est.state ≠ .valid →
        t = { tick m s with
          requests := rest, tables := t.tables, portC := { s.portC with localQ := s.portC.localQ ++ [answer] } }) ∧
      t = { tick m s with
        requests := rest, tables := t.tables, gov := t.gov, portD := t.portD, standing := t.standing
        events := t.events, portC := t.portC } := by
  have hclass : obj ≠ 0x01 := by rintro rfl; exact absurd hobj (by decide)
  have hframe : writeAnswer tag obj [w] (storedWords s obj index [w]) = answer := by
    rw [hanswer, hstored, storedWords_one, storedWord_table hobj, writeAnswer_one tag hclass w (tableStored_le _ _ w)]
  have hstands := writeStored_answer h m
  have hv : writeStored m tag obj index [w] rest s = { tick m s with
      requests := rest, tables := tableSet obj index.toNat stored s.tables
      portC := { s.portC with localQ := s.portC.localQ ++ [answer] } } := by
    rw [writeStored, hframe, storeElements, storeElements, storeElement_table hobj, hstored]
    rfl
  rw [hframe, hv] at hstands
  refine ⟨_, h.exec m, ?_⟩
  rw [writeEffects_table hobj, hv]
  by_cases henvelope : obj = 0x10
  · rw [if_pos henvelope]
    generalize hu : ({ tick m s with
      requests := rest, tables := tableSet obj index.toNat stored s.tables
      portC := { s.portC with localQ := s.portC.localQ ++ [answer] } } : State) = u at hstands
    have htables : u.tables = tableSet obj index.toNat stored s.tables := by rw [← hu]
    have hgov : u.gov = s.gov := by rw [← hu]; rfl
    have hest : u.est = s.est := by rw [← hu]; rfl
    have htables' : (envelopeRevised u).tables = u.tables := (envelopeRevised_effects u).sameInputs.tables
    refine ⟨htables'.trans htables, ((envelopeRevised_effects u).answerStands (by rw [hanswer]; rfl) hstands).2, fun _ hvalid => ?_, fun hor => ?_, ?_⟩
    · rw [← hgov]
      exact envelopeRevised_gov (by rw [hest]; exact hvalid)
    · have hnot : u.est.state ≠ .valid := by rw [hest]; exact hor.resolve_left (not_not.mpr henvelope)
      rw [envelopeRevised_not_valid hnot, htables, ← hu]
    · rw [htables', htables]
      refine (envelopeRevised_frame u).trans ?_
      rw [← hu]
  · rw [if_neg henvelope]
    exact ⟨rfl, hstands.2, fun hobj => absurd hobj henvelope, fun _ => rfl, rfl⟩

/-! ### The chamber contents -/

/-- R121, R122, R164: a chamber content in IDLE. -/
theorem contents_written (m : Moment) {s : State} {tag index : Byte} {w : Word} {rest : List Request}
    (h : WriteFound s tag 0x51 index [w] rest) {stored : Nat} (hstored : stored = min s.spin.chamberCap w.toNat) :
    ∃ t, exec (.write m) s = .next t ∧
      (t.ring = { (tick m s).ring with contents := put s.ring.contents index.toNat stored } ∧
        t.events.live.getLsbD 6 = t.ring.contents.toList.any (fun g => g == s.spin.chamberCap) ∧
        t.portC.localQ[s.portC.localQ.length]? = some
          { cls := 0x3D
            payload := [tag, 2, if stored = w.toNat then 0 else 1, 0x51] ++ be16 (BitVec.ofNat 16 stored)
            changed := false
            restated := false }) ∧
      t = { tick m s with requests := rest, ring := t.ring, events := t.events, portC := t.portC } := by
  have hw : w.toNat < 65536 := w.isLt
  have hstands := writeStored_answer h m
  have hword : storedWords s 0x51 index [w] = [uWord stored] := by rw [hstored]; rfl
  rw [hword, writeAnswer_one tag (by decide) w (by omega)] at hstands
  generalize hv : writeStored m tag 0x51 index [w] rest s = v at hstands
  have hring : v.ring = { (tick m s).ring with contents := put s.ring.contents index.toNat stored } := by
    rw [← hv, hstored]; rfl
  have hring' : (judgeLive .ringFull v).ring = v.ring := by simp
  refine ⟨judgeLive .ringFull v, (h.exec m).trans (by rw [hv]; rfl), ⟨hring'.trans hring, ?_, ?_⟩, ?_⟩
  · rw [hring']
    refine (judgeLive_live .ringFull v).trans ?_
    rw [← hv]
    rfl
  · exact (judgeLive_answerStands rfl hstands .ringFull).2
  · refine (judgeLive_frame .ringFull v).trans ?_
    rw [hring', ← hv]
    rfl

/-! ### TRIP_MASS -/

/-- R140: the write of TRIP_MASS alone judges the cause MASS. -/
theorem limitWritten_mass (ch : Choice) (s : State) : limitWritten ch 1 1 s = judgeCause ch .mass s := by
  rw [← judgeCauses_one]
  rcases inOrder_pair ch.effects (onlyIf (touches 1 1 0) recompose) (judgeCauses ch [.mass]) s with h | h <;> exact h

/-- R140, R141, R164: TRIP_MASS set once. -/
theorem mass_written (m : Moment) {s : State} {tag : Byte} {w : Word} {rest : List Request}
    (h : WriteFound s tag 0x30 1 [w] rest) {mass : Nat} (hmass : mass = max 100 (min 9999 w.toNat)) {answer : QFrame}
    (hanswer : answer = { cls := 0x3D, payload := [tag, 2, if mass = w.toNat then 0 else 1, 0x30] ++ be16 (BitVec.ofNat 16 mass)
                          changed := false, restated := false }) :
    ∃ t, exec (.write m) s = .next t ∧ t.limits = { s.limits with mass := some mass } ∧
      t.portC.localQ[s.portC.localQ.length]? = some answer ∧
      (s.est.state = .valid → mass < s.est.u → s.trip.latch = false →
        t.trip.latch = true ∧ t.trip.first = some .mass ∧ t.trip.u = s.est.u ∧ t.session.state = .tripped ∧
          t.gov.spin = 0 ∧ t.gov.agitate = 0) ∧
      (s.est.state ≠ .valid ∨ s.est.u ≤ mass →
        t = { tick m s with
          requests := rest, limits := t.limits, portC := { s.portC with localQ := s.portC.localQ ++ [answer] } }) := by
  have hstands := writeStored_answer h m
  have hword : storedWords s 0x30 1 [w] = [uWord mass] := by rw [hmass, ← clampNat_eq_max_min (by decide)]; rfl
  rw [hword, writeAnswer_one tag (by decide) w (by omega), ← hanswer] at hstands
  have hv : writeStored m tag 0x30 1 [w] rest s = { tick m s with
      requests := rest, limits := { s.limits with mass := some mass }
      portC := { s.portC with localQ := s.portC.localQ ++ [answer] } } := by
    rw [writeStored, hword, writeAnswer_one tag (by decide) w (by omega), ← hanswer, hmass, ← clampNat_eq_max_min (by decide)]
    rfl
  rw [hv] at hstands
  generalize hu : ({ tick m s with
      requests := rest, limits := { s.limits with mass := some mass }
      portC := { s.portC with localQ := s.portC.localQ ++ [answer] } } : State) = u at hv hstands
  have hexec : exec (.write m) s = .next (judgeCause m.choice .mass u) := by
    rw [h.exec m, hv, ← limitWritten_mass]; rfl
  have heffects : Effects u (judgeCause m.choice .mass u) := by
    rw [← judgeCauses_one]; exact judgeCauses_effects m.choice [.mass] u
  have hlimits : u.limits = { s.limits with mass := some mass } := by rw [← hu]
  have hest : u.est = s.est := by rw [← hu]; rfl
  have htrip : u.trip = s.trip := by rw [← hu]; rfl
  have hholds : u.causeHolds .mass = (s.est.state == .valid && decide (mass < s.est.u)) := by
    simp only [State.causeHolds, hest, hlimits]
  refine ⟨_, hexec, heffects.sameInputs.limits.trans hlimits, (heffects.answerStands (by rw [hanswer]; rfl) hstands).2,
    fun hvalid hover hclear => ?_, fun hor => ?_⟩
  · have htrue : u.causeHolds .mass = true := by rw [hholds]; simp [hvalid, hover]
    rw [judgeCause_clear htrue (by rw [htrip]; exact hclear)]
    obtain ⟨-, -, htrip', hsession, -, hstopped⟩ := setTrip_trippedBy m.choice .mass u
    exact ⟨hstopped.latch, by rw [htrip']; rfl, by rw [htrip', ← hest]; rfl, by rw [hsession], hstopped.spin, hstopped.agitate⟩
  · have hfalse : u.causeHolds .mass = false := by
      rw [hholds]
      rcases hor with hor | hor
      · simp [hor]
      · simp [Nat.not_lt.mpr hor]
    rw [judgeCause_false hfalse, hlimits, ← hu]

end Sys2Proof.Machine
end

section
/-! SUPPORT. The writes of the service settings: the report count, the debounce times, the monitor counter (R33, R36, R155
to R158, R164). -/

namespace Sys2Proof.Machine

open Sys2Proof.Safety

/-! ### What a write of one service setting hands on -/

theorem judgeCauses_none (ch : Choice) (s : State) : judgeCauses ch [] s = s := rfl

/-- R36, R158: with no change completed and the source not written, nothing follows. -/
theorem serviceWritten_quiet (ch : Choice) {i : Nat} {s : State} (hlid : (touches i 1 1 && s.debounceDue .lid) = false)
    (hstrike : (touches i 1 2 && s.debounceDue .strike) = false) (hsource : touches i 1 3 = false) :
    serviceWritten ch i 1 s = s := by
  simp only [serviceWritten, hlid, hstrike, hsource]
  rcases inOrder_pair ch.effects (onlyIf false (judgeLive .counterSaturated)) (judgeCauses ch []) s with h | h <;> exact h

/-- R158: the source written, COUNTER_SATURATED is judged. -/
theorem serviceWritten_source (ch : Choice) (s : State) :
    serviceWritten ch 3 1 s = judgeLive .counterSaturated s := by
  have hlid : (touches 3 1 1 && s.debounceDue .lid) = false := rfl
  have hstrike : (touches 3 1 2 && s.debounceDue .strike) = false := rfl
  simp only [serviceWritten, hlid, hstrike]
  rcases inOrder_pair ch.effects (onlyIf (touches 3 1 3) (judgeLive .counterSaturated)) (judgeCauses ch []) s with h | h <;>
    exact h

/-- Table 10-2: the element of an input's debounce time. -/
def switchIndex : Switch → Nat
  | .lid => 1
  | .strike => 2

theorem serviceWritten_waiting (ch : Choice) (sw : Switch) {s : State} (h : s.debounceDue sw = false) :
    serviceWritten ch (switchIndex sw) 1 s = s := by
  cases sw with
  | lid => exact serviceWritten_quiet ch (by rw [h, Bool.and_false]) rfl rfl
  | strike => exact serviceWritten_quiet ch rfl (by rw [h, Bool.and_false]) rfl

/-- R36: what follows the completion of an input's change at a write. -/
def completedReaders (ch : Choice) (sw : Switch) : List (State → State) :=
  levelReaders sw ++ [onlyIf false (judgeLive .counterSaturated), judgeCauses ch [switchCause sw]]

theorem serviceWritten_due (ch : Choice) (sw : Switch) {s : State} (h : s.debounceDue sw = true) :
    serviceWritten ch (switchIndex sw) 1 s = inOrder ch.effects (completedReaders ch sw) (takeLevel sw s) := by
  cases sw with
  | lid =>
    have hlid : (touches 1 1 1 && s.debounceDue .lid) = true := by rw [h]; rfl
    have hstrike : (touches 1 1 2 && s.debounceDue .strike) = false := rfl
    simp only [serviceWritten, switchIndex, hlid, hstrike]
    rfl
  | strike =>
    have hlid : (touches 2 1 1 && s.debounceDue .lid) = false := rfl
    have hstrike : (touches 2 1 2 && s.debounceDue .strike) = true := by rw [h]; rfl
    simp only [serviceWritten, switchIndex, hlid, hstrike]
    rfl

theorem completedReaders_effects {ch : Choice} {sw : Switch} {f : State → State} (hf : f ∈ completedReaders ch sw)
    (u : State) : Effects u (f u) := by
  rcases List.mem_append.mp hf with hf | hf
  · exact levelReaders_effects hf u
  · rcases List.mem_pair.mp hf with rfl | rfl
    · exact .refl
    · exact judgeCauses_effects ch _ u

theorem completedReaders_keepsAll {ch : Choice} {sw : Switch} {f : State → State} (hf : f ∈ completedReaders ch sw)
    (u : State) : KeepsAll u (f u) := by
  rcases List.mem_append.mp hf with hf | hf
  · exact levelReaders_keepsAll hf u
  · rcases List.mem_pair.mp hf with rfl | rfl
    · exact .refl [] u
    · exact judgeCauses_keepsAll ch _ u

/-- The kind of an input's level. -/
def levelKind : Switch → Kind
  | .lid => .lidOpen
  | .strike => .strike

/-- R36: the change completed is what the event unit is given. -/
theorem completed_live (ch : Choice) (sw : Switch) (s : State) :
    (Invariant.live (levelKind sw)).Stands (inOrder ch.effects (completedReaders ch sw) (takeLevel sw s)) := by
  refine inOrder_brings _ (fun f hf u => completedReaders_keepsAll hf u _ List.not_mem_nil)
    ⟨judgeLive (levelKind sw), ?_, judgeLive_stands _⟩
  cases sw <;> simp [completedReaders, levelReaders, levelKind]

/-- R142: STRIKE has set the latch. -/
def StrikeTripped (s : State) : Prop := s.trip.latch = true ∧ s.trip.first = some .strike

/-- R142: STRIKE judged high sets a clear latch, and leaves its own standing. -/
theorem judgeCauses_strike (ch : Choice) {s : State} (hhigh : s.causeHolds .strike = true)
    (h : s.trip.latch = false ∨ StrikeTripped s) : StrikeTripped (judgeCauses ch [.strike] s) := by
  rw [judgeCauses_one]
  rcases h with hclear | ⟨hlatch, hfirst⟩
  · rw [judgeCause_clear hhigh hclear]
    obtain ⟨-, -, htrip, -, -, hstopped⟩ := setTrip_trippedBy ch .strike s
    exact ⟨hstopped.latch, by rw [htrip]; rfl⟩
  · rw [judgeCause_set hhigh hlatch]
    exact ⟨hlatch, hfirst⟩

/-- R36, R38, R142: STRIKE high at the completion sets a clear latch. -/
theorem completed_strike (ch : Choice) {s : State} (hraw : s.strike.raw = true) (hclear : s.trip.latch = false) :
    StrikeTripped (inOrder ch.effects (completedReaders ch .strike) (takeLevel .strike s)) := by
  have hkeeps : ∀ f ∈ completedReaders ch .strike, ∀ u : State, u.strike.debounced = true →
      (u.trip.latch = false ∨ StrikeTripped u) →
      (f u).strike.debounced = true ∧ (StrikeTripped (f u) ∨ (f u).trip = u.trip) := by
    intro f hf u hhigh hlatch
    refine ⟨by rw [(completedReaders_effects hf u).sameInputs.strike]; exact hhigh, ?_⟩
    rcases List.mem_append.mp hf with hf | hf
    · obtain rfl : f = judgeLive .strike := List.mem_singleton.mp hf
      exact .inr (by simp)
    · rcases List.mem_pair.mp hf with rfl | rfl
      · exact .inr rfl
      · exact .inl (judgeCauses_strike ch hhigh hlatch)
  have htrip : ∀ {u v : State}, StrikeTripped v ∨ v.trip = u.trip → StrikeTripped u → StrikeTripped v := by
    intro u v h hu
    rcases h with h | h
    · exact h
    · unfold StrikeTripped; rw [h]; exact hu
  refine inOrder_brings_under (fun u => u.strike.debounced = true ∧ (u.trip.latch = false ∨ StrikeTripped u)) StrikeTripped
    ⟨hraw, .inl hclear⟩ (fun f hf u hu => ?_) (fun f hf u hu hP => htrip (hkeeps f hf u hu.1 hu.2).2 hP)
    ⟨judgeCauses ch [.strike], by simp [completedReaders, switchCause], fun u hu => judgeCauses_strike ch hu.1 hu.2⟩
  obtain ⟨hhigh, hafter⟩ := hkeeps f hf u hu.1 hu.2
  refine ⟨hhigh, ?_⟩
  rcases hafter with hset | hsame
  · exact .inr hset
  · unfold StrikeTripped; rw [hsame]; exact hu.2

/-! ### The stored setting and the answer -/

/-- R33, R155, R156, R157: the value of a service setting as it is stored. -/
def serviceStored (i v : Nat) : Nat :=
  if i = 0 then min 255 v else if i = 1 then clampNat 1 255 v else if i = 2 then min 255 v
  else if i = 3 then min 5 v else min 1 v

theorem serviceStored_lt (i v : Nat) : serviceStored i v < 65536 := by
  unfold serviceStored clampNat
  split_ifs <;> omega

theorem service_stored (m : Moment) (s : State) (tag index : Byte) (w : Word) (rest : List Request) :
    writeStored m tag 0x21 index [w] rest s =
      { storeService index.toNat w.toNat { tick m s with requests := rest } with
        portC := { s.portC with
          localQ := s.portC.localQ ++
            [{ cls := 0x3D
               payload := [tag, 2, if serviceStored index.toNat w.toNat = w.toNat then 0 else 1, 0x21] ++
                 be16 (BitVec.ofNat 16 (serviceStored index.toNat w.toNat))
               changed := false, restated := false }] } } := by
  have hanswer := writeAnswer_one tag (obj := 0x21) (by decide) w (serviceStored_lt index.toNat w.toNat)
  have hword : storedWords s 0x21 index [w] = [uWord (serviceStored index.toNat w.toNat)] := rfl
  rw [writeStored, hword, hanswer]
  rfl

/-- R36: whether a pending change has run the debounce time now stored. -/
theorem debounceDue_eq {s : State} (sw : Switch) :
    s.debounceDue sw = ((s.switch sw).pending && decide (s.debounceMs sw * 1000 ≤ elapsed s.now (s.switch sw).since)) := rfl

theorem serviceWritten_answer {n : Nat} {f : QFrame} {s : State} (hf : f.cls = responseClass) (h : AnswerStands n f s)
    (ch : Choice) (i k : Nat) : AnswerStands n f (serviceWritten ch i k s) := by
  have htaken : ∀ (b : Bool) (sw : Switch) (u : State), AnswerStands n f u → AnswerStands n f (onlyIf b (takeLevel sw) u) := by
    intro b sw u hu
    cases b with
    | true => cases sw <;> exact hu
    | false => exact hu
  refine inOrder_keeps (AnswerStands n f) (htaken _ .strike _ (htaken _ .lid _ h)) fun g hg u hu => ?_
  exact (serviceReaders_effects hg u).answerStands hf hu

/-- Table 10-2: the index of an input's debounce time. -/
def switchByte : Switch → Byte
  | .lid => 1
  | .strike => 2

/-- R33: the service settings with the debounce time of an input. -/
def withDebounce (x : ServiceSettings) (stored : Nat) : Switch → ServiceSettings
  | .lid => { x with debounceLid := stored }
  | .strike => { x with debounceStrike := stored }

/-- R36: the debounce time of an input, as it is stored. -/
theorem debounce_stored (m : Moment) {s : State} {tag index : Byte} {w : Word} {rest : List Request} {sw : Switch}
    (hindex : index = switchByte sw) :
    let u := writeStored m tag 0x21 index [w] rest s
    let stored := serviceStored index.toNat w.toNat
    index.toNat = switchIndex sw ∧
      u.service = withDebounce s.service stored sw ∧
      u.debounceMs sw = stored ∧ u.switch sw = s.switch sw ∧ u.now = s.now + m.elapsed ∧ u.trip = s.trip ∧
      u = { tick m s with requests := rest, service := u.service, portC := u.portC } := by
  subst hindex
  cases sw <;> exact ⟨rfl, rfl, rfl, rfl, rfl, rfl, rfl⟩

/-- R35, R36: a debounce time written. -/
theorem debounce_written (m : Moment) {s : State} {tag index : Byte} {w : Word} {rest : List Request} {sw : Switch}
    (hindex : index = switchByte sw) {stored : Nat}
    (hstored : stored = serviceStored index.toNat w.toNat) :
    let u := writeStored m tag 0x21 index [w] rest s
    let t := serviceWritten m.choice index.toNat 1 u
    t.service = withDebounce s.service stored sw ∧
    ((s.switch sw).pending = true → stored * 1000 ≤ elapsed (s.now + m.elapsed) (s.switch sw).since →
      t.switch sw = { s.switch sw with debounced := (s.switch sw).raw, pending := false } ∧
        (sw = .lid → t.events.live.getLsbD 12 = !s.lid.raw) ∧
        (sw = .strike → t.events.live.getLsbD 13 = s.strike.raw ∧
          (s.strike.raw = true → s.trip.latch = false → t.trip.latch = true ∧ t.trip.first = some .strike))) ∧
    ((s.switch sw).pending = false ∨ elapsed (s.now + m.elapsed) (s.switch sw).since < stored * 1000 → t = u) := by
  intro u t
  subst hstored
  obtain ⟨hi, hservice, hms, hswitch, hnow, htrip, -⟩ := debounce_stored m (s := s) (tag := tag) (w := w) (rest := rest) hindex
  have hdue : u.debounceDue sw = ((s.switch sw).pending &&
      decide (serviceStored index.toNat w.toNat * 1000 ≤ elapsed (s.now + m.elapsed) (s.switch sw).since)) := by
    rw [debounceDue_eq, hms, hswitch, hnow]
  have ht : t = serviceWritten m.choice (switchIndex sw) 1 u := by rw [← hi]
  cases hcase : u.debounceDue sw with
  | false =>
    have hwaits : t = u := ht.trans (serviceWritten_waiting m.choice sw hcase)
    rw [hcase] at hdue
    refine ⟨by rw [hwaits]; exact hservice, fun hpending htime => ?_, fun _ => hwaits⟩
    rw [hpending, decide_eq_true htime] at hdue
    exact absurd hdue (by decide)
  | true =>
    rw [hcase] at hdue
    have hdone : t = inOrder m.choice.effects (completedReaders m.choice sw) (takeLevel sw u) :=
      ht.trans (serviceWritten_due m.choice sw hcase)
    have hinputs : SameInputs (takeLevel sw u) t := by
      rw [hdone]
      exact (Effects.inOrder .refl fun f hf v _ => completedReaders_effects hf v).sameInputs
    have hlevel : t.switch sw = { s.switch sw with debounced := (s.switch sw).raw, pending := false } := by
      rw [← hswitch]
      cases sw with
      | lid => exact hinputs.lid
      | strike => exact hinputs.strike
    refine ⟨?_, fun _ _ => ⟨hlevel, fun hlid => ?_, fun hstrike => ⟨?_, fun hraw hclear => ?_⟩⟩, fun hor => ?_⟩
    · rw [hinputs.service, ← hservice]
      cases sw <;> rfl
    · subst hlid
      have hlive : t.events.live.getLsbD 12 = !t.lid.debounced := by rw [hdone]; exact completed_live m.choice .lid u
      rw [hlive]
      exact congrArg (fun d => !d.debounced) hlevel
    · subst hstrike
      have hlive : t.events.live.getLsbD 13 = t.strike.debounced := by rw [hdone]; exact completed_live m.choice .strike u
      rw [hlive]
      exact congrArg (·.debounced) hlevel
    · subst hstrike
      rw [hdone]
      exact completed_strike m.choice ((congrArg (·.raw) hswitch).trans hraw) (by rw [htrip]; exact hclear)
    · have htime : (s.switch sw).pending = true ∧
          serviceStored index.toNat w.toNat * 1000 ≤ elapsed (s.now + m.elapsed) (s.switch sw).since := by
        simpa using hdue.symm
      rcases hor with hor | hor
      · exact absurd (htime.1.symm.trans hor) (by decide)
      · exact absurd htime.2 (Nat.not_le.mpr hor)

theorem source_code_inj {a b : Source} : a.code = b.code ↔ a = b := by
  constructor
  · cases a <;> cases b <;> simp [Source.code]
  · rintro rfl; rfl

/-- R156, R158: the source written. -/
theorem source_written (m : Moment) {s : State} {tag : Byte} {w : Word} {rest : List Request} {stored : Nat}
    (hstored : stored = min 5 w.toNat) :
    let u := writeStored m tag 0x21 3 [w] rest s
    let t := serviceWritten m.choice 3 1 u
    t.monitor.source.code = stored ∧
      t.monitor = (if s.monitor.source.code = stored then s.monitor
        else { s.monitor with
          source := t.monitor.source, count := 0, holding := 0
          timer := if s.monitor.auto then some (s.now + m.elapsed) else none }) ∧
      t.events.live.getLsbD 15 = decide (t.monitor.count = 65535) ∧
      t = { tick m s with requests := rest, monitor := t.monitor, events := t.events, portC := t.portC } := by
  intro u t
  have ht : t = judgeLive .counterSaturated u := serviceWritten_source m.choice u
  have hkept : (judgeLive .counterSaturated u).monitor = u.monitor := by simp
  have hmonitor : t.monitor = s.monitor.setSource (s.now + m.elapsed) (sourceOf w.toNat) := by
    rw [ht, hkept]
    rfl
  have hsource : t.monitor.source = sourceOf w.toNat := by rw [hmonitor, setSource_source]
  have hsame : s.monitor.source.code = stored ↔ s.monitor.source = sourceOf w.toNat := by
    rw [hstored, ← sourceOf_code, source_code_inj]
  refine ⟨by rw [hsource, sourceOf_code, hstored], ?_, ?_, ?_⟩
  · rw [hsource, hmonitor, Monitor.setSource]
    exact if_congr hsame.symm rfl rfl
  · rw [ht, hkept]
    exact judgeLive_live .counterSaturated u
  · rw [ht, hkept]
    exact judgeLive_frame .counterSaturated u

/-- R157: the mode written. -/
theorem mode_written (m : Moment) {s : State} {tag : Byte} {w : Word} {rest : List Request} {stored : Nat}
    (hstored : stored = min 1 w.toNat) :
    let u := writeStored m tag 0x21 4 [w] rest s
    serviceWritten m.choice 4 1 u = u ∧
      u = { tick m s with
        requests := rest
        monitor := if s.monitor.auto = decide (stored = 1) then s.monitor
          else { s.monitor with
            auto := decide (stored = 1), timer := if stored = 1 then some (s.now + m.elapsed) else none }
        portC := u.portC } := by
  intro u
  refine ⟨serviceWritten_quiet m.choice rfl rfl rfl, ?_⟩
  have hauto : (w.toNat != 0) = decide (stored = 1) := by
    rw [hstored, Bool.eq_iff_iff, bne_iff_ne, decide_eq_true_eq]
    omega
  have hmonitor : u.monitor = if s.monitor.auto = decide (stored = 1) then s.monitor
      else { s.monitor with
        auto := decide (stored = 1), timer := if stored = 1 then some (s.now + m.elapsed) else none } := by
    have hu : u.monitor = s.monitor.setMode (s.now + m.elapsed) (w.toNat != 0) := rfl
    rw [hu, hauto, Monitor.setMode]
    simp only [decide_eq_true_eq]
  rw [← hmonitor]
  rfl

end Sys2Proof.Machine
end

section
/-! SUPPORT. The longer writes, and the statement of the writes (R164). -/

namespace Sys2Proof.Machine

open Sys2Proof.Safety

/-! ### What follows a write of any object but the spin settings -/

/-- R36: the inputs whose pending change is completed at a write. -/
def completed (lid strike : Bool) (s : State) : State := onlyIf strike (takeLevel .strike) (onlyIf lid (takeLevel .lid) s)

/-- What a completed change leaves. -/
theorem completed_kept (lid strike : Bool) (s : State) :
    completed lid strike s = { s with lid := (completed lid strike s).lid, strike := (completed lid strike s).strike } := by
  cases lid <;> cases strike <;> rfl

/-- R164: after the changes completed at the write, what follows is made of shared effects. -/
theorem writeEffects_run {obj : Byte} (h : obj ≠ 0x20) (ch : Choice) (idx n : Nat) (s : State) :
    ∃ lid strike, Effects (completed lid strike s) (writeEffects ch obj idx n s) := by
  unfold writeEffects
  split_ifs
  · exact ⟨false, false, envelopeRevised_effects s⟩
  · exact ⟨_, _, Effects.inOrder .refl fun f hf u _ => serviceReaders_effects hf u⟩
  · exact ⟨false, false, limitWritten_effects ch idx n s⟩
  · exact ⟨false, false, judgeLive_effects .ringFull s⟩
  · exact ⟨false, false, .refl⟩

theorem writeEffects_answer {obj : Byte} (h : obj ≠ 0x20) (ch : Choice) (idx k : Nat) {s : State} {n : Nat} {f : QFrame}
    (hf : f.cls = responseClass) (hs : AnswerStands n f s) : AnswerStands n f (writeEffects ch obj idx k s) := by
  obtain ⟨lid, strike, heffects⟩ := writeEffects_run h ch idx k s
  refine heffects.answerStands hf ?_
  rw [completed_kept]
  exact hs

/-- What the effects of a write leave of the settings, the requests, the limits and the monitor counter. -/
theorem writeEffects_settings {obj : Byte} (h : obj ≠ 0x20) (ch : Choice) (idx n : Nat) (s : State) :
    (writeEffects ch obj idx n s).requests = s.requests ∧ (writeEffects ch obj idx n s).monitor.source = s.monitor.source ∧
      (writeEffects ch obj idx n s).monitor.auto = s.monitor.auto := by
  obtain ⟨lid, strike, heffects⟩ := writeEffects_run h ch idx n s
  have hmonitor : ∀ u v : State, Effect u v → v.monitor.source = u.monitor.source ∧ v.monitor.auto = u.monitor.auto := by
    intro u v huv
    cases huv <;> simp [makeReport, addCause]
  have hrun := heffects.keeps (P := fun v => v.monitor.source = s.monitor.source ∧ v.monitor.auto = s.monitor.auto)
    (fun u v huv hu => ⟨(hmonitor u v huv).1.trans hu.1, (hmonitor u v huv).2.trans hu.2⟩) (by rw [completed_kept]; exact ⟨rfl, rfl⟩)
  refine ⟨?_, hrun⟩
  rw [heffects.sameInputs.requests, completed_kept]

theorem writeEffects_words {obj o : Byte} (h : obj ≠ 0x20) (ho : o ∈ settingsList) (ch : Choice) (idx n : Nat) (s : State) :
    (writeEffects ch obj idx n s).objectWords o = s.objectWords o := by
  obtain ⟨-, hsource, hauto⟩ := writeEffects_settings h ch idx n s
  exact objectWords_congr (writeEffects_sameSettings ch obj idx n s) hsource hauto ho

/-- R164: the elements stored leave the other objects of settings. -/
theorem storeElements_words_other {obj o : Byte} (ho : o ∈ settingsList) (hne : o ≠ obj) (i : Nat) (ws : List Word)
    (s : State) : (storeElements obj i ws s).objectWords o = s.objectWords o := by
  induction ws generalizing i s with
  | nil => rfl
  | cons w ws ih => exact (ih (i + 1) _).trans ((storeElement_step obj i w s).words_other ho hne)

theorem storeElements_cap {obj : Byte} (h : obj ≠ 0x20) (i : Nat) (ws : List Word) (s : State) :
    (storeElements obj i ws s).spin = s.spin := by
  induction ws generalizing i s with
  | nil => rfl
  | cons w ws ih => exact (ih (i + 1) _).trans (storeElement_cap h i w s)

/-- R164: the contents above those addressed stand. -/
theorem storeElements_contents_above (i : Nat) (ws : List Word) (s : State) {c : Fin 4} (hc : i + ws.length ≤ c.val) :
    (storeElements 0x51 i ws s).ring.contents[c] = s.ring.contents[c] := by
  induction ws generalizing i s with
  | nil => rfl
  | cons w ws ih =>
    rw [List.length_cons] at hc
    refine (ih (i + 1) _ (by omega)).trans ?_
    show (put s.ring.contents i (min s.spin.chamberCap w.toNat))[c.val] = _
    simp only [put]
    rw [Vector.getElem_setIfInBounds_ne _ (by omega)]
    rfl

/-! ### The elements as the statement gives them -/

theorem clampPlateau_eq (k v : Nat) :
    clampPlateau k v =
      (match k with
        | 0 => if v = 0 then 0 else max 30 (min 1200 v)
        | 1 => max 1 (min 255 v)
        | 2 => min 9999 v
        | 3 => min 1000 v
        | 4 => min 63 v
        | _ => min 7 v) := by
  match k with
  | 0 => exact if_congr Iff.rfl rfl (clampNat_eq_max_min (by decide) v)
  | 1 => exact clampNat_eq_max_min (by decide) v
  | 2 | 3 | 4 | _ + 5 => rfl

theorem classCodes (w : Word) :
    ((disposalOf (w.extractLsb' 8 8)).code ++ (disposalOf (w.extractLsb' 0 8)).code : Word) =
      (if w.extractLsb' 8 8 = 1 then 0x0100 else 0) ||| (if w.extractLsb' 0 8 = 1 then 0x0001 else 0) := by
  unfold disposalOf
  split_ifs <;> rfl

/-! ### A longer write -/

/-- R162: the elements of an object do not move with the moment or the request queue. -/
theorem objectWords_tick (m : Moment) (s : State) (rest : List Request) {o : Byte} (h : o ∈ settingsList ∨ o = 0x51) :
    ({ tick m s with requests := rest } : State).objectWords o = s.objectWords o := by
  simp only [settingsList, List.mem_cons, List.not_mem_nil, or_false, or_assoc] at h
  rcases h with rfl | rfl | rfl | rfl | rfl | rfl | rfl | rfl | rfl | rfl | rfl <;> rfl

theorem objectWords_portC (s : State) (p : PortC) {o : Byte} (h : o ∈ settingsList ∨ o = 0x51) :
    ({ s with portC := p } : State).objectWords o = s.objectWords o := by
  simp only [settingsList, List.mem_cons, List.not_mem_nil, or_false, or_assoc] at h
  rcases h with rfl | rfl | rfl | rfl | rfl | rfl | rfl | rfl | rfl | rfl | rfl <;> rfl

theorem writeEffects_ring (ch : Choice) (idx n : Nat) (s : State) : (writeEffects ch 0x51 idx n s).ring = s.ring := by
  show (judgeLive .ringFull s).ring = s.ring
  simp

theorem writeEffects_words_written {obj : Byte} (h : obj ≠ 0x20) (hobj : obj ∈ settingsList ∨ obj = 0x51) (ch : Choice)
    (idx n : Nat) (s : State) : (writeEffects ch obj idx n s).objectWords obj = s.objectWords obj := by
  rcases hobj with hobj | rfl
  · exact writeEffects_words h hobj ch idx n s
  · exact congrArg Ring.words (writeEffects_ring ch idx n s)

/-- R164: what an accepted write of up to ten elements leaves. -/
theorem elements_written (m : Moment) {s : State} {tag obj index : Byte} {ws : List Word} {rest : List Request}
    (h : WriteFound s tag obj index ws rest) {out : List Word} (hout : out = storedWords s obj index ws) :
    ∃ t, exec (.write m) s = .next t ∧
      ((t.objectWords obj).drop index.toNat).take ws.length = out ∧
      (t.objectWords obj).take index.toNat = (s.objectWords obj).take index.toNat ∧
      (obj ≠ 0x51 → (t.objectWords obj).drop (index.toNat + ws.length) = (s.objectWords obj).drop (index.toNat + ws.length)) ∧
      (obj = 0x51 → ∀ c : Fin 4, index.toNat + ws.length ≤ c.val → t.ring.contents[c] = s.ring.contents[c]) ∧
      (obj = 0x30 → index = 0 → ws.length = 2 → t.limits.abs.isSome = true ∧ t.limits.mass.isSome = true) ∧
      t.portC.localQ[s.portC.localQ.length]? = some (writeAnswer tag obj ws out) ∧
      t.requests = rest ∧ t.spin = s.spin ∧
      (∀ o ∈ settingsList, o ≠ obj → t.objectWords o = s.objectWords o) := by
  subst hout
  have hlength : (storedWords s obj index ws).length = ws.length := WriteFound.storedWords_length
  have hinside := h.inside
  have hsize := writableSize_le obj
  have hwhole : (s.objectWords obj).length = (objectSize obj).getD 0 := objectWords_length_writable h.object s
  have hwords : (writeEffects m.choice obj index.toNat ws.length (writeStored m tag obj index ws rest s)).objectWords obj =
      (s.objectWords obj).take index.toNat ++ storedWords s obj index ws ++
        (s.objectWords obj).drop (index.toNat + ws.length) := by
    rw [writeEffects_words_written h.other h.object, writeStored, objectWords_portC _ _ h.object,
      h.stored_words (u := { tick m s with requests := rest }) rfl, objectWords_tick m s rest h.object]
  obtain ⟨hrequests, -, -⟩ := writeEffects_settings h.other m.choice index.toNat ws.length (writeStored m tag obj index ws rest s)
  have hsettings := writeEffects_sameSettings m.choice obj index.toNat ws.length (writeStored m tag obj index ws rest s)
  refine ⟨_, h.exec m, ?_, ?_, fun _ => ?_, fun hobj c hc => ?_, fun hobj hindex htwo => ?_,
    (writeEffects_answer h.other m.choice _ _ rfl (writeStored_answer h m)).2, ?_, ?_, fun o ho hne => ?_⟩
  · rw [hwords, ← hlength]
    exact drop_take_splice _ _ (List.length_take_of_le (by omega))
  · rw [hwords, List.append_assoc]
    exact List.take_left' (List.length_take_of_le (by omega))
  · rw [hwords]
    exact List.drop_left' (by rw [List.length_append, List.length_take_of_le (by omega), hlength])
  · subst hobj
    rw [writeEffects_ring]
    exact storeElements_contents_above index.toNat ws _ hc
  · subst hobj hindex
    rw [hsettings.limits]
    match ws, htwo with
    | [_, _], _ => exact ⟨rfl, rfl⟩
  · rw [hrequests]
    exact (storeElements_same obj index.toNat ws _).requests
  · rw [hsettings.spin]
    exact storeElements_cap h.other index.toNat ws _
  · rw [writeEffects_words h.other ho, writeStored, objectWords_portC _ _ (.inl ho), storeElements_words_other ho hne,
      objectWords_tick m s rest (.inl ho)]

end Sys2Proof.Machine
end

section
/-! SUPPORT. The statement of the writes, assembled. -/

namespace Sys2Proof.Machine

open Sys2Proof.Safety

/-- R160, R164: the failure of a WRITE, its conditions as the statement gives them. -/
theorem writeFailure_conditions (r : Request) (s : State) :
    writeFailure r s =
      (match objectSize r.object with
        | none => some 3
        | some size =>
          if r.data.length % 2 = 1 ∨ r.data.length = 0 ∨ 20 < r.data.length then some 5
          else if size < r.index.toNat + r.data.length / 2 then some 4
          else if (List.range (r.data.length / 2)).any (fun k => decide (r.object = 0x40 ∨ r.object = 0x50 ∨ r.object = 0x52 ∨
              r.object = 0x53 ∨ r.object = 0x60 ∨ (r.object = 0x51 ∧ 4 ≤ r.index.toNat + k) ∨
              (r.object = 0x01 ∧ r.index.toNat + k ∈ [0x11, 0x31, 0x3C, 0x3D, 0x3E, 0x3F]))) then some 6
          else if decide (r.object ∈ ([0x10, 0x11, 0x12, 0x13, 0x14, 0x15, 0x20, 0x51] : List Byte)) = true ∧
              s.session.state ≠ .idle then some 7
          else if decide (r.object = 0x30 ∧ ((r.index.toNat = 0 ∧ s.limits.abs ≠ none) ∨
              (r.index.toNat ≤ 1 ∧ 2 ≤ r.index.toNat + r.data.length / 2 ∧ s.limits.mass ≠ none))) = true then some 8
          else none) :=
  writeFailure_of_conditions (readOnly := fun k => decide (r.object = 0x40 ∨ r.object = 0x50 ∨ r.object = 0x52 ∨
      r.object = 0x53 ∨ r.object = 0x60 ∨ (r.object = 0x51 ∧ 4 ≤ k) ∨
      (r.object = 0x01 ∧ k ∈ [0x11, 0x31, 0x3C, 0x3D, 0x3E, 0x3F])))
    (fun _ hk => decide_eq_true_iff.trans (elementReadOnly_iff r.object hk).symm)
    (decide_eq_true_iff.trans (idleOnly_iff r.object).symm)
    (fun hn => decide_eq_true_iff.trans (limitLocked_iff s r.object hn).symm)

/-- R164: a WRITE of one element of a table in IDLE is accepted. -/
theorem WriteFound.table {s : State} {tag obj index : Byte} {w : Word} {rest : List Request} (hlive : s.held = false)
    (hfront : s.requests = { tag := tag, op := 2, object := obj, index := index, data := be16 w } :: rest)
    (hroom : s.portC.localQ.length < 4) (hbusy : s.portC.sending ≠ none) (hidle : s.session.state = .idle)
    (hobj : obj ∈ tableList) (hindex : index.toNat < (objectSize obj).getD 0) : WriteFound s tag obj index [w] rest := by
  simp only [tableList, List.mem_cons, List.not_mem_nil, or_false] at hobj
  rcases hobj with rfl | rfl | rfl | rfl | rfl | rfl <;>
    exact .one hlive hfront hroom hbusy (by decide) (by decide) hindex (by rintro ⟨⟩) (fun _ => hidle) rfl

theorem byte_below_five : ∀ i : Byte, i.toNat < 5 → i = 0 ∨ i = 1 ∨ i = 2 ∨ i = 3 ∨ i = 4 := by decide

/-- R33, R155 to R157: the value of a service setting as the statement gives it. -/
theorem serviceStored_index {index : Byte} (h : index.toNat < 5) (v : Nat) :
    (if index = 0 then min 255 v else if index = 1 then max 1 (min 255 v) else if index = 2 then min 255 v
      else if index = 3 then min 5 v else min 1 v) = serviceStored index.toNat v := by
  rcases byte_below_five index h with rfl | rfl | rfl | rfl | rfl
  · rfl
  · exact (clampNat_eq_max_min (by decide) v).symm
  · rfl
  · rfl
  · rfl

/-- R33, R36, R155 to R158, R164: a service setting. -/
theorem service_written (m : Moment) {s : State} {tag index : Byte} {w : Word} {rest : List Request}
    (h : WriteFound s tag 0x21 index [w] rest) {stored : Nat} (hstored : stored = serviceStored index.toNat w.toNat)
    {answer : QFrame}
    (hanswer : answer = { cls := 0x3D
                          payload := [tag, 2, if stored = w.toNat then 0 else 1, 0x21] ++ be16 (BitVec.ofNat 16 stored)
                          changed := false, restated := false }) :
    ∃ t, exec (.write m) s = .next t ∧ t.portC.localQ[s.portC.localQ.length]? = some answer ∧
      (index = 0 →
        t = { tick m s with
          requests := rest, service := { s.service with reportEvery := stored }
          events := { s.events with reportCount := 0 }, portC := { s.portC with localQ := s.portC.localQ ++ [answer] } }) ∧
      (∀ sw : Switch, index = switchByte sw →
        t.service = withDebounce s.service stored sw ∧
        ((s.switch sw).pending = true → stored * 1000 ≤ elapsed (s.now + m.elapsed) (s.switch sw).since →
          t.switch sw = { s.switch sw with debounced := (s.switch sw).raw, pending := false } ∧
            (sw = .lid → t.events.live.getLsbD 12 = !s.lid.raw) ∧
            (sw = .strike → t.events.live.getLsbD 13 = s.strike.raw ∧
              (s.strike.raw = true → s.trip.latch = false → t.trip.latch = true ∧ t.trip.first = some .strike))) ∧
        ((s.switch sw).pending = false ∨ elapsed (s.now + m.elapsed) (s.switch sw).since < stored * 1000 →
          t = { tick m s with
            requests := rest, service := t.service, portC := { s.portC with localQ := s.portC.localQ ++ [answer] } })) ∧
      (index = 3 →
        t.monitor.source.code = stored ∧
        t.monitor = (if s.monitor.source.code = stored then s.monitor
          else { s.monitor with
            source := t.monitor.source, count := 0, holding := 0
            timer := if s.monitor.auto then some (s.now + m.elapsed) else none }) ∧
        t.events.live.getLsbD 15 = decide (t.monitor.count = 65535) ∧
        t = { tick m s with requests := rest, monitor := t.monitor, events := t.events, portC := t.portC }) ∧
      (index = 4 →
        t = { tick m s with
          requests := rest
          monitor := if s.monitor.auto = decide (stored = 1) then s.monitor
            else { s.monitor with
              auto := decide (stored = 1), timer := if stored = 1 then some (s.now + m.elapsed) else none }
          portC := { s.portC with localQ := s.portC.localQ ++ [answer] } }) := by
  have hport : (writeStored m tag 0x21 index [w] rest s).portC = { s.portC with localQ := s.portC.localQ ++ [answer] } := by
    rw [service_stored, hanswer, hstored]
  have hstands : AnswerStands s.portC.localQ.length answer (writeStored m tag 0x21 index [w] rest s) :=
    ⟨h.busy, by rw [hport]; simp⟩
  refine ⟨serviceWritten m.choice index.toNat 1 (writeStored m tag 0x21 index [w] rest s), h.exec m,
    (serviceWritten_answer (by rw [hanswer]; rfl) hstands m.choice index.toNat 1).2, fun hi => ?_, fun sw hi => ?_, fun hi => ?_,
    fun hi => ?_⟩
  · subst hi
    have hquiet := serviceWritten_quiet m.choice (i := 0) (s := writeStored m tag 0x21 0 [w] rest s) rfl rfl rfl
    refine hquiet.trans ?_
    rw [← hport, hstored]
    rfl
  · obtain ⟨hservice, hdone, hwaits⟩ := debounce_written m (s := s) (tag := tag) (w := w) (rest := rest) hi hstored
    obtain ⟨-, hservice', -, -, -, -, hframe⟩ := debounce_stored m (s := s) (tag := tag) (w := w) (rest := rest) hi
    refine ⟨hservice, hdone, fun hor => ?_⟩
    rw [hwaits hor, ← hport]
    exact hframe
  · subst hi
    exact source_written m hstored
  · subst hi
    obtain ⟨hquiet, hframe⟩ := mode_written m (s := s) (tag := tag) (rest := rest) hstored
    refine hquiet.trans ?_
    rw [← hport]
    exact hframe

/-- R8, R94, R121, R164: an element stored, as the statement gives it. -/
def statedWord (cap : Nat) (obj : Byte) (k : Nat) (w : Word) : Word :=
  let v := w.toNat
  let plateau : Nat :=
    match k % 6 with
    | 0 => if v = 0 then 0 else max 30 (min 1200 v)
    | 1 => max 1 (min 255 v)
    | 2 => min 9999 v
    | 3 => min 1000 v
    | 4 => min 63 v
    | _ => min 7 v
  if obj = 0x01 then
    (if w.extractLsb' 8 8 = 1 then 0x0100 else 0) ||| (if w.extractLsb' 0 8 = 1 then 0x0001 else 0)
  else BitVec.ofNat 16
    (if obj = 0x10 then min 9999 v else if obj = 0x11 then min 2000 v
     else if obj = 0x14 then plateau
     else if obj = 0x21 then
      (if k = 0 then min 255 v else if k = 1 then max 1 (min 255 v) else if k = 2 then min 255 v
       else if k = 3 then min 5 v else min 1 v)
     else if obj = 0x30 then (if k = 0 then max 300 (min 1500 v) else max 100 (min 9999 v))
     else if obj = 0x51 then min cap v else v)

theorem statedWord_eq {obj : Byte} (hspin : obj ≠ 0x20) (cap k : Nat) (w : Word) :
    statedWord cap obj k w = storedWord cap obj k w := by
  simp only [statedWord, storedWord, classCodes, clampPlateau_eq, clampNat_eq_max_min (show 1 ≤ 255 by decide),
    clampNat_eq_max_min (show 300 ≤ 1500 by decide), clampNat_eq_max_min (show 100 ≤ 9999 by decide), hspin, if_false,
    uWord] <;> rfl

/-- R164: a WRITE of up to ten elements of an object but the spin settings is accepted. -/
theorem WriteFound.longer {s : State} {tag obj index : Byte} {ws : List Word} {rest : List Request}
    (hlive : s.held = false)
    (hfront : s.requests = { tag := tag, op := 2, object := obj, index := index, data := ws.flatMap be16 } :: rest)
    (hroom : s.portC.localQ.length < 4) (hbusy : s.portC.sending ≠ none) (hsome : 0 < ws.length) (hfew : ws.length ≤ 10)
    (hobj : obj ∈ ([0x01, 0x10, 0x11, 0x12, 0x13, 0x14, 0x15, 0x21, 0x30, 0x51] : List Byte))
    (hidle : obj = 0x01 ∨ obj = 0x21 ∨ obj = 0x30 ∨ s.session.state = .idle)
    (hlimits : obj = 0x30 → s.limits.abs = none ∧ s.limits.mass = none)
    (hinside : index.toNat + ws.length ≤ writableSize obj)
    (hordinary : obj = 0x01 → ∀ k ∈ [0x11, 0x31, 0x3C, 0x3D, 0x3E, 0x3F], k < index.toNat ∨ index.toNat + ws.length ≤ k) :
    WriteFound s tag obj index ws rest where
  live := hlive
  front := hfront
  room := hroom
  busy := hbusy
  some := hsome
  few := hfew
  object := by
    simp only [List.mem_cons, List.not_mem_nil, or_false] at hobj
    rcases hobj with rfl | rfl | rfl | rfl | rfl | rfl | rfl | rfl | rfl | rfl <;> decide
  other := by rintro rfl; exact absurd hobj (by decide)
  inside := hinside
  ordinary h k hk hmem := by
    have := hordinary h _ hmem
    omega
  idle h := by
    rcases hidle with rfl | rfl | rfl | hidle
    · exact absurd h (by decide)
    · exact absurd h (by decide)
    · exact absurd h (by decide)
    · exact hidle
  free := by
    by_cases h30 : obj = 0x30
    · obtain ⟨habs, hmass⟩ := hlimits h30
      simp [limitLocked, habs, hmass]
    · unfold limitLocked
      rw [beq_eq_false_iff_ne.mpr h30, Bool.false_and]

/-- Settles O46: each refusal by `writeFailure`, each accepted write by what it stores and what follows. -/
theorem writeAnswered : Obligations.WriteAnswered := by
  refine ⟨fun m s r rest status hheld hfront hop hroom hbusy hfail => ?_,
    fun m s tag index w rest hheld hfront hroom hbusy hindex hordinary => ?_,
    fun m s tag obj index w rest hheld hfront hroom hbusy hidle hobj hindex => ?_,
    fun m s tag index w rest hheld hfront hroom hbusy hidle hindex hcap => ?_,
    fun m s tag index w rest hheld hfront hroom hbusy hindex => ?_,
    fun m s tag w rest hheld hfront hroom hbusy hmass => ?_,
    fun m s tag obj index ws rest hheld hfront hroom hbusy hsome hfew hobj hidle hlimits hcap hinside hordinary => ?_⟩
  · exact ⟨_, write_refused m hheld hfront hop hroom hbusy
      ((writeFailure_conditions r { tick m s with requests := rest }).trans hfail), rfl⟩
  · have hfound : WriteFound s tag 0x01 index [w] rest :=
      .one hheld hfront hroom hbusy (by decide) (by decide) hindex (fun _ => hordinary) (by rintro ⟨⟩) rfl
    refine ⟨_, class_written m hfound, ?_⟩
    intro low high
    have hlow : disposalOf (w.extractLsb' 0 8) = if low then .drop else .pass := by
      unfold disposalOf; exact if_congr decide_eq_true_iff.symm rfl rfl
    have hhigh : disposalOf (w.extractLsb' 8 8) = if high then .drop else .pass := by
      unfold disposalOf; exact if_congr decide_eq_true_iff.symm rfl rfl
    rw [hlow, hhigh]
    cases low <;> cases high <;> rfl
  · have hfound := WriteFound.table hheld hfront hroom hbusy hidle hobj hindex
    refine table_written m hfound hobj ?_ rfl
    rw [tableStored, clampPlateau_eq] <;> rfl
  · have hfound : WriteFound s tag 0x51 index [w] rest :=
      .one hheld hfront hroom hbusy (by decide) (by decide) hindex (by rintro ⟨⟩) (fun _ => hidle) rfl
    exact contents_written m hfound rfl
  · have hfound : WriteFound s tag 0x21 index [w] rest :=
      .one hheld hfront hroom hbusy (by decide) (by decide) hindex (by rintro ⟨⟩) (by rintro ⟨⟩) rfl
    exact service_written m hfound (serviceStored_index hindex w.toNat) rfl
  · have hfound : WriteFound s tag 0x30 1 [w] rest :=
      .one hheld hfront hroom hbusy (by decide) (by decide) (by decide) (by decide) (by rintro ⟨⟩)
        (by simp [limitLocked, touches, hmass])
    exact mass_written m hfound rfl rfl
  · have hfound := WriteFound.longer hheld hfront hroom hbusy hsome hfew hobj hidle hlimits hinside hordinary
    have hout : (ws.mapIdx fun k w => statedWord s.spin.chamberCap obj (index.toNat + k) w) = storedWords s obj index ws := by
      unfold storedWords
      congr 1
      funext k w
      exact statedWord_eq hfound.other _ _ w
    exact elements_written m hfound hout

end Sys2Proof.Machine
end

section
/-! SUPPORT. A WRITE of spin settings: what is stored, how it is answered, and what follows (R74, R92, R118, R121, R122,
R132, R135, R164). -/

namespace Sys2Proof.Machine

open Sys2Proof.Safety

/-! ### The settings stored -/

theorem touches_eq (idx n k : Nat) : touches idx n k = decide (idx ≤ k ∧ k < idx + n) := (Bool.decide_and ..).symm

/-- R164: a setting after the elements are stored, before WEIGH_HI is compared with WEIGH_LO. -/
def spinBefore (idx : Nat) (ws : List Word) (p : SpinSettings) (k : Nat) : Nat :=
  if touches idx ws.length k then max (spinRange k).1 (min (spinRange k).2 (ws.getD (k - idx) 0).toNat) else p.list.getD k 0

/-- R74, R164: a setting after the write. -/
def spinAfter (idx : Nat) (ws : List Word) (p : SpinSettings) (k : Nat) : Nat :=
  if k = 9 then max (spinBefore idx ws p 9) (spinBefore idx ws p 8 + 20) else spinBefore idx ws p k

theorem storeElements_spinBefore (idx : Nat) (ws : List Word) (s : State) {k : Nat} (hk : k < 21) :
    (storeElements 0x20 idx ws s).spin.list.getD k 0 = spinBefore idx ws s.spin k := by
  rw [storeElements_spin_getD idx ws s hk, spinBefore]
  exact if_congr Iff.rfl (clampNat_eq_max_min (spinRange_le hk) _) rfl

/-- R74: WEIGH_HI held at WEIGH_LO + 20. -/
theorem weighClamp_list (p : SpinSettings) : p.weighClamp.list = p.list.set 9 (max p.weighHi (p.weighLo + 20)) := by
  unfold SpinSettings.weighClamp
  split_ifs with h
  · rw [max_eq_right (by omega)]; rfl
  · rw [max_eq_left (by omega)]; rfl

theorem weighFix_list (idx : Nat) (ws : List Word) {s : State} (hs : spinInRange s.spin = true) {k : Nat} (hk : k < 21) :
    (weighFix 0x20 idx ws.length (storeElements 0x20 idx ws s)).spin.list.getD k 0 = spinAfter idx ws s.spin k := by
  have hlo : (storeElements 0x20 idx ws s).spin.weighLo = spinBefore idx ws s.spin 8 :=
    storeElements_spinBefore idx ws s (k := 8) (by decide)
  have hhi : (storeElements 0x20 idx ws s).spin.weighHi = spinBefore idx ws s.spin 9 :=
    storeElements_spinBefore idx ws s (k := 9) (by decide)
  unfold weighFix
  split_ifs with htouched
  · show (storeElements 0x20 idx ws s).spin.weighClamp.list.getD k 0 = _
    rw [weighClamp_list, spinAfter, hlo, hhi]
    by_cases h9 : k = 9
    · subst h9
      rw [if_pos rfl]
      simp [List.getD_eq_getElem?_getD]
    · rw [if_neg h9, ← storeElements_spinBefore idx ws s hk]
      simp [List.getD_eq_getElem?_getD, List.getElem?_set_ne (Ne.symm h9)]
  · rw [storeElements_spinBefore idx ws s hk, spinAfter]
    split_ifs with h9
    · subst h9
      have hnone : touches idx ws.length 8 = false ∧ touches idx ws.length 9 = false := by
        simpa using htouched
      have hle := ((spinInRange_iff _).mp hs).2
      have h8 : spinBefore idx ws s.spin 8 = s.spin.weighLo := by rw [spinBefore, hnone.1]; rfl
      have h9 : spinBefore idx ws s.spin 9 = s.spin.weighHi := by rw [spinBefore, hnone.2]; rfl
      rw [h8, h9]
      omega
    · rfl

theorem storeWrite_spin (idx : Nat) (ws : List Word) (s : State) :
    (storeWrite 0x20 idx ws s).spin = (weighFix 0x20 idx ws.length (storeElements 0x20 idx ws s)).spin := by
  unfold storeWrite capFix
  split_ifs <;> rfl

/-- R74, R164: each setting after the write. -/
theorem storeWrite_spinAfter (idx : Nat) (ws : List Word) {s : State} (hs : spinInRange s.spin = true) {k : Nat}
    (hk : k < 21) : (storeWrite 0x20 idx ws s).spin.list.getD k 0 = spinAfter idx ws s.spin k := by
  rw [storeWrite_spin]
  exact weighFix_list idx ws hs hk

/-- R92, R164: a write of spin settings moves the settings and the contents alone. -/
theorem storeWrite_spin_frame (idx : Nat) (ws : List Word) (s : State) :
    storeWrite 0x20 idx ws s = { s with
      spin := (storeWrite 0x20 idx ws s).spin
      ring := { s.ring with contents := (storeWrite 0x20 idx ws s).ring.contents } } := by
  have hstored := storeElements_spin_frame idx ws s
  generalize (storeElements 0x20 idx ws s).spin = p at hstored
  unfold storeWrite capFix weighFix
  rw [hstored]
  split_ifs <;> rfl

/-- R121: the contents held at a new CHAMBER_CAP. -/
theorem storeWrite_contents (idx : Nat) (ws : List Word) {s : State} (hs : spinInRange s.spin = true) (c : Fin 4) :
    (storeWrite 0x20 idx ws s).ring.contents[c] =
      if touches idx ws.length 11 then min (spinAfter idx ws s.spin 11) s.ring.contents[c] else s.ring.contents[c] := by
  have hcap : (weighFix 0x20 idx ws.length (storeElements 0x20 idx ws s)).spin.chamberCap = spinAfter idx ws s.spin 11 :=
    weighFix_list idx ws hs (k := 11) (by decide)
  have hring : (weighFix 0x20 idx ws.length (storeElements 0x20 idx ws s)).ring = s.ring := by
    rw [weighFix_ring, storeElements_spin_frame]
  unfold storeWrite capFix
  cases h11 : touches idx ws.length 11 with
  | false =>
    rw [if_neg (by simp), hring]
    rfl
  | true =>
    rw [if_pos ⟨rfl, rfl⟩]
    dsimp only
    rw [hcap, hring]
    simp [mapAll]

end Sys2Proof.Machine
end

section
/-! SUPPORT. A WRITE of spin settings: the answer and the effects (R164). -/

namespace Sys2Proof.Machine

open Sys2Proof.Safety

/-! ### The answer -/

theorem spinBefore_lt (idx : Nat) (ws : List Word) {p : SpinSettings} (hp : spinInRange p = true) {k : Nat} (hk : k < 21) :
    (spinRange k).1 ≤ spinBefore idx ws p k ∧ spinBefore idx ws p k ≤ (spinRange k).2 := by
  have hle := spinRange_le hk
  unfold spinBefore
  split_ifs
  · omega
  · exact ((spinInRange_iff p).mp hp).1 k hk

theorem spinRange_lt {k : Nat} (hk : k < 21) : (spinRange k).2 < 65536 := by
  have hall : ∀ k < 21, (spinRange k).2 < 65536 := by decide
  exact hall k hk

theorem spinAfter_lt (idx : Nat) (ws : List Word) {p : SpinSettings} (hp : spinInRange p = true) {k : Nat} (hk : k < 21) :
    spinAfter idx ws p k < 65536 := by
  unfold spinAfter
  split_ifs
  · have h9 := spinBefore_lt idx ws hp (k := 9) (by decide)
    have h8 := spinBefore_lt idx ws hp (k := 8) (by decide)
    have h9' : (spinRange 9).2 = 600 := rfl
    have h8' : (spinRange 8).2 = 400 := rfl
    omega
  · exact (spinBefore_lt idx ws hp hk).2.trans_lt (spinRange_lt hk)

/-- R163: the elements of an accepted write of spin settings as they read afterwards. -/
theorem storeWrite_spin_read (idx : Nat) (ws : List Word) {s : State} (hs : spinInRange s.spin = true)
    (hinside : idx + ws.length ≤ 21) :
    (storeWrite 0x20 idx ws s).readWords 0x20 idx ws.length =
      (List.range ws.length).map fun k => uWord (spinAfter idx ws s.spin (idx + k)) := by
  show (((storeWrite 0x20 idx ws s).spin.list.map uWord).drop idx).take ws.length = _
  apply List.ext_getElem
  · simp; omega
  · intro k hk hk'
    have hk'' : k < ws.length := by simpa using hk'
    have hafter := storeWrite_spinAfter idx ws hs (k := idx + k) (by omega)
    rw [List.getD_eq_getElem _ _ (by rw [SpinSettings.list_length]; omega)] at hafter
    simp only [List.getElem_take, List.getElem_drop, List.getElem_map, List.getElem_range]
    exact congrArg uWord hafter

/-- R74, R164: the conditions under which no element was stored other than given. -/
theorem spin_writeClamped (idx : Nat) (ws : List Word) {s : State} (hs : spinInRange s.spin = true)
    (hinside : idx + ws.length ≤ 21) :
    writeClamped 0x20 idx ws s = false ↔
      (∀ k < 21, touches idx ws.length k = true → spinAfter idx ws s.spin k = (ws.getD (k - idx) 0).toNat) ∧
        (spinAfter idx ws s.spin 9 = spinBefore idx ws s.spin 9 ∨
          (touches idx ws.length 8 = false ∧ touches idx ws.length 9 = false)) := by
  have hread : (storeWrite 0x20 idx ws s).readWords 0x20 idx ws.length = ws ↔
      ∀ k < 21, touches idx ws.length k = true → spinAfter idx ws s.spin k = (ws.getD (k - idx) 0).toNat := by
    rw [storeWrite_spin_read idx ws hs hinside]
    constructor
    · intro h k hk htouches
      rw [touches_eq, decide_eq_true_eq] at htouches
      obtain ⟨j, rfl⟩ : ∃ j, k = idx + j := ⟨k - idx, by omega⟩
      have hj : j < ws.length := by omega
      have hget := congrArg (fun l => l.getD j 0) h
      simp only [List.getD_eq_getElem?_getD, List.getElem?_map, List.getElem?_range hj, Option.map_some,
        Option.getD_some] at hget
      rw [Nat.add_sub_cancel_left, List.getD_eq_getElem?_getD, ← hget, uWord, BitVec.toNat_ofNat,
        Nat.mod_eq_of_lt (spinAfter_lt idx ws hs hk)]
    · intro h
      apply List.ext_getElem (by simp)
      intro j hj hj'
      have hjs := h (idx + j) (by omega) (by rw [touches_eq, decide_eq_true_eq]; omega)
      rw [Nat.add_sub_cancel_left, List.getD_eq_getElem _ _ hj'] at hjs
      simp only [List.getElem_map, List.getElem_range]
      exact (uWord_eq_iff (spinAfter_lt idx ws hs (by omega)) _).mpr hjs
  have hhi : (storeWrite 0x20 idx ws s).spin.weighHi = (storeElements 0x20 idx ws s).spin.weighHi ↔
      spinAfter idx ws s.spin 9 = spinBefore idx ws s.spin 9 := by
    rw [← storeElements_spinBefore idx ws s (k := 9) (by decide), ← storeWrite_spinAfter idx ws hs (k := 9) (by decide)]
    rfl
  have huntouched : touches idx ws.length 8 = false ∧ touches idx ws.length 9 = false →
      spinAfter idx ws s.spin 9 = spinBefore idx ws s.spin 9 := by
    rintro ⟨h8, h9⟩
    rw [← hhi, storeWrite_spin, weighFix, if_neg (by simp [h8, h9])]
  unfold writeClamped
  rw [Bool.and_eq_false_iff]
  have hobj : ¬((0x20 : Byte) != 0x01) = false := by decide
  rw [or_iff_right hobj, Bool.or_eq_false_iff, bne_eq_false_iff_eq, bne_eq_false_iff_eq, hread, hhi]
  exact and_congr_right fun _ => ⟨.inl, fun h => h.elim id huntouched⟩

/-! ### The acceptance -/

/-- R164: a WRITE of spin settings in IDLE is accepted. -/
theorem spin_accepted {s : State} {tag index : Byte} {ws : List Word} (hsome : 0 < ws.length) (hfew : ws.length ≤ 10)
    (hinside : index.toNat + ws.length ≤ 21) (hidle : s.session.state = .idle) :
    writeFailure { tag := tag, op := 2, object := 0x20, index := index, data := ws.flatMap be16 } s = none := by
  have hwords : (⟨tag, 2, 0x20, index, ws.flatMap be16⟩ : Request).words = ws := dataWords_flatMap_be16 ws
  refine writeFailure_eq_none (size := 21) rfl ?_ ?_ (fun _ _ => rfl) (fun _ => hidle) rfl
  · have hlength := flatMap_be16_length ws
    rw [← Bool.not_eq_true, badWrite_iff]
    dsimp only
    omega
  · rw [hwords]; exact hinside

/-! ### The effects -/

/-- R122, R135: what the elements written are read by stands at the end. -/
theorem spinWritten_stands (ch : Choice) {idx n : Nat} {i : Invariant} (hi : i ∈ readBy 0x20 (touches idx n)) (s : State) :
    i.Stands (spinWritten ch idx n s) :=
  inOrder_brings i.Stands (fun _ hf v => spinEffects_keepsAll hf v i List.not_mem_nil) (spinEffects_bring ch hi)

/-- R135: with RETAIN_SPEED not written the bleed timer stands. -/
theorem spinWritten_bleed (ch : Choice) {idx n : Nat} (h : touches idx n 2 = false) (s : State) :
    (spinWritten ch idx n s).ring.bleed = s.ring.bleed := by
  refine inOrder_keeps (fun u => u.ring.bleed = s.ring.bleed) rfl fun f hf v hv => ?_
  refine spinEffects_keep (P := fun u => u.ring.bleed = s.ring.bleed) (fun u hu => by simpa using hu)
    (fun h2 => absurd (h2.symm.trans h) (by decide)) (fun u hu => by simpa using hu) (fun _ u hu => ?_)
    (fun c u hu => (judgeCause_bleed ch c u).trans hu) hf hv
  unfold judgeTail
  split_ifs <;> exact hu

/-- R130: a trip leaves a context that is not ACTIVE. -/
theorem judgeCause_ctx (ch : Choice) (c : Cause) {s : State} (h : s.ring.ctx.state ≠ .active) :
    (judgeCause ch c s).ring.ctx = s.ring.ctx := by
  unfold judgeCause
  split_ifs
  · rfl
  · rw [(setTrip_trippedBy ch c s).ring, ringAbort_not_active h]
  · rfl

/-- R132: with FLOW_TAIL not written, or not yet run, a tail goes on. -/
theorem spinWritten_tail_stands (ch : Choice) {idx n : Nat} {s : State} (htail : s.ring.ctx.state = .tail)
    (h : touches idx n 14 = false ∨ elapsed s.now s.ring.ctx.endTime < s.spin.flowTail * 1000) :
    (spinWritten ch idx n s).ring.ctx = s.ring.ctx := by
  have hactive : ∀ u : State, u.ring.ctx = s.ring.ctx → u.ring.ctx.state ≠ .active := fun u hu => by
    rw [hu, htail]; decide
  refine (inOrder_keeps (fun u => u.ring.ctx = s.ring.ctx ∧ u.now = s.now ∧ u.spin = s.spin) ⟨rfl, rfl, rfl⟩
    fun f hf v hv => ?_).1
  refine spinEffects_keep (P := fun u => u.ring.ctx = s.ring.ctx ∧ u.now = s.now ∧ u.spin = s.spin)
    (fun u hu => by simpa using hu) (fun _ u hu => hu) (fun u hu => by simpa using hu) (fun h14 u hu => ?_)
    (fun c u hu => ⟨(judgeCause_ctx ch c (hactive u hu.1)).trans hu.1, by simpa using hu.2⟩) hf hv
  obtain ⟨hctx, hnow, hspin⟩ := hu
  have hwaits : elapsed u.now u.ring.ctx.endTime < u.spin.flowTail * 1000 := by
    rw [hctx, hnow, hspin]
    exact h.resolve_left (by rw [h14]; decide)
  have hnot : ¬(u.ring.ctx.state = .tail ∧ u.spin.flowTail * Config.msMicros ≤ elapsed u.now u.ring.ctx.endTime) :=
    fun hdue => absurd hdue.2 (Nat.not_le.mpr hwaits)
  rw [judgeTail, if_neg hnot]
  exact ⟨hctx, hnow, hspin⟩

/-- R132: a tail on its way to its end: as it stood, or closed. -/
def TailEnds (s u : State) : Prop :=
  (u.ring.ctx = s.ring.ctx ∨ u.ring.ctx = { s.ring.ctx with state := .closed }) ∧ u.now = s.now ∧ u.spin = s.spin

theorem TailEnds.not_active {s u : State} (h : TailEnds s u) (htail : s.ring.ctx.state = .tail) :
    u.ring.ctx.state ≠ .active := by
  rcases h.1 with hctx | hctx <;> rw [hctx]
  · rw [htail]; decide
  · exact nofun

/-- R132: the tail judged at the write closes, and stays closed. -/
theorem TailEnds.judgeTail {s u : State} (h : TailEnds s u) (htail : s.ring.ctx.state = .tail)
    (hrun : s.spin.flowTail * 1000 ≤ elapsed s.now s.ring.ctx.endTime) :
    (judgeTail u).ring.ctx = { s.ring.ctx with state := .closed } ∧ TailEnds s (judgeTail u) := by
  obtain ⟨hctx, hnow, hspin⟩ := h
  unfold Machine.judgeTail
  rcases hctx with hctx | hctx
  · have hdue : u.ring.ctx.state = .tail ∧ u.spin.flowTail * Config.msMicros ≤ elapsed u.now u.ring.ctx.endTime := by
      rw [hctx, hnow, hspin]; exact ⟨htail, hrun⟩
    rw [if_pos hdue, hctx]
    exact ⟨rfl, .inr rfl, hnow, hspin⟩
  · rw [if_neg (by rw [hctx]; exact nofun)]
    exact ⟨hctx, .inr hctx, hnow, hspin⟩

/-- R132: what an effect of the write leaves of a tail on its way. -/
theorem TailEnds.effect {s u : State} (h : TailEnds s u) (htail : s.ring.ctx.state = .tail)
    (hrun : s.spin.flowTail * 1000 ≤ elapsed s.now s.ring.ctx.endTime) {ch : Choice} {idx n : Nat} {f : State → State}
    (hf : f ∈ spinEffects ch idx n) : TailEnds s (f u) :=
  spinEffects_keep (P := TailEnds s) (fun _ hv => by simpa [TailEnds] using hv) (fun _ _ hv => hv)
    (fun _ hv => by simpa [TailEnds] using hv) (fun _ _ hv => (hv.judgeTail htail hrun).2)
    (fun c _ hv => by
      obtain ⟨hctx, hnow, hspin⟩ := id hv
      exact ⟨by rw [judgeCause_ctx ch c (hv.not_active htail)]; exact hctx, by simpa using hnow, by simpa using hspin⟩) hf h

/-- R132: a tail that has run the new FLOW_TAIL closes. -/
theorem spinWritten_tail_closes (ch : Choice) {idx n : Nat} {s : State} (htail : s.ring.ctx.state = .tail)
    (h14 : touches idx n 14 = true) (hrun : s.spin.flowTail * 1000 ≤ elapsed s.now s.ring.ctx.endTime) :
    (spinWritten ch idx n s).ring.ctx = { s.ring.ctx with state := .closed } := by
  refine inOrder_brings_under (TailEnds s) (fun u => u.ring.ctx = { s.ring.ctx with state := .closed })
    ⟨.inl rfl, rfl, rfl⟩ (fun f hf u hu => hu.effect htail hrun hf) (fun f hf u hu hclosed => ?_)
    ⟨onlyIf (touches idx n 14) judgeTail, by simp, fun u hu => ?_⟩
  · refine (spinEffects_keep (P := fun v => v.ring.ctx = { s.ring.ctx with state := .closed } ∧ TailEnds s v)
      (fun v hv => ⟨by simpa using hv.1, by simpa [TailEnds] using hv.2⟩) (fun _ v hv => hv)
      (fun v hv => ⟨by simpa using hv.1, by simpa [TailEnds] using hv.2⟩) (fun _ v hv => hv.2.judgeTail htail hrun)
      (fun c v hv => ?_) hf ⟨hclosed, hu⟩).1
    have hctx := (judgeCause_ctx ch c (hv.2.not_active htail)).trans hv.1
    exact ⟨hctx, .inr hctx, by simpa using hv.2.2.1, by simpa using hv.2.2.2⟩
  · rw [h14]
    exact (hu.judgeTail htail hrun).1

/-! ### The write -/

/-- R164: the state with the spin settings stored and the answer queued, before the effects. -/
def spinStoredState (m : Moment) (tag index : Byte) (ws : List Word) (rest : List Request) (s : State) : State :=
  let u : State := { tick m s with requests := rest }
  respond { tag := tag, op := 2, object := 0x20, index := index, data := ws.flatMap be16 }
    (if writeClamped 0x20 index.toNat ws u then stClamped else stOk)
    ((List.range ws.length).map fun k => uWord (spinAfter index.toNat ws s.spin (index.toNat + k)))
    (storeWrite 0x20 index.toNat ws u)

theorem exec_spin_write (m : Moment) {s : State} {tag index : Byte} {ws : List Word} {rest : List Request}
    (hheld : s.held = false)
    (hfront : s.requests = { tag := tag, op := 2, object := 0x20, index := index, data := ws.flatMap be16 } :: rest)
    (hroom : s.portC.localQ.length < 4) (hidle : s.session.state = .idle) (hsome : 0 < ws.length) (hfew : ws.length ≤ 10)
    (hinside : index.toNat + ws.length ≤ 21) (hrange : spinInRange s.spin = true) :
    exec (.write m) s =
      .next (spinWritten m.choice index.toNat ws.length (spinStoredState m tag index ws rest s)) := by
  have hwords : (⟨tag, 2, 0x20, index, ws.flatMap be16⟩ : Request).words = ws := dataWords_flatMap_be16 ws
  have haccepted := spin_accepted (s := { tick m s with requests := rest }) (tag := tag) hsome hfew hinside hidle
  have hread := storeWrite_spin_read index.toNat ws (s := { tick m s with requests := rest }) hrange hinside
  rw [exec_write m hheld hfront rfl hroom, runWrite, haccepted]
  dsimp only
  rw [runAccepted]
  dsimp only
  rw [hwords, hread]
  rfl

/-- R164: the answer to a write of spin settings, its status as the settings stored give it. -/
def spinAnswer (tag : Byte) (idx : Nat) (ws : List Word) (p : SpinSettings) : QFrame :=
  { cls := 0x3D
    payload :=
      [tag, 2, if (List.range 21).all (fun k => !touches idx ws.length k || spinAfter idx ws p k == (ws.getD (k - idx) 0).toNat) &&
          (spinAfter idx ws p 9 == spinBefore idx ws p 9 || !(touches idx ws.length 8 || touches idx ws.length 9)) then 0
        else 1, 0x20] ++
        ((List.range ws.length).map fun k => BitVec.ofNat 16 (spinAfter idx ws p (idx + k))).flatMap be16
    changed := false
    restated := false }

theorem spinStoredState_answer (m : Moment) {s : State} {tag index : Byte} {ws : List Word} {rest : List Request}
    (hinside : index.toNat + ws.length ≤ 21) (hrange : spinInRange s.spin = true) (hbusy : s.portC.sending ≠ none) :
    AnswerStands s.portC.localQ.length (spinAnswer tag index.toNat ws s.spin)
      (spinStoredState m tag index ws rest s) := by
  generalize hu : ({ tick m s with requests := rest } : State) = u
  have hspin : u.spin = s.spin := by rw [← hu]; rfl
  have hclamped := spin_writeClamped index.toNat ws (s := u) (by rw [hspin]; exact hrange) hinside
  rw [hspin] at hclamped
  have hok : ((List.range 21).all (fun k => !touches index.toNat ws.length k ||
      spinAfter index.toNat ws s.spin k == (ws.getD (k - index.toNat) 0).toNat) &&
        (spinAfter index.toNat ws s.spin 9 == spinBefore index.toNat ws s.spin 9 ||
          !(touches index.toNat ws.length 8 || touches index.toNat ws.length 9))) = true ↔
      writeClamped 0x20 index.toNat ws u = false := by
    rw [hclamped]
    simp only [Bool.and_eq_true, List.all_eq_true, List.mem_range, Bool.or_eq_true, Bool.not_eq_true', beq_iff_eq,
      Bool.or_eq_false_iff]
    exact and_congr_left' (forall₂_congr fun k _ => by cases touches index.toNat ws.length k <;> simp)
  have hstored : (storeWrite 0x20 index.toNat ws u).portC = s.portC := by
    rw [(storeWrite_same 0x20 index.toNat ws u).portC, ← hu]; rfl
  have hstands := respond_answerStands (s := storeWrite 0x20 index.toNat ws u) (by rw [hstored]; exact hbusy)
    { tag := tag, op := 2, object := 0x20, index := index, data := ws.flatMap be16 }
    (if writeClamped 0x20 index.toNat ws u then stClamped else stOk)
    ((List.range ws.length).map fun k => uWord (spinAfter index.toNat ws s.spin (index.toNat + k)))
  rw [hstored] at hstands
  have hframe : responseFrame { tag := tag, op := 2, object := 0x20, index := index, data := ws.flatMap be16 }
      (if writeClamped 0x20 index.toNat ws u then stClamped else stOk)
      ((List.range ws.length).map fun k => uWord (spinAfter index.toNat ws s.spin (index.toNat + k))) =
        spinAnswer tag index.toNat ws s.spin := by
    cases hc : writeClamped 0x20 index.toNat ws u with
    | false => rw [spinAnswer, if_pos (hok.mpr hc)]; rfl
    | true => rw [spinAnswer, if_neg (fun h => absurd ((hok.mp h).symm.trans hc) (by decide))]; rfl
  rw [spinStoredState, hu, ← hframe]
  exact hstands

/-- R74, R92, R118, R121, R122, R132, R135, R164: a write of spin settings, in terms of `spinAfter`. -/
theorem spin_written (m : Moment) {s : State} (tag : Byte) {index : Byte} {ws : List Word} (rest : List Request)
    (hinside : index.toNat + ws.length ≤ 21) (hrange : spinInRange s.spin = true) :
    let idx := index.toNat
    let after := spinAfter idx ws s.spin
    let t := spinWritten m.choice idx ws.length (spinStoredState m tag index ws rest s)
    ((∀ k, k < 21 → t.spin.list.getD k 0 = after k) ∧
      (s.portC.sending ≠ none → t.portC.localQ[s.portC.localQ.length]? = some (spinAnswer tag idx ws s.spin)) ∧
      (∀ c : Fin 4, t.ring.contents[c] =
        (if touches idx ws.length 11 then min (after 11) s.ring.contents[c] else s.ring.contents[c])) ∧
      (touches idx ws.length 11 = true →
        t.events.live.getLsbD 6 = t.ring.contents.toList.any (fun g => g == t.spin.chamberCap)) ∧
      (touches idx ws.length 14 = true → s.ring.ctx.state = .tail →
        after 14 * 1000 ≤ elapsed (s.now + m.elapsed) s.ring.ctx.endTime → t.ring.ctx = { s.ring.ctx with state := .closed }) ∧
      (touches idx ws.length 14 = false ∨ elapsed (s.now + m.elapsed) s.ring.ctx.endTime < after 14 * 1000 →
        s.ring.ctx.state = .tail → t.ring.ctx = s.ring.ctx) ∧
      (touches idx ws.length 2 = true → t.ring.bleed.isSome = t.speedBelow (after 2)) ∧
      (touches idx ws.length 2 = false → t.ring.bleed = s.ring.bleed)) ∧
    t.tables = s.tables ∧ t.limits = s.limits ∧ t.classTable = s.classTable ∧ t.service = s.service ∧ t.requests = rest := by
  intro idx after t
  let u : State := { tick m s with requests := rest }
  let v : State := spinStoredState m tag index ws rest s
  have heffects : Effects v t := spinWritten_effects m.choice idx ws.length v
  have hinputs := heffects.sameInputs
  have hframe : storeWrite 0x20 idx ws u = { u with
      spin := (storeWrite 0x20 idx ws u).spin
      ring := { u.ring with contents := (storeWrite 0x20 idx ws u).ring.contents } } := storeWrite_spin_frame idx ws u
  have hset : ∀ k < 21, v.spin.list.getD k 0 = after k := fun k hk => storeWrite_spinAfter idx ws (s := u) hrange hk
  have hspin : t.spin = v.spin := hinputs.spin
  have hctx : v.ring.ctx = s.ring.ctx := congrArg (·.ring.ctx) hframe
  have hnow : v.now = s.now + m.elapsed := congrArg (·.now) hframe
  have htail : v.spin.flowTail = after 14 := hset 14 (by decide)
  refine ⟨⟨fun k hk => by rw [hspin]; exact hset k hk,
    fun hbusy => (heffects.answerStands rfl (spinStoredState_answer m hinside hrange hbusy)).2, fun c => ?_, fun h11 => ?_,
    fun h14 hstate hrun => ?_, fun hor hstate => ?_, fun h2 => ?_, fun h2 => ?_⟩, ?_⟩
  · rw [heffects.contents]
    exact storeWrite_contents idx ws (s := u) hrange c
  · exact spinWritten_stands m.choice (i := .live .ringFull) (mem_readBy.mpr ⟨11, by simp [elementReaders], h11⟩) v
  · rw [← hctx] at hstate ⊢
    exact spinWritten_tail_closes m.choice hstate h14 (by rw [htail, hnow, hctx]; exact hrun)
  · rw [← hctx] at hstate ⊢
    exact spinWritten_tail_stands m.choice hstate (by rw [htail, hnow, hctx]; exact hor)
  · have hbleed := spinWritten_stands m.choice (i := .bleed) (mem_readBy.mpr ⟨2, by simp [elementReaders], h2⟩) v
    refine ((bleedSound_iff t).mp hbleed).trans ?_
    rw [hspin, show v.spin.retainSpeed = after 2 from hset 2 (by decide)]
  · exact (spinWritten_bleed m.choice h2 v).trans (congrArg (·.ring.bleed) hframe)
  · exact ⟨hinputs.tables.trans (congrArg (·.tables) hframe), hinputs.limits.trans (congrArg (·.limits) hframe),
      hinputs.classTable.trans (congrArg (·.classTable) hframe), hinputs.service.trans (congrArg (·.service) hframe),
      hinputs.requests.trans (congrArg (·.requests) hframe)⟩

/-- Table 10-3: the range of a setting within the object, whatever the pair read outside it. -/
theorem spinRange_getD {k : Nat} (hk : k < 21) (d : Nat × Nat) :
    [(40, 300), (0, 300), (30, 200), (0, 4), (1, 15), (1, 63), (10, 600), (0, 3), (30, 400), (50, 600), (0, 7), (50, 1000),
      (1, 16), (200, 5000), (0, 1000), (0, 50), (0, 65535), (0, 4096), (0, 20000), (0, 2000), (100, 2000)].getD k d =
      spinRange k := by
  rw [spinRange, List.getD_eq_getElem _ _ (by simpa using hk), List.getD_eq_getElem _ _ (by simpa using hk)]

/-- Settles O48: the settings stored and answered, and each effect by what it brings about or leaves. -/
theorem spinSettingWritten : Obligations.SpinSettingWritten := by
  intro m s tag index ws rest hheld hfront hroom hidle hsome hfew hinside hrange
  refine ⟨_, exec_spin_write m hheld hfront hroom hidle hsome hfew hinside hrange, ?_⟩
  obtain ⟨hwritten, hrest⟩ := spin_written m tag rest hinside hrange
  refine ⟨?_, hrest⟩
  intro ranges touched given clamped before after
  have htouched : touched = touches index.toNat ws.length := funext fun k => (touches_eq _ _ k).symm
  have hbefore : before = spinBefore index.toNat ws s.spin := by
    funext k
    by_cases hk : touches index.toNat ws.length k = true
    · have hbound : k < 21 := by
        rw [touches_eq] at hk
        exact (of_decide_eq_true hk).2.trans_le hinside
      have hclamped : clamped k = max (spinRange k).1 (min (spinRange k).2 (given k)) := by
        simp only [clamped, ranges, spinRange_getD hbound]
      have hnow : touched k = true := by rw [htouched, hk]
      rw [spinBefore, if_pos hk, ← hclamped]
      exact if_pos hnow
    · have hnow : ¬ touched k = true := by rwa [htouched]
      rw [spinBefore, if_neg hk]
      exact if_neg hnow
  have hafter : after = spinAfter index.toNat ws s.spin := by
    funext k
    simp only [after, spinAfter, hbefore]
  rw [hafter, hbefore, htouched]
  exact hwritten

end Sys2Proof.Machine
end


section
/-! SUPPORT. The receive framer: bytes examined with steps enough, a byte from the line in time and a run of bytes, and what the framers keep while a frame is taken. -/

namespace Sys2Proof.Machine
open Sys2Proof.Safety

/-! ### Bytes examined in turn -/

/-- Log 30: steps that suffice to examine the bytes: no pass is longer than the bytes held, and each fault discards one. -/
def Framer.need (bytes : List Byte) (f : Framer) : Nat :=
  (f.stored.length + bytes.length) * (f.stored.length + bytes.length) + bytes.length

/-- R4 to R6: a byte examined is stored at the most and moves no arrival time; behind a fault it is stored, the last, and
the framer stands as it was but for it. -/
structure Framer.Examined (v : Byte) (f : Framer) (r : Framer × Found) : Prop where
  stored : r.1.stored.length ≤ f.stored.length + 1
  lastByte : r.1.lastByte = f.lastByte
  fault : r.2 = .fault → r.1 = f.store v

theorem Framer.store_examined (v : Byte) (f : Framer) (phase : FramerPhase) (length : Nat) :
    Framer.Examined v f ({ f.store v with phase := phase, length := length }, .nothing) :=
  ⟨by simp [Framer.store], rfl, nofun⟩

theorem Framer.fault_examined (v : Byte) (f : Framer) : Framer.Examined v f (f.store v, .fault) :=
  ⟨by simp [Framer.store], rfl, fun _ => rfl⟩

theorem Framer.examine_examined (link : Link) (v : Byte) (f : Framer) : Framer.Examined v f (f.examine link v) := by
  have hstored := Framer.store_examined v f
  have hfault := Framer.fault_examined v f
  unfold Framer.examine
  split
  · split
    · exact ⟨by simp, rfl, nofun⟩
    · exact ⟨by simp, rfl, nofun⟩
  · unfold Framer.header
    dsimp only
    split
    · split
      · exact hstored f.phase f.length
      · exact hfault
    · split
      · exact hstored f.phase f.length
      · split
        · exact hstored _ _
        · exact hfault
  · exact hstored _ f.length
  · dsimp only
    split
    · split
      · exact ⟨by simp [Framer.hunting], rfl, nofun⟩
      · exact hfault
    · exact hstored f.phase f.length

theorem Framer.examine_fault {link : Link} {v : Byte} {f g : Framer} (h : f.examine link v = (g, .fault)) :
    g = f.store v := by
  have hexamined := Framer.examine_examined link v f
  rw [h] at hexamined
  exact hexamined.fault rfl

/-- Log 30: a byte that is no fault leaves fewer steps to take. -/
theorem Framer.need_next (link : Link) (v : Byte) (rest : List Byte) (f : Framer) :
    Framer.need rest (f.examine link v).1 < Framer.need (v :: rest) f := by
  have hle := (Framer.examine_examined link v f).stored
  simp only [Framer.need, List.length_cons]
  have hsum : (f.examine link v).1.stored.length + rest.length ≤ f.stored.length + (rest.length + 1) := by omega
  have hsquare := Nat.mul_self_le_mul_self hsum
  omega

/-- Log 30: a fault leaves fewer steps to take, the start byte being discarded. -/
theorem Framer.need_again (v : Byte) (rest : List Byte) (f : Framer) :
    Framer.need ((f.store v).stored.tail ++ rest) (f.store v).hunting < Framer.need (v :: rest) f := by
  have htail : ((f.store v).stored.tail ++ rest).length = f.stored.length + rest.length := by
    simp [Framer.store]
  simp only [Framer.need, htail, Framer.hunting, List.length_nil, List.length_cons, Nat.zero_add, ← Nat.add_assoc]
  have hle : f.stored.length ≤ f.stored.length + rest.length := Nat.le_add_right _ _
  generalize f.stored.length + rest.length = n at hle ⊢
  nlinarith

/-- R5: with steps enough the number of steps is no matter. -/
theorem Framer.work_enough (link : Link) {n k : Nat} {bytes : List Byte} {f : Framer} (hn : Framer.need bytes f ≤ n)
    (hk : Framer.need bytes f ≤ k) : Framer.work link n bytes f = Framer.work link k bytes f := by
  induction n generalizing k bytes f with
  | zero =>
    have hnil : bytes = [] := by
      rw [← List.length_eq_zero_iff]
      unfold Framer.need at hn
      omega
    subst hnil
    cases k <;> rfl
  | succ n ih =>
    cases bytes with
    | nil => cases k <;> rfl
    | cons v rest =>
      cases k with
      | zero => simp [Framer.need] at hk
      | succ k =>
        have hnext := Framer.need_next link v rest f
        unfold Framer.work
        cases hfound : f.examine link v with
        | mk g found =>
          simp only [hfound] at hnext
          cases found with
          | nothing => exact ih (by omega) (by omega)
          | good => simp only [ih (k := k) (bytes := rest) (f := g) (by omega) (by omega)]
          | fault =>
            have hagain := Framer.need_again v rest f
            cases Framer.examine_fault hfound
            simp only [ih (k := k) (bytes := (f.store v).stored.tail ++ rest) (f := (f.store v).hunting) (by omega) (by omega)]

/-- R5: bytes examined in turn to the end. -/
def Framer.settle (link : Link) (bytes : List Byte) (f : Framer) : Framer × List Report :=
  Framer.work link (Framer.need bytes f) bytes f

theorem Framer.work_settle (link : Link) {n : Nat} {bytes : List Byte} {f : Framer} (h : Framer.need bytes f ≤ n) :
    Framer.work link n bytes f = Framer.settle link bytes f :=
  Framer.work_enough link h le_rfl

@[simp] theorem Framer.settle_nil (link : Link) (f : Framer) : Framer.settle link [] f = (f, []) := by
  unfold Framer.settle
  cases Framer.need [] f <;> rfl

section

variable {link : Link} {v : Byte} {f g : Framer} (rest : List Byte)

theorem Framer.settle_nothing (h : f.examine link v = (g, .nothing)) :
    Framer.settle link (v :: rest) f = Framer.settle link rest g := by
  have hnext := Framer.need_next link v rest f
  rw [h] at hnext
  rw [← Framer.work_settle link (Nat.le_succ_of_le le_rfl), Framer.work, h]
  exact Framer.work_settle link hnext.le

theorem Framer.settle_good {cls : Class} {seq : Byte} {payload : List Byte}
    (h : f.examine link v = (g, .good cls seq payload)) :
    Framer.settle link (v :: rest) f =
      ((Framer.settle link rest g).1, .taken cls seq payload :: (Framer.settle link rest g).2) := by
  have hnext := Framer.need_next link v rest f
  rw [h] at hnext
  rw [← Framer.work_settle link (Nat.le_succ_of_le le_rfl), Framer.work, h]
  simp only [Framer.work_settle link hnext.le]

theorem Framer.settle_fault (h : f.examine link v = (g, .fault)) :
    Framer.settle link (v :: rest) f =
      ((Framer.settle link (g.stored.tail ++ rest) g.hunting).1,
        .error :: (Framer.settle link (g.stored.tail ++ rest) g.hunting).2) := by
  have hagain := Framer.need_again v rest f
  rw [← Framer.examine_fault h] at hagain
  rw [← Framer.work_settle link (Nat.le_succ_of_le le_rfl), Framer.work, h]
  simp only [Framer.work_settle link hagain.le]

end

/-- R5: bytes examined in turn, the steps of the first part before those of the second. -/
theorem Framer.settle_append (link : Link) (bytes rest : List Byte) (f : Framer) :
    Framer.settle link (bytes ++ rest) f =
      ((Framer.settle link rest (Framer.settle link bytes f).1).1,
        (Framer.settle link bytes f).2 ++ (Framer.settle link rest (Framer.settle link bytes f).1).2) := by
  induction hn : Framer.need bytes f using Nat.strong_induction_on generalizing bytes f with
  | _ n ih =>
    cases bytes with
    | nil => simp
    | cons v bytes =>
      have hnext := Framer.need_next link v bytes f
      rw [List.cons_append]
      cases hfound : f.examine link v with
      | mk g found =>
        rw [hfound] at hnext
        cases found with
        | nothing =>
          rw [Framer.settle_nothing _ hfound, Framer.settle_nothing _ hfound]
          exact ih _ (hn ▸ hnext) bytes g rfl
        | good cls seq payload =>
          rw [Framer.settle_good _ hfound, Framer.settle_good _ hfound, ih _ (hn ▸ hnext) bytes g rfl]
          rfl
        | fault =>
          have hagain := Framer.need_again v bytes f
          rw [← Framer.examine_fault hfound] at hagain
          rw [Framer.settle_fault _ hfound, Framer.settle_fault _ hfound, ← List.append_assoc,
            ih _ (hn ▸ hagain) (g.stored.tail ++ bytes) g.hunting rfl]
          rfl

/-- R4: no byte examined moves the arrival time. -/
theorem Framer.work_lastByte (link : Link) (n : Nat) (bytes : List Byte) (f : Framer) :
    (Framer.work link n bytes f).1.lastByte = f.lastByte := by
  induction n generalizing bytes f with
  | zero => rfl
  | succ n ih =>
    cases bytes with
    | nil => rfl
    | cons v rest =>
      have hlast := (Framer.examine_examined link v f).lastByte
      unfold Framer.work
      cases hfound : f.examine link v with
      | mk g found =>
        rw [hfound] at hlast
        cases found with
        | nothing => exact (ih rest g).trans hlast
        | good => exact (ih rest g).trans hlast
        | fault => exact (ih _ g.hunting).trans hlast

/-! ### A byte from the line -/

theorem Framer.need_one (v : Byte) (f : Framer) : Framer.need [v] f ≤ f.fuel := by
  simp only [Framer.need, Framer.fuel, List.length_cons, List.length_nil]
  nlinarith

theorem Framer.receive_high (link : Link) (now : Time) (v : Byte) (f : Framer) :
    f.receive link now { value := v, stopHigh := true } = Framer.settle link [v] { f with lastByte := now } := by
  unfold Framer.receive
  rw [if_pos rfl]
  exact Framer.work_settle link (Framer.need_one v { f with lastByte := now })

theorem Framer.overdue_of_le {now : Time} {f : Framer} (h : elapsed now f.lastByte ≤ 100) : f.overdue now = false := by
  exact Bool.and_eq_false_imp.mpr fun _ => decide_eq_false (Nat.not_lt.mpr h)

theorem Framer.overdue_of_hunt {now : Time} {f : Framer} (h : f.phase = .hunt) : f.overdue now = false := by
  simp [Framer.overdue, h]

/-- R4: a byte in time, or in HUNT, is examined at once. -/
theorem Framer.line_high {link : Link} {now : Time} {v : Byte} {f : Framer} (h : f.overdue now = false) :
    f.line link now { value := v, stopHigh := true } = Framer.settle link [v] { f with lastByte := now } := by
  unfold Framer.line
  rw [if_neg (by simp [h]), Framer.receive_high]

theorem elapsed_self (now : Time) : elapsed now now = 0 := by
  simp [elapsed]

/-- R5: bytes fed at one moment to a framer last fed at it are examined in turn. -/
theorem feed_same_moment (link : Link) (now : Time) (bytes : List Byte) {f : Framer} (h : f.lastByte = now) :
    feed link (bytes.map fun b => (b, now)) f = Framer.settle link bytes f := by
  induction bytes generalizing f with
  | nil => simp [feed]
  | cons v rest ih =>
    have hself : ({ f with lastByte := now } : Framer) = f := by rw [← h]
    have hline : f.line link now { value := v, stopHigh := true } = Framer.settle link [v] f := by
      rw [Framer.line_high (Framer.overdue_of_le (by rw [h, elapsed_self]; omega)), hself]
    have hlast : (Framer.settle link [v] f).1.lastByte = now := (Framer.work_lastByte link _ [v] f).trans h
    rw [List.map_cons, feed, hline, ih hlast]
    exact (Framer.settle_append link [v] rest f).symm

/-- R5: a byte in time that is a fault: one frame error, and the bytes behind the start byte are fed again. -/
theorem Framer.line_fault {link : Link} {now : Time} {v : Byte} {f : Framer} (hdue : f.overdue now = false)
    (hfault : (Framer.examine link v { f with lastByte := now }).2 = .fault) (hsome : f.stored ≠ []) :
    f.line link now { value := v, stopHigh := true } =
      ((feed link ((f.stored.tail ++ [v]).map fun b => (b, now))
        { phase := .hunt, stored := [], lastByte := now, length := f.length }).1,
        .error :: (feed link ((f.stored.tail ++ [v]).map fun b => (b, now))
          { phase := .hunt, stored := [], lastByte := now, length := f.length }).2) := by
  have hfound : Framer.examine link v { f with lastByte := now } =
      (({ f with lastByte := now } : Framer).store v, .fault) :=
    Prod.ext ((Framer.examine_examined link v { f with lastByte := now }).fault hfault) hfault
  rw [Framer.line_high hdue, Framer.settle_fault [] hfound, List.append_nil, feed_same_moment link now _ rfl,
    ← List.tail_append_singleton_of_ne_nil hsome]
  rfl

/-! ### What the framers keep -/

/-- R6: the framers stand. -/
def FramersStand (s t : State) : Prop := t.framerC = s.framerC ∧ t.framerD = s.framerD ∧ t.framerS = s.framerS

theorem FramersStand.refl (s : State) : FramersStand s s := ⟨rfl, rfl, rfl⟩

theorem FramersStand.trans {s t u : State} (h : FramersStand s t) (h' : FramersStand t u) : FramersStand s u :=
  ⟨h'.1.trans h.1, h'.2.1.trans h.2.1, h'.2.2.trans h.2.2⟩

theorem FramersStand.framer {s t : State} (h : FramersStand s t) (link : Link) : t.framer link = s.framer link := by
  cases link
  exacts [h.1, h.2.1, h.2.2]

theorem FramersStand.of_inputs {s t : State} (h : SameInputs s t) : FramersStand s t := ⟨h.framerC, h.framerD, h.framerS⟩

theorem FramersStand.inOrder {code : List Nat} {fs : List (State → State)} {s : State}
    (h : ∀ f ∈ fs, ∀ t, FramersStand t (f t)) : FramersStand s (inOrder code fs s) :=
  inOrder_keeps (FramersStand s) (.refl s) fun f hf t ht => ht.trans (h f hf t)

theorem countSource_framersStand (src : Source) (s : State) : FramersStand s (countSource src s) := by
  simp [FramersStand]

theorem checkSeqC_framersStand (seq : Byte) (s : State) : FramersStand s (checkSeqC seq s) := by
  rw [checkSeqC_listens seq s]
  exact .refl s

theorem checkSeqD_framersStand (seq : Byte) (s : State) : FramersStand s (checkSeqD seq s) := by
  have hcounts := checkSeqD_counts seq s
  unfold CountsOnly at hcounts
  rw [hcounts]
  exact .refl s

theorem dispose_framersStand (ch : Choice) (port : Port) (cls : Class) (payload : List Byte) (s : State) :
    FramersStand s (dispose ch port cls payload s) := by
  unfold dispose
  split
  · cases port <;> simp [passFrame, FramersStand]
  · exact .refl s
  · simp [FramersStand]
  · exact FramersStand.trans (t := recordStatus payload s) ⟨rfl, rfl, rfl⟩
      (.inOrder fun f hf t => .of_inputs (statusReaders_inputs hf t))
  · unfold consumeFrame
    split
    · exact ⟨rfl, rfl, rfl⟩
    · exact countSource_framersStand _ s

theorem sampleFrame_framersStand (payload : List Byte) (s : State) : FramersStand s (sampleFrame payload s) := by
  have hheard : FramersStand s (heardS s) := by simp [heardS, FramersStand]
  have hcount : FramersStand (heardS s) (checkCount (field8 payload 0) (heardS s)) := by
    rw [checkCount_frame]
    exact .refl _
  have huse : ∀ v, FramersStand v (useSample v) := by
    intro v
    unfold useSample
    split <;> exact ⟨rfl, rfl, rfl⟩
  exact (hheard.trans hcount).trans
    (FramersStand.trans (t := recordSample payload (checkCount (field8 payload 0) (heardS s))) ⟨rfl, rfl, rfl⟩ (huse _))

/-- R6: whatever a frame taken does, no framer moves. -/
theorem frameTaken_framersStand (ch : Choice) (link : Link) (cls : Class) (seq : Byte) (payload : List Byte) (s : State) :
    FramersStand s (frameTaken ch link cls seq payload s) := by
  cases link with
  | portC =>
    refine FramersStand.trans (t := hearC ch seq s) ?_ (dispose_framersStand ch .c cls payload _)
    rw [hearC_listens ch seq s]
    exact .refl s
  | portD => exact (checkSeqD_framersStand seq s).trans (dispose_framersStand ch .d cls payload _)
  | portS => exact sampleFrame_framersStand payload s

theorem actOn_framersStand (ch : Choice) (link : Link) (r : Report) (s : State) : FramersStand s (actOn ch link r s) := by
  cases r with
  | error => exact countSource_framersStand _ s
  | taken cls seq payload => exact frameTaken_framersStand ch link cls seq payload s

theorem actOnAll_framersStand (ch : Choice) (link : Link) (l : List Report) (s : State) :
    FramersStand s (l.foldl (fun s x => actOn ch link x s) s) := by
  induction l generalizing s with
  | nil => exact .refl s
  | cons r l ih => exact (actOn_framersStand ch link r s).trans (ih _)

/-! ### A framer replaced -/

@[simp] theorem framer_withFramer (s : State) (link : Link) (f : Framer) : (s.withFramer link f).framer link = f := by
  cases link <;> rfl

theorem framer_withFramer_ne {l link : Link} (h : l ≠ link) (s : State) (f : Framer) :
    (s.withFramer link f).framer l = s.framer l := by
  revert h
  cases l <;> cases link <;> simp [State.framer, State.withFramer]

theorem withFramer_self (s : State) (link : Link) : s.withFramer link (s.framer link) = s := by
  cases link <;> rfl

@[simp] theorem withFramer_now (s : State) (link : Link) (f : Framer) : (s.withFramer link f).now = s.now := by
  cases link <;> rfl

theorem tick_framer (m : Moment) (s : State) (link : Link) : (tick m s).framer link = s.framer link := by
  cases link <;> simp [State.framer]

end Sys2Proof.Machine
end


section
/-! SUPPORT. Bytes on a link: the frame errors counted, the faults of a byte, the bytes stored and the frame completed; the statement of them. -/

namespace Sys2Proof.Machine
open Sys2Proof.Safety

/-! ### What a byte brings -/

section

variable {s : State} (hheld : s.held = false) (m : Moment) (link : Link) (b : LineByte)

include hheld in
theorem exec_byteReceived : exec (.byteReceived m link b) s = .next (lineByte m.choice link b (tick m s)) :=
  happen_live hheld m _

include hheld in
theorem exec_frameError : exec (.frameError m link b) s = .next (lineByte m.choice link b (tick m s)) :=
  happen_live hheld m _

theorem lineByte_tick :
    lineByte m.choice link b (tick m s) =
      ((s.framer link).line link (s.now + m.elapsed) b).2.foldl (fun s x => actOn m.choice link x s)
        ((tick m s).withFramer link ((s.framer link).line link (s.now + m.elapsed) b).1) := by
  rw [lineByte, tick_framer, show (tick m s).now = s.now + m.elapsed by simp]

end

/-! ### Frame errors -/

/-- R5: frame errors, each one occurrence of the port's source. -/
def countErrors (link : Link) (n : Nat) (s : State) : State := (countSource (errorSource link))^[n] s

theorem actOn_replicate (ch : Choice) (link : Link) (n : Nat) (s : State) :
    (List.replicate n Report.error).foldl (fun s x => actOn ch link x s) s = countErrors link n s := by
  induction n generalizing s with
  | zero => rfl
  | succ n ih => exact ih _

theorem countErrors_counts (link : Link) (n : Nat) (s : State) : CountsOnly s (countErrors link n s) := by
  induction n generalizing s with
  | zero => exact .refl s
  | succ n ih => exact (countSource_counts _ s).trans (ih _)

/-- R5, R156: so many occurrences, up to 65535. -/
theorem countErrors_monitor (link : Link) (n : Nat) (s : State) :
    (countErrors link n s).monitor = { s.monitor with
      count := if s.monitor.source = errorSource link ∧ n ≠ 0 then min 65535 (s.monitor.count + n) else s.monitor.count } := by
  induction n generalizing s with
  | zero => simp [countErrors]
  | succ n ih =>
    refine (ih _).trans ?_
    rw [countSource_monitor]
    by_cases hsource : s.monitor.source = errorSource link
    · rw [if_pos hsource]
      by_cases hn : n = 0
      · simp [hsource, hn]
      · have hsum : min 65535 (min 65535 (s.monitor.count + 1) + n) = min 65535 (s.monitor.count + (n + 1)) := by omega
        rw [if_pos ⟨hsource, hn⟩, if_pos ⟨hsource, Nat.succ_ne_zero n⟩, ← hsum]
    · rw [if_neg hsource, if_neg fun h => hsource h.1, if_neg fun h => hsource h.1]

/-- R5: what stands after a framer has reported so many frame errors and nothing else. -/
structure ErrorsCounted (m : Moment) (link : Link) (n : Nat) (g : Framer) (s t : State) : Prop where
  framer : t.framer link = g
  others : ∀ l, l ≠ link → t.framer l = s.framer l
  monitor : t.monitor = { s.monitor with
    count := if s.monitor.source = errorSource link ∧ n ≠ 0 then min 65535 (s.monitor.count + n) else s.monitor.count }
  frame : t = { tick m s with
    framerC := t.framerC, framerD := t.framerD, framerS := t.framerS, monitor := t.monitor, events := t.events
    portC := t.portC }

theorem countErrors_counted (m : Moment) (link : Link) (n : Nat) (g : Framer) (s : State) :
    ErrorsCounted m link n g s (countErrors link n ((tick m s).withFramer link g)) := by
  have hcounts := countErrors_counts link n ((tick m s).withFramer link g)
  have hmonitor := countErrors_monitor link n ((tick m s).withFramer link g)
  unfold CountsOnly at hcounts
  have hframers : FramersStand ((tick m s).withFramer link g) (countErrors link n ((tick m s).withFramer link g)) := by
    rw [hcounts]
    exact ⟨rfl, rfl, rfl⟩
  refine ⟨by rw [hframers.framer, framer_withFramer], fun l hl => ?_, ?_, ?_⟩
  · rw [hframers.framer, framer_withFramer_ne hl, tick_framer]
  · rw [hmonitor]
    cases link <;> simp [State.withFramer]
  · rw [hcounts]
    cases link <;> rfl

theorem ErrorsCounted.monitor_one {m : Moment} {link : Link} {g : Framer} {s t : State}
    (h : ErrorsCounted m link 1 g s t) :
    t.monitor = { s.monitor with
      count := if s.monitor.source = errorSource link then min 65535 (s.monitor.count + 1) else s.monitor.count } := by
  simpa using h.monitor

/-- R5: a byte at which the framer reports one frame error. -/
theorem lineByte_error {m : Moment} {link : Link} {b : LineByte} {g : Framer} {s : State}
    (h : (s.framer link).line link (s.now + m.elapsed) b = (g, [.error])) :
    ErrorsCounted m link 1 g s (lineByte m.choice link b (tick m s)) := by
  rw [lineByte_tick, h]
  exact countErrors_counted m link 1 g s

/-- R4: a byte at which the framer reports nothing. -/
theorem lineByte_quiet {m : Moment} {link : Link} {b : LineByte} {g : Framer} {s : State}
    (h : (s.framer link).line link (s.now + m.elapsed) b = (g, [])) :
    lineByte m.choice link b (tick m s) = (tick m s).withFramer link g := by
  rw [lineByte_tick, h]
  rfl

/-! ### The byte at the framer -/

section

variable {link : Link} {now : Time} {v : Byte} {f g : Framer}

/-- R4: a byte in time that is no fault and completes nothing. -/
theorem Framer.line_nothing (hdue : f.overdue now = false)
    (h : Framer.examine link v { f with lastByte := now } = (g, .nothing)) :
    f.line link now { value := v, stopHigh := true } = (g, []) := by
  rw [Framer.line_high hdue, Framer.settle_nothing [] h, Framer.settle_nil]

/-- R6: a byte in time that completes a frame. -/
theorem Framer.line_good {cls : Class} {seq : Byte} {payload : List Byte} (hdue : f.overdue now = false)
    (h : Framer.examine link v { f with lastByte := now } = (g, .good cls seq payload)) :
    f.line link now { value := v, stopHigh := true } = (g, [.taken cls seq payload]) := by
  rw [Framer.line_high hdue, Framer.settle_good [] h, Framer.settle_nil]

/-- R4: HUNT keeps a start byte and discards any other. -/
theorem Framer.examine_hunt (hphase : f.phase = .hunt) (hstored : f.stored = []) :
    Framer.examine link v f =
      ({ f with phase := if v = 0xA5 then .header else .hunt, stored := if v = 0xA5 then [0xA5] else [] }, .nothing) := by
  obtain ⟨phase, stored, lastByte, length⟩ := f
  cases hphase
  cases hstored
  unfold Framer.examine
  by_cases hv : v = 0xA5
  · subst hv
    rfl
  · simp only [if_neg hv]

theorem Framer.line_hunt (b : LineByte) (hphase : f.phase = .hunt) (hstored : f.stored = []) :
    f.line link now b =
      ({ phase := if b.stopHigh = true ∧ b.value = 0xA5 then .header else .hunt
         stored := if b.stopHigh = true ∧ b.value = 0xA5 then [0xA5] else []
         lastByte := now, length := f.length }, []) := by
  have hdue := Framer.overdue_of_hunt (now := now) hphase
  obtain ⟨v, high⟩ := b
  cases high with
  | true =>
    refine (Framer.line_nothing hdue (Framer.examine_hunt hphase hstored)).trans ?_
    simp
  | false =>
    unfold Framer.line Framer.receive
    simp [hdue, hphase, Framer.hunting]

/-- R5: a byte in time with its stop bit low. -/
theorem Framer.line_low (hdue : f.overdue now = false) (hphase : f.phase ≠ .hunt) :
    f.line link now { value := v, stopHigh := false } =
      ({ phase := .hunt, stored := [], lastByte := now, length := f.length }, [.error]) := by
  unfold Framer.line Framer.receive
  simp [hdue, hphase, Framer.hunting]

end

/-! ### The check -/

/-- R3: two bytes are the halves of a word. -/
theorem be16_eq_iff (w : Word) (a b : Byte) : be16 w = [a, b] ↔ w = a ++ b := by
  constructor
  · intro h
    obtain ⟨rfl, rfl⟩ : w.extractLsb' 8 8 = a ∧ w.extractLsb' 0 8 = b := by simpa [be16] using h
    exact (be16_append w).symm
  · rintro rfl
    have hhigh : (a ++ b).extractLsb' 8 8 = a := BitVec.extractLsb'_append_eq_left
    have hlow : (a ++ b).extractLsb' 0 8 = b := BitVec.extractLsb'_append_eq_right
    rw [be16, hhigh, hlow]

theorem be16_join (a b : Byte) : be16 (a ++ b) = [a, b] := (be16_eq_iff _ a b).mpr rfl

section

variable {f : Framer} (v : Byte)

/-- R2: the check that the last byte of a frame brings. -/
theorem Framer.store_checks (hlength : f.stored.length = 5 + f.length) :
    (f.store v).checks = true ↔
      be16 (crc ((f.stored.drop 1).take (3 + f.length))) = [f.stored.getD (4 + f.length) 0, v] := by
  have hchecked : ((f.stored ++ [v]).drop 1).take (3 + f.length) = (f.stored.drop 1).take (3 + f.length) := by
    rw [List.drop_append_of_le_length (by omega), List.take_append_of_le_length (by rw [List.length_drop]; omega)]
  have hhigh : (f.stored ++ [v]).getD (4 + f.length) 0 = f.stored.getD (4 + f.length) 0 :=
    List.getD_append _ _ _ _ (by omega)
  have hlow : (f.stored ++ [v]).getD (5 + f.length) 0 = v := by
    rw [← hlength]
    simp
  rw [be16_eq_iff]
  simp only [Framer.checks, Framer.store, hchecked, hhigh, hlow, beq_iff_eq]

theorem Framer.store_getD {i : Nat} (hi : i < f.stored.length) : (f.store v).stored.getD i 0 = f.stored.getD i 0 :=
  List.getD_append _ _ _ _ hi

theorem Framer.store_payload (hlength : f.stored.length = 5 + f.length) :
    (f.store v).payload = (f.stored.drop 4).take f.length := by
  unfold Framer.payload Framer.store
  dsimp only
  rw [List.drop_append_of_le_length (by omega), List.take_append_of_le_length (by rw [List.length_drop]; omega)]

/-! ### The faults -/

/-- R5: a class byte with an upper bit set, or at Port S another than that of a SAMPLE. -/
theorem classLegal_of_not {link : Link} (h : 64 ≤ v.toNat ∨ (link = .portS ∧ v ≠ 0x21)) : classLegal link v = false := by
  rcases h with hlarge | ⟨rfl, hne⟩
  · simp [classLegal, Nat.not_lt.mpr hlarge]
  · have hne' : v ≠ sampleClass.setWidth 8 := hne
    simp [classLegal, hne']

theorem classLegal_of {link : Link} (h : v.toNat < 64) (hs : link = .portS → v = 0x21) : classLegal link v = true := by
  cases link with
  | portS =>
    cases hs rfl
    rfl
  | _ => simp [classLegal, h]

variable {link : Link}

theorem Framer.examine_class_fault (hphase : f.phase = .header) (hlength : f.stored.length = 1)
    (h : 64 ≤ v.toNat ∨ (link = .portS ∧ v ≠ 0x21)) : f.examine link v = (f.store v, .fault) := by
  simp only [Framer.examine, hphase, Framer.header, if_pos hlength, classLegal_of_not v h, Bool.false_eq_true, if_false]

theorem Framer.store_cls (hlength : 2 ≤ f.stored.length) : (f.store v).cls = f.cls := by
  rw [Framer.cls, Framer.store_getD v (by omega), Framer.cls]

theorem Framer.examine_length_fault (hphase : f.phase = .header) (hlength : f.stored.length = 3)
    (h : lengthAllowed f.cls v.toNat = false) : f.examine link v = (f.store v, .fault) := by
  simp only [Framer.examine, hphase, Framer.header, hlength, Framer.store_cls v (f := f) (by omega), h]
  rfl

theorem Framer.store_length : (f.store v).stored.length = f.stored.length + 1 := by
  simp [Framer.store]

theorem Framer.examine_check_fault (hphase : f.phase = .check) (hlength : f.stored.length = 5 + f.length)
    (h : be16 (crc ((f.stored.drop 1).take (3 + f.length))) ≠ [f.stored.getD (4 + f.length) 0, v]) :
    f.examine link v = (f.store v, .fault) := by
  have hfull : (f.store v).stored.length = 6 + (f.store v).length := by
    rw [Framer.store_length, hlength]
    show 5 + f.length + 1 = 6 + f.length
    omega
  simp only [Framer.examine, hphase, if_pos hfull, if_neg (mt (Framer.store_checks v hlength).mp h)]

/-! ### The bytes stored -/

theorem Framer.examine_class (hphase : f.phase = .header) (hlength : f.stored.length = 1) (h : v.toNat < 64)
    (hs : link = .portS → v = 0x21) : f.examine link v = (f.store v, .nothing) := by
  simp only [Framer.examine, hphase, Framer.header, if_pos hlength, classLegal_of v h hs, if_true]

theorem Framer.examine_seq (hphase : f.phase = .header) (hlength : f.stored.length = 2) :
    f.examine link v = (f.store v, .nothing) := by
  simp only [Framer.examine, hphase, Framer.header, hlength]
  rfl

theorem Framer.examine_length (hphase : f.phase = .header) (hlength : f.stored.length = 3)
    (h : lengthAllowed f.cls v.toNat = true) :
    f.examine link v =
      ({ f.store v with length := v.toNat, phase := if v = 0 then .check else .payload }, .nothing) := by
  have hzero : v.toNat = 0 ↔ v = 0 := by
    rw [← BitVec.toNat_inj]
    rfl
  simp only [Framer.examine, hphase, Framer.header, hlength, Framer.store_cls v (f := f) (by omega), h, hzero]
  rfl

theorem Framer.examine_payload (hphase : f.phase = .payload) :
    f.examine link v =
      ({ f.store v with phase := if f.stored.length + 1 = 4 + f.length then .check else .payload }, .nothing) := by
  simp only [Framer.examine, hphase, Framer.store_length]
  rfl

theorem Framer.examine_high (hphase : f.phase = .check) (hlength : f.stored.length = 4 + f.length) :
    f.examine link v = (f.store v, .nothing) := by
  have hshort : ¬(f.store v).stored.length = 6 + (f.store v).length := by
    rw [Framer.store_length, hlength]
    show ¬4 + f.length + 1 = 6 + f.length
    omega
  simp only [Framer.examine, hphase, if_neg hshort]

/-- R6: the second check byte that agrees completes the frame. -/
theorem Framer.examine_good (hphase : f.phase = .check) (hlength : f.stored.length = 5 + f.length)
    (h : be16 (crc ((f.stored.drop 1).take (3 + f.length))) = [f.stored.getD (4 + f.length) 0, v]) :
    f.examine link v =
      (f.hunting, .good f.cls (f.stored.getD 2 0) ((f.stored.drop 4).take f.length)) := by
  have hfull : (f.store v).stored.length = 6 + (f.store v).length := by
    rw [Framer.store_length, hlength]
    show 5 + f.length + 1 = 6 + f.length
    omega
  simp only [Framer.examine, hphase, if_pos hfull, if_pos ((Framer.store_checks v hlength).mpr h),
    Framer.store_cls v (f := f) (by omega), Framer.store_payload v hlength, Framer.seq,
    Framer.store_getD v (f := f) (i := 2) (by omega)]
  rfl

end

/-! ### A frame completed -/

theorem samplePayload_fields {p : List Byte} (h : p.length = 7) :
    samplePayload (field8 p 0) (field16 p 1) (field16 p 3) (field16 p 5) = p := by
  match p, h with
  | [a, b, c, d, e, f, g], _ =>
    simp only [samplePayload, field8, field16, List.getD_cons_zero, List.getD_cons_succ, be16_join]
    rfl

/-- Log 10: the command of the whole frame that is taken on a link. -/
def frameCommand (m : Moment) (link : Link) (cls : Class) (seq : Byte) (payload : List Byte) : Instr :=
  match link with
  | .portC => .passFrameTaken m .c cls seq payload
  | .portD => .passFrameTaken m .d cls seq payload
  | .portS => .sampleTaken m seq (field8 payload 0) (field16 payload 1) (field16 payload 3) (field16 payload 5)

/-- Log 10: the command of a whole frame takes it as the framer that completes it does. -/
theorem exec_frameCommand {s : State} (hheld : s.held = false) (m : Moment) {link : Link} {cls : Class} (seq : Byte)
    {payload : List Byte} (hlength : lengthAllowed cls payload.length = true) (hs : link = .portS → cls = 0x21) :
    exec (frameCommand m link cls seq payload) s =
      .next (frameTaken m.choice link cls seq payload
        ((tick m s).withFramer link (restFramer (tick m s) payload.length))) := by
  cases link with
  | portC => exact happen_wholeFrame hheld m m.choice .portC seq hlength
  | portD => exact happen_wholeFrame hheld m m.choice .portD seq hlength
  | portS =>
    cases hs rfl
    have hseven : payload.length = 7 := by simpa [lengthAllowed, sampleClass, speedDemandClass] using hlength
    refine (happen_wholeFrame hheld m m.choice .portS seq (cls := sampleClass) rfl).trans ?_
    rw [samplePayload_fields hseven]
    rfl

/-- R6: a byte at which the framer hands on a frame taken and nothing else. -/
theorem lineByte_taken {m : Moment} {link : Link} {b : LineByte} {cls : Class} {seq : Byte} {payload : List Byte}
    {g : Framer} {s : State} (h : (s.framer link).line link (s.now + m.elapsed) b = (g, [.taken cls seq payload])) :
    lineByte m.choice link b (tick m s) = frameTaken m.choice link cls seq payload ((tick m s).withFramer link g) := by
  rw [lineByte_tick, h]
  rfl

end Sys2Proof.Machine
end


section
/-! SUPPORT. A byte on a link, clause by clause, and the frame that is taken once. -/

namespace Sys2Proof.Machine
open Sys2Proof.Safety

/-! ### A byte and the state -/

section

variable {m : Moment} {link : Link} {v : Byte} {s : State} (hheld : s.held = false)

include hheld in
/-- R5: more than 100 µs after the last byte of a frame under assembly the frame is abandoned. -/
theorem frameTimeout_counted (hphase : (s.framer link).phase ≠ .hunt)
    (hlate : 100 < elapsed (s.now + m.elapsed) (s.framer link).lastByte) :
    ∃ t, exec (.frameTimeout m link) s = .next t ∧
      ErrorsCounted m link 1 { s.framer link with phase := .hunt, stored := [] } s t := by
  refine ⟨_, happen_live hheld m _, ?_⟩
  have hdue : ((tick m s).framer link).overdue (tick m s).now = true := by
    rw [tick_framer, show (tick m s).now = s.now + m.elapsed by simp]
    simp [Framer.overdue, hphase, Config.byteGapMicros, hlate]
  rw [framerTimeout, if_pos hdue, tick_framer]
  exact countErrors_counted m link 1 _ s

/-- R5: a byte in time that is no class of the link, behind a start byte. -/
theorem Framer.line_class_fault {f : Framer} {now : Time} (hdue : f.overdue now = false) (hphase : f.phase = .header)
    (hstored : f.stored = [0xA5]) (hclass : 64 ≤ v.toNat ∨ (link = .portS ∧ v ≠ 0x21)) :
    f.line link now { value := v, stopHigh := true } =
      ({ phase := if v = 0xA5 then .header else .hunt, stored := if v = 0xA5 then [0xA5] else []
         lastByte := now, length := f.length }, [.error]) := by
  have hfault := Framer.examine_class_fault (f := { f with lastByte := now }) v hphase (by simp [hstored]) hclass
  rw [Framer.line_fault hdue (by rw [hfault]) (by simp [hstored]), hstored]
  simp only [List.tail_cons, List.nil_append, List.map_cons, List.map_nil, feed]
  rw [Framer.line_hunt _ rfl rfl]
  simp

include hheld in
theorem byteReceived_stored {g : Framer}
    (hintime : elapsed (s.now + m.elapsed) (s.framer link).lastByte ≤ 100)
    (h : Framer.examine link v { s.framer link with lastByte := s.now + m.elapsed } = (g, .nothing)) :
    ∃ t, exec (.byteReceived m link { value := v, stopHigh := true }) s = .next t ∧ t = (tick m s).withFramer link g :=
  ⟨_, exec_byteReceived hheld m link _, lineByte_quiet (Framer.line_nothing (Framer.overdue_of_le hintime) h)⟩

include hheld in
/-- R6: the second check byte that agrees: the part does what the command of the whole frame does. -/
theorem byteReceived_completes (hintime : elapsed (s.now + m.elapsed) (s.framer link).lastByte ≤ 100)
    (hphase : (s.framer link).phase = .check) (hlength : (s.framer link).stored.length = 5 + (s.framer link).length)
    (hcheck : be16 (crc (((s.framer link).stored.drop 1).take (3 + (s.framer link).length))) =
      [(s.framer link).stored.getD (4 + (s.framer link).length) 0, v])
    (hallowed : lengthAllowed (s.framer link).cls (s.framer link).length = true)
    (hs : link = .portS → (s.framer link).cls = 0x21) :
    ∃ t, exec (.byteReceived m link { value := v, stopHigh := true }) s = .next t ∧
      t.framer link = { phase := .hunt, stored := [], lastByte := s.now + m.elapsed, length := (s.framer link).length } ∧
      exec (frameCommand m link (s.framer link).cls ((s.framer link).stored.getD 2 0)
        (((s.framer link).stored.drop 4).take (s.framer link).length)) s = .next t := by
  generalize hf : s.framer link = f at *
  have hpayload : ((f.stored.drop 4).take f.length).length = f.length := by
    rw [List.length_take, List.length_drop, hlength]
    omega
  have hline := Framer.line_good (link := link) (Framer.overdue_of_le hintime)
    (Framer.examine_good (f := { f with lastByte := s.now + m.elapsed }) v hphase hlength hcheck)
  have hrest : restFramer (tick m s) f.length = Framer.hunting { f with lastByte := s.now + m.elapsed } := by
    rw [restFramer, show (tick m s).now = s.now + m.elapsed by simp]
    rfl
  subst hf
  refine ⟨_, exec_byteReceived hheld m link _, ?_, ?_⟩
  · rw [lineByte_taken hline, (frameTaken_framersStand ..).framer, framer_withFramer]
    rfl
  · rw [lineByte_taken hline, exec_frameCommand hheld m _ (hpayload.symm ▸ hallowed) hs, hpayload, hrest]
    rfl

end

/-- Settles O8: each byte by what the framer makes of it, and the frame that a byte completes by its command. -/
theorem framerBytes : Obligations.FramerBytes := by
  refine ⟨?_, ?_, ?_, ?_, ?_, ?_, ?_⟩
  · intro m link b s hheld hphase hstored
    exact ⟨_, exec_byteReceived hheld m link b, lineByte_quiet (Framer.line_hunt b hphase hstored)⟩
  · intro m link v s hheld hphase hintime
    have hcounted := lineByte_error (b := { value := v, stopHigh := false })
      (Framer.line_low (link := link) (Framer.overdue_of_le hintime) hphase)
    exact ⟨_, exec_frameError hheld m link _, hcounted.framer, hcounted.others, hcounted.monitor_one, hcounted.frame⟩
  · intro m link s hheld hphase hlate
    obtain ⟨t, hexec, hcounted⟩ := frameTimeout_counted hheld hphase hlate
    exact ⟨t, hexec, hcounted.framer, hcounted.others, hcounted.monitor_one, hcounted.frame⟩
  · intro m link v s hheld hphase hstored hintime hclass
    have hcounted := lineByte_error (b := { value := v, stopHigh := true })
      (Framer.line_class_fault (Framer.overdue_of_le hintime) hphase hstored hclass)
    exact ⟨_, exec_frameError hheld m link _, hcounted.framer, hcounted.others, hcounted.monitor_one, hcounted.frame⟩
  · intro link f now v hsound hintime hfault
    have hdue := Framer.overdue_of_le hintime
    have hsome : ∀ {n}, f.stored.length = n + 1 → f.stored ≠ [] := fun h => List.ne_nil_of_length_eq_add_one h
    rcases hfault with ⟨hphase, hlength, hclass⟩ | ⟨hphase, hlength, hlong⟩ | ⟨hphase, hlength, hcheck⟩
    · exact Framer.line_fault hdue
        (by rw [Framer.examine_class_fault (f := { f with lastByte := now }) v hphase hlength hclass]) (hsome hlength)
    · exact Framer.line_fault hdue
        (by rw [Framer.examine_length_fault (f := { f with lastByte := now }) v hphase hlength hlong]) (hsome hlength)
    · exact Framer.line_fault hdue
        (by rw [Framer.examine_check_fault (f := { f with lastByte := now }) v hphase hlength hcheck])
        (hsome (n := 4 + f.length) (by omega))
  · intro m link v s hheld hintime hsound f g next
    refine ⟨fun hphase hlength hsmall hs => ?_, fun hphase hlength => ?_, fun hphase hlength hallowed => ?_, fun hphase => ?_,
      fun hphase hlength => ?_⟩
    · exact byteReceived_stored hheld hintime (Framer.examine_class v hphase hlength hsmall hs)
    · exact byteReceived_stored hheld hintime (Framer.examine_seq v hphase hlength)
    · exact byteReceived_stored hheld hintime (Framer.examine_length v hphase hlength hallowed)
    · exact byteReceived_stored hheld hintime (Framer.examine_payload v hphase)
    · exact byteReceived_stored hheld hintime (Framer.examine_high v hphase hlength)
  · intro m link v s hheld hintime hsound hphase hlength f cls seq payload hcheck hallowed hs
    obtain ⟨t, hexec, hframer, hcommand⟩ := byteReceived_completes hheld hintime hphase hlength hcheck hallowed hs
    refine ⟨t, hexec, by rw [hframer], by rw [hframer], by rw [hframer], ?_, ?_, ?_⟩
    all_goals
      rintro rfl
      exact hcommand

end Sys2Proof.Machine
end


section
/-! SUPPORT. A frame as a port sends it, byte by byte, and how a byte reaches a framer. -/

namespace Sys2Proof.Machine
open Sys2Proof.Safety

/-! ### A frame fed in time -/

section

variable {link : Link} {v : Byte} {now : Time} {f g : Framer} {rest : List (Byte × Time)}

theorem feed_nothing (hdue : f.overdue now = false)
    (h : Framer.examine link v { f with lastByte := now } = (g, .nothing)) :
    feed link ((v, now) :: rest) f = feed link rest g := by
  rw [feed, Framer.line_nothing hdue h]
  rfl

theorem inTime_cons {since : Time} :
    inTime since ((v, now) :: rest) = true ↔ elapsed now since ≤ 100 ∧ inTime now rest = true := by
  rw [inTime, Bool.and_eq_true]
  exact and_congr_left' decide_eq_true_iff

/-- R4: the payload bytes of a frame, to the last. -/
theorem feed_payload {l : List (Byte × Time)} (hphase : f.phase = if l = [] then .check else .payload)
    (hlength : f.stored.length + l.length = 4 + f.length) (hintime : inTime f.lastByte (l ++ rest) = true) :
    ∃ last : Time, inTime last rest = true ∧
      feed link (l ++ rest) f =
        feed link rest { f with phase := .check, stored := f.stored ++ l.map Prod.fst, lastByte := last } := by
  induction l generalizing f with
  | nil =>
    refine ⟨f.lastByte, hintime, ?_⟩
    obtain ⟨phase, stored, lastByte, length⟩ := f
    cases hphase
    simp
  | cons x l ih =>
    obtain ⟨w, now⟩ := x
    obtain ⟨hnear, hlater⟩ := inTime_cons.mp hintime
    simp only [List.length_cons] at hlength
    have hlast : f.stored.length + 1 = 4 + f.length ↔ l = [] := by
      rw [← List.length_eq_zero_iff]
      omega
    have hstored := Framer.examine_payload (link := link) (f := { f with lastByte := now }) w hphase
    rw [List.cons_append, feed_nothing (Framer.overdue_of_le hnear) hstored]
    obtain ⟨last, hintime, hfeed⟩ := ih
      (f := { ({ f with lastByte := now } : Framer).store w with
        phase := if f.stored.length + 1 = 4 + f.length then .check else .payload })
      (if_congr hlast rfl rfl) (by rw [← hlength]; simp [Framer.store]; omega) hlater
    refine ⟨last, hintime, hfeed.trans ?_⟩
    simp [Framer.store]

end

/-- R2, Table 1-1: a framer that holds a whole frame but for its check. -/
structure Assembled (cls : Class) (seq : Byte) (payload : List Byte) (f : Framer) : Prop where
  phase : f.phase = .check
  stored : f.stored = 0xA5 :: checkedBytes cls seq payload
  length : f.length = payload.length

theorem Assembled.stored_length {cls : Class} {seq : Byte} {payload : List Byte} {f : Framer}
    (h : Assembled cls seq payload f) : f.stored.length = 4 + f.length := by
  rw [h.stored, h.length]
  simp [checkedBytes]
  omega

/-- R6: the two check bytes complete the frame. -/
theorem feed_check {link : Link} {cls : Class} {seq : Byte} {payload : List Byte} {f : Framer}
    (hf : Assembled cls seq payload f) {high low : Byte} {t₁ t₂ : Time}
    (hcheck : [high, low] = be16 (crc (checkedBytes cls seq payload)))
    (hintime : inTime f.lastByte [(high, t₁), (low, t₂)] = true) :
    ∃ last : Time, feed link [(high, t₁), (low, t₂)] f =
      ({ phase := .hunt, stored := [], lastByte := last, length := payload.length }, [.taken cls seq payload]) := by
  obtain ⟨hnear, hlater⟩ := inTime_cons.mp hintime
  obtain ⟨hnear', -⟩ := inTime_cons.mp hlater
  have hlength := hf.stored_length
  refine ⟨t₂, ?_⟩
  rw [feed_nothing (Framer.overdue_of_le hnear) (Framer.examine_high (f := { f with lastByte := t₁ }) high hf.phase hlength)]
  generalize hg : ({ f with lastByte := t₁ } : Framer).store high = g
  have hstored : g.stored = 0xA5 :: (checkedBytes cls seq payload ++ [high]) := by
    rw [← hg]
    simp [Framer.store, hf.stored]
  have hglength : g.length = payload.length := by
    rw [← hg]
    exact hf.length
  have hfull : g.stored.length = 5 + g.length := by
    rw [hstored, hglength]
    simp [checkedBytes]
    omega
  have hgood : be16 (crc ((g.stored.drop 1).take (3 + g.length))) = [g.stored.getD (4 + g.length) 0, low] := by
    have hchecked : (checkedBytes cls seq payload).length = 3 + payload.length := by
      simp [checkedBytes]
      omega
    have htake : (checkedBytes cls seq payload ++ [high]).take (3 + payload.length) = checkedBytes cls seq payload := by
      rw [← hchecked, List.take_left]
    have hhigh : (checkedBytes cls seq payload ++ [high]).getD (3 + payload.length) 0 = high := by
      rw [← hchecked]
      simp
    rw [hglength, hstored, List.drop_one, List.tail_cons, htake, ← hcheck, show 4 + payload.length = 3 + payload.length + 1 by omega,
      List.getD_cons_succ, hhigh]
  have hphase : g.phase = .check := by
    rw [← hg]
    exact hf.phase
  have hlast : g.lastByte = t₁ := by
    rw [← hg]
    rfl
  rw [feed, Framer.line_good (Framer.overdue_of_le (by rw [hlast]; exact hnear'))
    (Framer.examine_good (f := { g with lastByte := t₂ }) low hphase hfull hgood)]
  have hcls : g.cls = cls := by
    rw [Framer.cls, hstored]
    simp [checkedBytes]
  have hpayload : (g.stored.drop 4).take g.length = payload := by
    rw [hstored, hglength]
    simp [checkedBytes]
  have hseq : g.stored.getD 2 0 = seq := by
    rw [hstored]
    rfl
  show (Framer.hunting { g with lastByte := t₂ }, [Report.taken g.cls (g.stored.getD 2 0) ((g.stored.drop 4).take g.length)]) = _
  rw [hcls, hpayload, hseq, Framer.hunting, ← hglength]

/-- R4: the four bytes before the payload. -/
theorem feed_header {link : Link} {cls : Class} {seq : Byte} {n : Nat} {f : Framer} {t₀ t₁ t₂ t₃ : Time}
    {rest : List (Byte × Time)} (hphase : f.phase = .hunt) (hstored : f.stored = []) (hallowed : lengthAllowed cls n = true)
    (hs : link = .portS → cls = 0x21)
    (hintime : inTime t₀ ((0xA5, t₀) :: (cls.setWidth 8, t₁) :: (seq, t₂) :: (BitVec.ofNat 8 n, t₃) :: rest) = true) :
    inTime t₃ rest = true ∧
      feed link ((0xA5, t₀) :: (cls.setWidth 8, t₁) :: (seq, t₂) :: (BitVec.ofNat 8 n, t₃) :: rest) f =
        feed link rest
          { phase := if n = 0 then .check else .payload
            stored := [0xA5, cls.setWidth 8, seq, BitVec.ofNat 8 n], lastByte := t₃, length := n } := by
  obtain ⟨-, hintime₁⟩ := inTime_cons.mp hintime
  obtain ⟨hnear₁, hintime₂⟩ := inTime_cons.mp hintime₁
  obtain ⟨hnear₂, hintime₃⟩ := inTime_cons.mp hintime₂
  obtain ⟨hnear₃, hlater⟩ := inTime_cons.mp hintime₃
  refine ⟨hlater, ?_⟩
  have hn : n ≤ 24 := lengthAllowed_le hallowed
  have hcls : (cls.setWidth 8).toNat < 64 := by
    rw [BitVec.toNat_setWidth]
    omega
  have hnat : (BitVec.ofNat 8 n).toNat = n := by
    rw [BitVec.toNat_ofNat]
    omega
  have hzero : BitVec.ofNat 8 n = 0 ↔ n = 0 := by
    rw [← BitVec.toNat_inj, hnat]
    rfl
  rw [feed_nothing (Framer.overdue_of_hunt hphase) (Framer.examine_hunt (f := { f with lastByte := t₀ }) hphase hstored),
    feed_nothing (Framer.overdue_of_le hnear₁) (Framer.examine_class _ rfl rfl hcls fun h => by rw [hs h]; rfl),
    feed_nothing (Framer.overdue_of_le hnear₂) (Framer.examine_seq _ rfl rfl),
    feed_nothing (Framer.overdue_of_le hnear₃) (Framer.examine_length _ rfl rfl ?_)]
  · simp only [hnat, hzero]
    rfl
  · rw [hnat]
    simpa [Framer.cls, Framer.store] using hallowed

/-- R2, R4, R6: a frame as a port sends it, received in time, is taken once, at its last byte. -/
theorem feed_frame {link : Link} {cls : Class} {seq : Byte} {payload : List Byte} {f : Framer} {l : List (Byte × Time)}
    (hphase : f.phase = .hunt) (hstored : f.stored = []) (hallowed : lengthAllowed cls payload.length = true)
    (hs : link = .portS → cls = 0x21) (hbytes : l.map Prod.fst = frameBytes cls seq payload) {since : Time}
    (hintime : inTime since l = true) (hsince : l.head?.map Prod.snd = some since) :
    ∃ last : Time, feed link l f =
      ({ phase := .hunt, stored := [], lastByte := last, length := payload.length }, [.taken cls seq payload]) := by
  unfold frameBytes checkedBytes at hbytes
  obtain ⟨x₀, l₀, rfl, h₀, hbytes⟩ := List.map_eq_cons_iff.mp hbytes
  obtain ⟨x₁, l₁, rfl, h₁, hbytes⟩ := List.map_eq_cons_iff.mp hbytes
  obtain ⟨x₂, l₂, rfl, h₂, hbytes⟩ := List.map_eq_cons_iff.mp hbytes
  obtain ⟨x₃, l₃, rfl, h₃, hbytes⟩ := List.map_eq_cons_iff.mp hbytes
  obtain ⟨p, check, rfl, hpayload, hcheck⟩ := List.map_eq_append_iff.mp hbytes
  obtain ⟨y₀, r₀, rfl, hhigh, hcheck⟩ := List.map_eq_cons_iff.mp hcheck
  obtain ⟨y₁, r₁, rfl, hlow, hcheck⟩ := List.map_eq_cons_iff.mp hcheck
  cases List.map_eq_nil_iff.mp hcheck
  obtain ⟨v₀, t₀⟩ := x₀
  obtain ⟨v₁, t₁⟩ := x₁
  obtain ⟨v₂, t₂⟩ := x₂
  obtain ⟨v₃, t₃⟩ := x₃
  obtain ⟨w₀, u₀⟩ := y₀
  obtain ⟨w₁, u₁⟩ := y₁
  cases hsince
  obtain rfl : v₀ = 0xA5 := h₀
  obtain rfl : v₁ = cls.setWidth 8 := h₁
  obtain rfl : seq = v₂ := h₂.symm
  obtain rfl : v₃ = BitVec.ofNat 8 payload.length := h₃
  obtain ⟨hintime, hheader⟩ := feed_header hphase hstored hallowed hs hintime
  have hcount : p.length = payload.length := by rw [← hpayload, List.length_map]
  obtain ⟨last, hintime, hrest⟩ := feed_payload (link := link) (l := p) (rest := [(w₀, u₀), (w₁, u₁)])
    (f := { phase := if payload.length = 0 then .check else .payload
            stored := [0xA5, cls.setWidth 8, seq, BitVec.ofNat 8 payload.length], lastByte := t₃, length := payload.length })
    (by rw [← hcount]; exact if_congr List.length_eq_zero_iff rfl rfl) (by rw [hcount]; rfl) hintime
  rw [hheader, hrest]
  refine feed_check ⟨rfl, ?_, rfl⟩ ?_ hintime
  · rw [hpayload]
    rfl
  · exact (congrArg₂ (fun a b => [a, b]) hhigh hlow).trans rfl

/-! ### How a byte reaches a framer -/

/-- R6: a frame completed leaves the framer in HUNT, with the length of its payload. -/
theorem Framer.examine_good_rest {link : Link} {v : Byte} {f g : Framer} {cls : Class} {seq : Byte} {payload : List Byte}
    (h : f.examine link v = (g, .good cls seq payload)) :
    g = { phase := .hunt, stored := [], lastByte := f.lastByte, length := payload.length } := by
  unfold Framer.examine at h
  cases hphase : f.phase with
  | hunt =>
    rw [hphase] at h
    dsimp only at h
    split at h <;> cases h
  | header =>
    rw [hphase] at h
    simp only [Framer.header] at h
    split_ifs at h <;> cases h
  | payload =>
    rw [hphase] at h
    cases h
  | check =>
    rw [hphase] at h
    dsimp only at h
    split_ifs at h with hfull hchecks
    · cases h
      have hlength : (f.store v).payload.length = f.length := by
        rw [Framer.payload, List.length_take, List.length_drop, hfull]
        show min f.length (6 + f.length - 4) = f.length
        omega
      rw [hlength]
      rfl
    · cases h
    · cases h

/-- Log 11: a byte that completes a frame and reveals nothing leaves the framer at rest. -/
theorem Framer.line_taken {link : Link} {now : Time} {b : LineByte} {f : Framer} {cls : Class} {seq : Byte}
    {payload : List Byte} (h : (f.line link now b).2 = [.taken cls seq payload]) :
    (f.line link now b).1 = { phase := .hunt, stored := [], lastByte := now, length := payload.length } := by
  obtain ⟨v, high⟩ := b
  by_cases hdue : f.overdue now = true
  · unfold Framer.line at h
    rw [if_pos hdue] at h
    cases h
  · cases high with
    | false =>
      unfold Framer.line Framer.receive at h
      simp only [if_neg hdue] at h
      by_cases hp : f.phase = .hunt <;> simp [hp] at h
    | true =>
      rw [Framer.line_high (by simpa using hdue)] at h ⊢
      cases hfound : Framer.examine link v { f with lastByte := now } with
      | mk g found =>
        cases found with
        | nothing =>
          rw [Framer.settle_nothing [] hfound, Framer.settle_nil] at h
          cases h
        | fault =>
          rw [Framer.settle_fault [] hfound] at h
          cases h
        | good =>
          rw [Framer.settle_good [] hfound, Framer.settle_nil] at h ⊢
          cases h
          exact Framer.examine_good_rest hfound

/-- Settles O9: a frame byte by byte, and what a byte does by what the framer reports. -/
theorem frameRoundTrip : Obligations.FrameRoundTrip := by
  refine ⟨?_, ?_⟩
  · intro link cls seq payload f times hphase hstored hallowed hs hlength hintime
    obtain ⟨last, hfeed⟩ := feed_frame hphase hstored hallowed hs (List.map_fst_zip hlength.ge) hintime (by
      cases times with
      | nil => simp [frameBytes] at hlength
      | cons => rfl)
    rw [hfeed]
    exact ⟨rfl, rfl, rfl⟩
  · intro m link b s hheld
    refine ⟨_, exec_byteReceived hheld m link b, exec_frameError hheld m link b, ?_⟩
    intro r
    refine ⟨?_, fun l hl => ?_, fun hnone => ?_, fun n hn => ?_, fun cls seq payload htaken => ?_⟩
    · rw [lineByte_tick, (actOnAll_framersStand ..).framer, framer_withFramer]
    · rw [lineByte_tick, (actOnAll_framersStand ..).framer, framer_withFramer_ne hl, tick_framer]
    · exact lineByte_quiet (Prod.ext rfl hnone)
    · have hcounted := countErrors_counted m link n r.1 s
      rw [← actOn_replicate m.choice, ← hn, ← lineByte_tick] at hcounted
      exact ⟨hcounted.monitor, hcounted.frame⟩
    · have hrest : r.1 = restFramer (tick m s) payload.length := by
        rw [Framer.line_taken htaken, restFramer, show (tick m s).now = s.now + m.elapsed by simp]
      obtain ⟨u, hu⟩ : ∃ u, exec (frameCommand m link cls seq payload) s = .next u := by
        cases link <;> exact ⟨_, happen_live hheld m _⟩
      refine ⟨u, by cases link <;> exact hu, fun hallowed hs => ?_⟩
      rw [exec_frameCommand hheld m seq hallowed hs, ← hrest] at hu
      cases hu
      have hstands := (frameTaken_framersStand m.choice link cls seq payload ((tick m s).withFramer link r.1)).framer link
      rw [framer_withFramer] at hstands
      rw [lineByte_taken (Prod.ext rfl htaken)]
      exact ((congrArg _ hstands.symm).trans (withFramer_self _ link)).symm

end Sys2Proof.Machine
end


section
/-! SUPPORT. An accepted pulse: what the tracker makes of it, what the users of the speed leave in the session, and a thin revolution. -/

namespace Sys2Proof.Machine
open Sys2Proof.Safety

/-! ### The tracker at a pulse -/

section

variable {t : Tracker} {now since : Time} {v : Option Int}

/-- R40: a pulse at or above the least interval is accepted. -/
theorem Tracker.pulse_accept (hstate : t.state ≠ .untimed) (hlast : t.lastIndex = some since)
    (hmin : t.minInterval ≤ elapsed now since) : t.pulse now v = t.accept now v (elapsed now since) := by
  unfold Tracker.pulse
  rw [hlast]
  split
  · exact absurd ‹_› hstate
  · next hnone _ => cases hnone
  · next hsome _ =>
    cases hsome
    exact if_neg (Nat.not_lt.mpr hmin)

theorem Tracker.minInterval_timed {p : Nat} (hstate : t.state = .locked ∨ t.state = .held) (hperiod : t.period = some p) :
    t.minInterval = max 45000 (p / 2) := by
  unfold Tracker.minInterval
  rcases hstate with h | h <;> simp [h, hperiod, Config.minPeriod]

/-- R41, R42: an accepted pulse up to 2,000,000 µs after the last gives a period. -/
theorem Tracker.accept_timed {d : Nat} (hd : d ≤ 2000000) :
    t.accept now v d =
      (let count := mismatchAfter v d (if t.state = .timing then 0 else t.mismatch)
       (Tracker.timed now d count, timedOutcome t.state (Tracker.timed now d count).state)) :=
  if_neg (Nat.not_lt.mpr hd)

/-- R42, R45: a pulse in LOCKED that mismatches for at most the third time in a row closes a revolution. -/
theorem Tracker.pulse_closed {p : Nat} (hstate : t.state = .locked) (hlast : t.lastIndex = some since)
    (hperiod : t.period = some p) (hmin : max 45000 (p / 2) ≤ elapsed now since) (hmax : elapsed now since ≤ 2000000)
    (hmatch : mismatches v (60000000 / elapsed now since) = false ∨ t.mismatch < 3) :
    t.pulse now v =
      ({ state := .locked, lastIndex := some now, period := some (elapsed now since)
         mismatch := if mismatches v (60000000 / elapsed now since) then t.mismatch + 1 else 0 }, .closed) := by
  have hcount : mismatchAfter v (elapsed now since) t.mismatch =
      (if mismatches v (60000000 / elapsed now since) then t.mismatch + 1 else 0) ∧
      mismatchAfter v (elapsed now since) t.mismatch < 4 := by
    unfold mismatchAfter measuredSpeed
    cases hm : mismatches v (60000000 / elapsed now since) with
    | false => simp
    | true =>
      have hthird : t.mismatch < 3 := hmatch.resolve_left (by simp [hm])
      simp only [if_true]
      omega
  rw [Tracker.pulse_accept (by rw [hstate]; decide) hlast
    (by rw [Tracker.minInterval_timed (.inl hstate) hperiod]; exact hmin), Tracker.accept_timed hmax]
  dsimp only
  rw [hstate, if_neg (by decide), Tracker.timed, if_pos hcount.2, hcount.1]
  rfl

end

/-! ### The pulse as a command -/

/-- R40, R126: the state at a pulse, the tracker moved and VALVE judged. -/
def pulsed (m : Moment) (x : Tracker) (s : State) : State := judgeValve { tick m s with tracker := x }

theorem exec_indexPulse {s : State} (hheld : s.held = false) {m : Moment} {x : Tracker} {o : PulseOutcome}
    (h : s.tracker.pulse (s.now + m.elapsed) s.driveSpeed = (x, o)) :
    exec (.indexPulse m) s = .next (handPulse m.choice o (pulsed m x s)) := by
  refine (happen_live hheld m _).trans ?_
  have hpulse : (tick m s).tracker.pulse (tick m s).now (tick m s).driveSpeed = (x, o) := h
  unfold indexPulse
  rw [hpulse]
  rfl

/-- R50, R126: nothing but the tracker, VALVE and the time has moved as the tracker has judged a pulse. -/
theorem pulsed_eq (m : Moment) (x : Tracker) (s : State) :
    pulsed m x s = { s with
      now := s.now + m.elapsed, tracker := x, ring := { s.ring with valve := (pulsed m x s).ring.valve } } := rfl

/-- R126: a pulse that neither finds nor gives the angle leaves VALVE closed. -/
theorem pulsed_no_angle {m : Moment} {x : Tracker} {s : State} (hs : s.tracker.state ≠ .locked) (hx : x.state ≠ .locked) :
    pulsed m x s = { tick m s with tracker := x } := by
  have hclosed : ∀ u : State, u.tracker.state ≠ .locked → u.valveOpen = false := fun u hu =>
    valveOpen_of_no_angle (by simpa [State.angleValid] using hu)
  have hafter : (pulsed m x s).ring.valve = false := hclosed { tick m s with tracker := x } hx
  have hbefore : (tick m s).ring.valve = false := hclosed { s with now := s.now + m.elapsed } hs
  rw [pulsed_eq, hafter, ← hbefore]
  rfl

/-! ### The users of the speed in the session -/

/-- R142: a trip leaves the counts of the session. -/
theorem abortCorrection_counts (s : State) :
    (abortCorrection s).session.dwell = s.session.dwell ∧ (abortCorrection s).session.settle = s.session.settle := by
  unfold abortCorrection
  split <;> simp [recordOutcome]

/-- R101: the session is in DWELL or SETTLE as before, or TRIPPED, with the counts it had. -/
structure CountsHeld (s t : State) : Prop where
  dwell : t.session.dwell = s.session.dwell
  settle : t.session.settle = s.session.settle
  state : t.session.state = s.session.state ∨ t.session.state = .tripped

theorem CountsHeld.judgeCause {s t : State} (h : CountsHeld s t) (ch : Choice) (c : Cause) :
    CountsHeld s (judgeCause ch c t) := by
  unfold Machine.judgeCause
  split
  · split
    · exact ⟨h.dwell, h.settle, h.state⟩
    · have hsession := (setTrip_trippedBy ch c t).session
      obtain ⟨hdwell, hsettle⟩ := abortCorrection_counts t
      exact ⟨by rw [hsession]; exact hdwell.trans h.dwell, by rw [hsession]; exact hsettle.trans h.settle,
        .inr (by rw [hsession])⟩
  · exact h

/-- R100, R110, R139: the users of the speed leave the counts of DWELL and SETTLE. -/
theorem speedChanged_countsHeld {s : State} (hstate : s.session.state = .dwell ∨ s.session.state = .settle) (ch : Choice) :
    CountsHeld s (speedChanged ch s) := by
  refine inOrder_keeps (CountsHeld s) ⟨rfl, rfl, .inl rfl⟩ fun f hf t ht => ?_
  simp only [List.mem_cons, List.not_mem_nil, or_false] at hf
  rcases hf with rfl | rfl | rfl
  · have hne : t.session.state ≠ .climb ∧ t.session.state ≠ .holdDown ∧ t.session.state ≠ .rundown := by
      rcases ht.state with h | h <;> rcases hstate with h' | h' <;> simp [h, h']
    obtain ⟨hclimb, hhold, hrundown⟩ := hne
    have hcheck : climbCheck ch t = t := if_neg hclimb
    show CountsHeld s (retainCheck ch (climbCheck ch t))
    rw [hcheck, retainCheck_other hhold hrundown]
    exact ht
  · exact ⟨ht.dwell, ht.settle, ht.state⟩
  · exact judgeCauses_keeps (fun c u hu => hu.judgeCause ch c) _ ht

theorem updateLead_frame (s : State) : updateLead s = { s with ring := (updateLead s).ring } := by
  unfold updateLead
  split <;> rfl

theorem revolutionClose_thin {s : State} {a : Accumulation} (hstate : s.est.state ≠ .invalid) (hacc : s.est.acc = some a)
    (hthin : a.n < 16) (ch : Choice) : revolutionClose ch s = { s with est := s.est.thinClose } := by
  unfold revolutionClose
  rw [hacc]
  split
  · exact absurd ‹_› hstate
  · next hnone _ => cases hnone
  · next hsome _ =>
    cases hsome
    exact if_pos hthin

/-- R45: the state as the revolution closes, the users of the speed having acted. -/
def closing (ch : Choice) (s : State) : State := speedChanged ch (updateLead s)

theorem angleClosed_eq (ch : Choice) (s : State) : angleClosed ch s = beginCounting (revolutionClose ch (closing ch s)) := rfl

theorem closing_est (ch : Choice) (s : State) : (closing ch s).est = s.est := by
  rw [closing, updateLead_frame]
  simp

theorem closing_kinds (ch : Choice) (s : State) : KindsStand tripKinds s (closing ch s) := by
  rw [closing, updateLead_frame]
  exact (speedChanged_kinds ch { s with ring := (updateLead s).ring }).after

theorem closing_countsHeld {s : State} (hstate : s.session.state = .dwell ∨ s.session.state = .settle) (ch : Choice) :
    CountsHeld s (closing ch s) := by
  rw [closing, updateLead_frame]
  obtain ⟨hdwell, hsettle, hafter⟩ := speedChanged_countsHeld (s := { s with ring := (updateLead s).ring }) hstate ch
  exact ⟨hdwell, hsettle, hafter⟩

/-- Settles O30: the revolution is discarded, and the users of the speed leave the counts. -/
theorem thinRevolution : Obligations.ThinRevolution := by
  intro m s since p a hheld hlocked hlast hperiod hmin hmax hmatch hest hacc hthin
  refine ⟨_, exec_indexPulse hheld (Tracker.pulse_closed hlocked hlast hperiod hmin hmax hmatch), ?_⟩
  generalize hu : pulsed m _ s = u
  have huest : u.est = s.est := by rw [← hu]; rfl
  have hest' : (closing m.choice u).est = s.est := (closing_est _ u).trans huest
  have husession : u.session = s.session := by rw [← hu]; rfl
  rw [handPulse, angleClosed_eq, revolutionClose_thin (by rw [hest']; exact hest) (by rw [hest', hacc]) hthin]
  refine ⟨?_, ?_, fun hdwell _ => ?_, fun hsettle _ => ?_⟩
  · show (closing m.choice u).est.thinClose = _
    rw [hest']
    rfl
  · refine (closing_kinds m.choice u).revNumber.trans ?_
    rw [← hu]
    rfl
  · refine (closing_countsHeld (s := u) (by rw [husession]; exact .inl hdwell) m.choice).dwell.trans ?_
    rw [husession]
  · refine (closing_countsHeld (s := u) (by rw [husession]; exact .inr hsettle) m.choice).settle.trans ?_
    rw [husession]

end Sys2Proof.Machine
end


section
/-! SUPPORT. What the session controller and the trip unit leave of the governor's terms. -/

namespace Sys2Proof.Machine
open Sys2Proof.Safety

/-! ### The governor's terms -/

/-- R69 to R82: the estimate stands; with no weighing ARMED the weighing and the load class stand too; and with none ARMED
or the estimator not VALID so do E_held, E_new and the rise counter. -/
structure GovStands (s t : State) : Prop where
  est : t.est = s.est
  weigh : s.weigh.state ≠ .armed → t.weigh = s.weigh ∧ t.loadClass = s.loadClass
  gov : s.est.state ≠ .valid ∨ s.weigh.state ≠ .armed →
    t.gov.eHeld = s.gov.eHeld ∧ t.gov.eNew = s.gov.eNew ∧ t.gov.rise = s.gov.rise

namespace GovStands

variable {s t u : State}

theorem of_same (hest : t.est = s.est) (hweigh : t.weigh = s.weigh) (hclass : t.loadClass = s.loadClass)
    (hgov : t.gov.eHeld = s.gov.eHeld ∧ t.gov.eNew = s.gov.eNew ∧ t.gov.rise = s.gov.rise) : GovStands s t :=
  ⟨hest, fun _ => ⟨hweigh, hclass⟩, fun _ => hgov⟩

theorem refl (s : State) : GovStands s s := .of_same rfl rfl rfl ⟨rfl, rfl, rfl⟩

theorem trans (h : GovStands s t) (h' : GovStands t u) : GovStands s u where
  est := h'.est.trans h.est
  weigh hunarmed := by
    obtain ⟨hweigh, hclass⟩ := h.weigh hunarmed
    obtain ⟨hweigh', hclass'⟩ := h'.weigh (by rwa [hweigh])
    exact ⟨hweigh'.trans hweigh, hclass'.trans hclass⟩
  gov hor := by
    obtain ⟨hheld, hnew, hrise⟩ := h.gov hor
    obtain ⟨hheld', hnew', hrise'⟩ := h'.gov
      (hor.imp (fun hstate => by rwa [h.est]) fun hunarmed => by rwa [(h.weigh hunarmed).1])
    exact ⟨hheld'.trans hheld, hnew'.trans hnew, hrise'.trans hrise⟩

theorem inOrder {code : List Nat} {fs : List (State → State)} (h0 : GovStands s t)
    (h : ∀ f ∈ fs, ∀ u, GovStands u (f u)) : GovStands s (inOrder code fs t) :=
  inOrder_keeps (GovStands s) h0 fun f hf u hu => hu.trans (h f hf u)

end GovStands

theorem judgeLive_govStands (k : Kind) (s : State) : GovStands s (judgeLive k s) := by
  constructor <;> simp

theorem latchKind_govStands (k : Kind) (s : State) : GovStands s (latchKind k s) := by
  constructor <;> simp

theorem recompose_govStands (s : State) : GovStands s (recompose s) := by
  constructor <;> simp

theorem queueRestated_govStands (s : State) : GovStands s (queueRestated s) := by
  constructor <;> simp

theorem session_govStands (s : State) (x : Session) : GovStands s { s with session := x } :=
  .of_same rfl rfl rfl ⟨rfl, rfl, rfl⟩

theorem ring_govStands (s : State) (r : Ring) : GovStands s { s with ring := r } :=
  .of_same rfl rfl rfl ⟨rfl, rfl, rfl⟩

/-! ### The weighing -/

/-- R71, R72: the end of an ARMED weighing moves none of the governor's terms unless the estimator is VALID. -/
theorem govStands_of_armed {s t : State} (harmed : s.weigh.state = .armed) (hest : t.est = s.est)
    (hgov : s.est.state ≠ .valid → t.gov = s.gov) : GovStands s t where
  est := hest
  weigh hunarmed := absurd harmed hunarmed
  gov hor := by
    rw [hgov (hor.resolve_right fun hunarmed => hunarmed harmed)]
    exact ⟨rfl, rfl, rfl⟩

theorem setLoadClass_gov {s : State} (h : s.est.state ≠ .valid) (c : Nat) : (setLoadClass c s).gov = s.gov := by
  unfold setLoadClass
  split
  · rfl
  · rw [envelopeRevised, if_neg (by exact h)]

theorem failWeighing_govStands {s : State} (h : s.weigh.state = .armed) : GovStands s (failWeighing s) :=
  govStands_of_armed h (by simp) fun hstate => setLoadClass_gov (by exact hstate) _

theorem endWeighing_govStands (s : State) : GovStands s (endWeighing s) := by
  unfold endWeighing
  split
  · next h =>
    split
    · exact failWeighing_govStands h
    · exact govStands_of_armed h (by simp) fun hstate => setLoadClass_gov (by exact hstate) _
  · exact .refl s

theorem abandonWeighing_govStands (s : State) : GovStands s (abandonWeighing s) := by
  unfold abandonWeighing
  split
  · next h => exact failWeighing_govStands h
  · exact .refl s

/-! ### The session -/

theorem sessionEvents_govStands {f : State → State} (hf : f ∈ sessionEvents ++ [recompose]) (u : State) :
    GovStands u (f u) := by
  simp only [sessionEvents, List.cons_append, List.nil_append, List.mem_cons, List.not_mem_nil, or_false] at hf
  rcases hf with rfl | rfl | rfl
  · exact judgeLive_govStands _ u
  · exact judgeLive_govStands _ u
  · exact recompose_govStands u

theorem setSession_govStands (ch : Choice) (st : SessionState) (s : State) : GovStands s (setSession ch st s) :=
  .inOrder (session_govStands s _) fun _ hf u => sessionEvents_govStands hf u

theorem enterIdle_govStands (ch : Choice) (s : State) : GovStands s (enterIdle ch s) :=
  (session_govStands s _).trans (setSession_govStands ch .idle _)

theorem retainCheck_govStands (ch : Choice) (s : State) : GovStands s (retainCheck ch s) := by
  unfold retainCheck
  split
  · split
    · exact (session_govStands s _).trans (enterIdle_govStands ch _)
    · exact enterIdle_govStands ch s
    · exact .refl s
  · exact .refl s

theorem enterDwell_govStands (ch : Choice) (s : State) : GovStands s (enterDwell ch s) :=
  ((session_govStands s _).trans (setSession_govStands ch .dwell _)).trans (endWeighing_govStands _)

theorem climbCheck_govStands (ch : Choice) (s : State) : GovStands s (climbCheck ch s) := by
  unfold climbCheck
  split
  · split
    · split
      · exact enterDwell_govStands ch s
      · exact .refl s
    · exact .refl s
  · exact .refl s

theorem settleCheck_govStands (ch : Choice) (s : State) : GovStands s (settleCheck ch s) := by
  unfold settleCheck
  split
  · split
    · split
      · exact enterDwell_govStands ch s
      · exact .refl s
    · exact .refl s
  · exact .refl s

theorem enterClimb_govStands (ch : Choice) (s : State) : GovStands s (enterClimb ch s) := by
  refine .inOrder (session_govStands s _) fun f hf u => ?_
  rcases List.mem_append.mp (show f ∈ (sessionEvents ++ [recompose]) ++ [climbCheck ch] from hf) with hf | hf
  · exact sessionEvents_govStands hf u
  · cases List.mem_singleton.mp hf
    exact climbCheck_govStands ch u

theorem enterClimbOrOpen_govStands (ch : Choice) (s : State) : GovStands s (enterClimbOrOpen ch s) := by
  unfold enterClimbOrOpen
  split
  · exact enterClimb_govStands ch s
  · exact (session_govStands s _).trans (setSession_govStands ch .opened _)

theorem enterSettle_govStands (ch : Choice) (s : State) : GovStands s (enterSettle ch false s) :=
  ((session_govStands s _).trans (setSession_govStands ch .settle _)).trans (settleCheck_govStands ch _)

theorem requestInjection_govStands (ch : Choice) (c : Fin 4) (w : Nat) (s : State) :
    GovStands s (requestInjection ch c w s) := by
  unfold requestInjection
  split
  · unfold injectionEnded
    split
    · exact (session_govStands s _).trans (enterSettle_govStands ch _)
    · exact .refl s
  · exact ring_govStands s _

theorem dwellEnd_govStands (ch : Choice) (e : Fin 6) (s : State) : GovStands s (dwellEnd ch e s) := by
  have hrecorded : GovStands s (recordDwellU e s) := session_govStands s _
  refine hrecorded.trans ?_
  unfold dwellEnd
  dsimp only
  split
  · exact ((session_govStands _ _).trans (latchKind_govStands .plateauPassed _)).trans (enterClimbOrOpen_govStands ch _)
  · split
    · exact ((setSession_govStands ch .correct _).trans (session_govStands _ _)).trans (requestInjection_govStands ch _ _ _)
    · rw [plateauFails_eq]
      split
      · exact ((session_govStands _ _).trans (setSession_govStands ch .holdDown _)).trans (retainCheck_govStands ch _)
      · exact (session_govStands _ _).trans (setSession_govStands ch .limited _)

theorem sessionClose_govStands (ch : Choice) (s : State) : GovStands s (sessionClose ch s) := by
  unfold sessionClose
  split
  · dsimp only
    split
    · split
      · exact (session_govStands s _).trans (dwellEnd_govStands ch _ _)
      · exact session_govStands s _
    · exact session_govStands s _
  · exact (session_govStands s _).trans (settleCheck_govStands ch _)
  · exact .refl s

/-! ### The trip unit and the users of the speed -/

theorem abortCorrection_govStands (s : State) : GovStands s (abortCorrection s) := by
  constructor <;> simp

theorem tripBlocks_govStands (ch : Choice) {f : State → State} (hf : f ∈ tripBlocks ch) (u : State) :
    GovStands u (f u) := by
  simp only [tripBlocks, List.mem_cons, List.not_mem_nil, or_false] at hf
  rcases hf with rfl | rfl | rfl | rfl
  · constructor <;> simp
  · exact (queueRestated_govStands u).trans (recompose_govStands _)
  · have hevents : GovStands u (inOrder ch.session sessionEvents (withSession .tripped (abortCorrection u))) :=
      .inOrder ((abortCorrection_govStands u).trans (session_govStands _ _)) fun f hf v =>
        sessionEvents_govStands (List.mem_append_left _ hf) v
    exact hevents.trans (abandonWeighing_govStands _)
  · exact judgeLive_govStands _ u

theorem trip_govStands (s : State) (x : Trip) : GovStands s { s with trip := x } := .of_same rfl rfl rfl ⟨rfl, rfl, rfl⟩

theorem judgeCause_govStands (ch : Choice) (c : Cause) (s : State) : GovStands s (judgeCause ch c s) := by
  unfold judgeCause
  split
  · split
    · exact trip_govStands s _
    · have hhanded : GovStands s (tripHanded ch c s) :=
        .inOrder (trip_govStands s _) fun _ hf u => tripBlocks_govStands ch hf u
      rw [setTrip_eq]
      split
      · exact hhanded.trans (trip_govStands _ _)
      · exact hhanded
  · exact .refl s

theorem judgeCauses_govStands (ch : Choice) (cs : List Cause) (s : State) : GovStands s (judgeCauses ch cs s) :=
  judgeCauses_keeps (P := GovStands s) (fun c t ht => ht.trans (judgeCause_govStands ch c t)) cs (.refl s)

theorem speedChanged_govStands (ch : Choice) (s : State) : GovStands s (speedChanged ch s) := by
  refine .inOrder (.refl s) fun f hf u => ?_
  simp only [List.mem_cons, List.not_mem_nil, or_false] at hf
  rcases hf with rfl | rfl | rfl
  · exact (climbCheck_govStands ch u).trans (retainCheck_govStands ch _)
  · exact ring_govStands u _
  · exact judgeCauses_govStands ch _ u

theorem closing_govStands (ch : Choice) (s : State) : GovStands s (closing ch s) := by
  rw [closing, updateLead_frame]
  exact (ring_govStands s _).trans (speedChanged_govStands ch _)

end Sys2Proof.Machine
end


section
/-! SUPPORT. The angle gained, lost and closed at a pulse: the estimator, the session and the event unit; the statement of the pulses judged. -/

namespace Sys2Proof.Machine
open Sys2Proof.Safety

/-! ### The estimator at the start of a revolution -/

/-- R64: the estimator as it leaves INVALID. -/
def Estimator.primed (e : Estimator) : Estimator :=
  { e with state := .priming, priming := 0, acc := some Accumulation.empty }

theorem estimatorBegin_est (s : State) :
    (estimatorBegin s).est = if s.est.state = .invalid ∧ s.mayPrime = true then s.est.primed else s.est := by
  unfold estimatorBegin
  split <;> rfl

theorem estimatorBegin_frame (s : State) : estimatorBegin s = { s with est := (estimatorBegin s).est } := by
  unfold estimatorBegin
  split <;> rfl

theorem mayPrime_iff (s : State) : s.mayPrime = true ↔ s.intake.loss = false ∧ s.intake.last.present = true := by
  simp [State.mayPrime]

/-- R64: an INVALID estimator at the start of a revolution. -/
def begun (s : State) : Estimator :=
  if s.intake.loss = false ∧ s.intake.last.present = true then s.est.primed else s.est

/-- R64: however often it is asked, the estimator leaves INVALID once. -/
theorem estimatorBegin_begun {s t : State} (hinvalid : s.est.state = .invalid) (hintake : t.intake = s.intake)
    (hest : t.est = s.est ∨ t.est = begun s) : (estimatorBegin t).est = begun s := by
  have hmay : t.mayPrime = true ↔ s.intake.loss = false ∧ s.intake.last.present = true := by rw [mayPrime_iff, hintake]
  rw [estimatorBegin_est]
  by_cases h : s.intake.loss = false ∧ s.intake.last.present = true
  · rcases hest with hest | hest
    · rw [if_pos ⟨by rw [hest]; exact hinvalid, hmay.mpr h⟩, hest, begun, if_pos h]
    · have hpriming : t.est.state = .priming := by rw [hest, begun, if_pos h]; rfl
      rw [if_neg (by simp [hpriming]), hest]
  · rw [if_neg fun hand => h (hmay.mp hand.2)]
    rw [begun, if_neg h] at hest ⊢
    exact hest.elim id id

theorem estimatorBegin_kinds (s : State) : KindsStand [] s (estimatorBegin s) := by
  rw [estimatorBegin_frame]
  exact .of_events rfl

/-! ### The angle gained -/

section

variable {s : State} (ch : Choice)

theorem angleGained_inputs (hangle : s.angleValid = true) : SameInputs s (angleGained ch s) :=
  (angleGained_effects ch hangle).sameInputs

theorem angleGained_est (hinvalid : s.est.state = .invalid) : (angleGained ch s).est = begun s := by
  have hrun := inOrder_brings_under (fun t : State => t.intake = s.intake ∧ (t.est = s.est ∨ t.est = begun s))
    (fun t => t.est = begun s) (code := ch.angle) (fs := [estimatorBegin, speedChanged ch, judgeLive .indexLoss])
    ⟨rfl, .inl rfl⟩ (fun f hf t ⟨hintake, hest⟩ => ?_) (fun f hf t ⟨hintake, _⟩ hest => ?_)
    ⟨estimatorBegin, by simp, fun t ⟨hintake, hest⟩ => estimatorBegin_begun hinvalid hintake hest⟩
  · exact (show (angleGained ch s).est = _ from rfl).trans hrun
  · simp only [List.mem_cons, List.not_mem_nil, or_false] at hf
    rcases hf with rfl | rfl | rfl
    · exact ⟨by rw [estimatorBegin_frame]; exact hintake, .inr (estimatorBegin_begun hinvalid hintake hest)⟩
    · exact ⟨by simpa using hintake, by simpa using hest⟩
    · exact ⟨by simpa using hintake, by simpa using hest⟩
  · simp only [List.mem_cons, List.not_mem_nil, or_false] at hf
    rcases hf with rfl | rfl | rfl
    · exact estimatorBegin_begun hinvalid hintake (.inr hest)
    · simpa using hest
    · simpa using hest

theorem angleGained_revNumber (s : State) : (angleGained ch s).events.revNumber = s.events.revNumber := by
  have hkinds : KindsStand (.indexLoss :: tripKinds) s
      (inOrder ch.angle [estimatorBegin, speedChanged ch, judgeLive .indexLoss] s) :=
    .inOrder (.refl _ s) fun f hf u => by
      simp only [List.mem_cons, List.not_mem_nil, or_false] at hf
      rcases hf with rfl | rfl | rfl
      · exact (estimatorBegin_kinds u).mono (List.nil_subset _)
      · exact (speedChanged_kinds ch u).mono (List.subset_cons_self _ _)
      · exact (judgeLive_kinds _ u).mono (by simp)
  exact hkinds.revNumber

/-- R48: INDEX_LOSS is false once the angle is valid. -/
theorem angleGained_live (hangle : s.angleValid = true) : (angleGained ch s).events.live.getLsbD 7 = false := by
  have hloss : ∀ t : State, t.tracker = s.tracker → t.indexLoss = false := fun t ht => by
    simp [State.indexLoss, show t.angleValid = true by rw [State.angleValid, ht]; exact hangle]
  have hrun := inOrder_brings_under (fun t : State => t.tracker = s.tracker)
    (fun t => t.events.live.getLsbD 7 = false) (code := ch.angle)
    (fs := [estimatorBegin, speedChanged ch, judgeLive .indexLoss]) rfl (fun f hf t ht => ?_) (fun f hf t ht hlive => ?_)
    ⟨judgeLive .indexLoss, by simp, fun t ht => (judgeLive_live .indexLoss t).trans (hloss t ht)⟩
  · exact hrun
  · simp only [List.mem_cons, List.not_mem_nil, or_false] at hf
    rcases hf with rfl | rfl | rfl
    · rw [estimatorBegin_frame]
      exact ht
    · simpa using ht
    · simpa using ht
  · simp only [List.mem_cons, List.not_mem_nil, or_false] at hf
    rcases hf with rfl | rfl | rfl
    · exact ((estimatorBegin_kinds t).live .indexLoss nofun).trans hlive
    · exact ((speedChanged_kinds ch t).live .indexLoss (by decide)).trans hlive
    · exact (judgeLive_live .indexLoss t).trans (hloss t ht)

end

theorem angleLost_revNumber (ch : Choice) (s : State) : (angleLost ch s).events.revNumber = s.events.revNumber := by
  refine inOrder_keeps (fun t => t.events.revNumber = s.events.revNumber) rfl fun f hf t ht => ?_
  simp only [List.mem_cons, List.not_mem_nil, or_false] at hf
  rcases hf with rfl | rfl | rfl | rfl
  · exact (estimatorInvalid_kinds ch t).revNumber.trans ht
  · exact (abortForAngle_kinds ch t).revNumber.trans ht
  · exact (speedChanged_kinds ch t).revNumber.trans ht
  · exact (judgeLive_kinds .indexLoss t).revNumber.trans ht

/-! ### The users of the speed with no LID cause -/

/-- R47: the state in which the session is judged, where the LID cause is false. -/
structure SpeedQuiet (s v : State) : Prop where
  inputs : SameInputs s v
  est : v.est = s.est
  session : v.session = s.session
  redistribute : v.events.live.getLsbD 3 = s.events.live.getLsbD 3

/-- R100, R110, R113: the users of the speed judge the session once, and with no LID cause the rest leaves it. -/
theorem speedChanged_quiet {s : State} (hlid : s.causeHolds .lid = false) (ch : Choice) :
    ∃ v, SpeedQuiet s v ∧ (speedChanged ch s).session = (retainCheck ch (climbCheck ch v)).session ∧
      (speedChanged ch s).events.live.getLsbD 3 = (retainCheck ch (climbCheck ch v)).events.live.getLsbD 3 := by
  have hcauses : ∀ t : State, SameInputs s t → t.est = s.est → judgeCauses ch [.lid] t = t := fun t ht hest => by
    rw [judgeCauses_one, judgeCause_false (by rw [causeHolds_of_inputs ht hest (by decide)]; exact hlid)]
  have hbleed : ∀ t : State, SameInputs s t → SameInputs s (judgeBleed t) := fun t ht =>
    ht.trans (by constructor <;> rfl)
  have hrun := inOrder_once (code := ch.readers) (pre := []) (post := [judgeBleed, judgeCauses ch [.lid]])
    (g := fun t => retainCheck ch (climbCheck ch t)) (s := s) (SpeedQuiet s)
    (fun t => SameInputs s t ∧ t.est = s.est ∧ ∃ v, SpeedQuiet s v ∧
      t.session = (retainCheck ch (climbCheck ch v)).session ∧
      t.events.live.getLsbD 3 = (retainCheck ch (climbCheck ch v)).events.live.getLsbD 3)
    ⟨.refl s, rfl, rfl, rfl⟩ (fun f hf t ht => ?_)
    (fun t ht => ⟨ht.inputs.trans ((climbCheck_effects ch t).trans (retainCheck_effects ch _)).sameInputs,
      by simpa using ht.est, t, ht, rfl, rfl⟩)
    (fun f hf t ht => ?_)
  · exact hrun.2.2
  · rcases List.mem_pair.mp hf with rfl | rfl
    · exact ⟨hbleed t ht.inputs, ht.est, ht.session, ht.redistribute⟩
    · rw [hcauses t ht.inputs ht.est]
      exact ht
  · obtain ⟨hinputs, hest, hdone⟩ := ht
    rcases List.mem_pair.mp hf with rfl | rfl
    · exact ⟨hbleed t hinputs, hest, hdone⟩
    · rw [hcauses t hinputs hest]
      exact ⟨hinputs, hest, hdone⟩

end Sys2Proof.Machine
end


section
/-! SUPPORT. The revolution close: its cases, and what the neighbours of the estimator leave. -/

namespace Sys2Proof.Machine
open Sys2Proof.Safety

/-! ### The cases of a close -/

/-- R57, R64, R67: a close leaves a new estimate and, where it is VALID, the neighbours act. -/
theorem revolutionClose_cases (ch : Choice) (s : State) :
    (∃ e, revolutionClose ch s = { s with est := e }) ∨
      ∃ e entered, revolutionClose ch s = neighboursAct ch entered { s with est := e } := by
  unfold revolutionClose
  split
  · exact .inl ⟨_, estimatorBegin_frame s⟩
  · exact .inl ⟨s.est, rfl⟩
  · split
    · exact .inl ⟨_, rfl⟩
    · dsimp only
      split
      · exact .inr ⟨_, _, rfl⟩
      · exact .inl ⟨_, rfl⟩

/-- R67, R81: what acts beside the session controller, the trip unit and the report. -/
def closeOthers (entered : Bool) : List (State → State) :=
  if entered then [judgeLive .estimateValid, recompose] else [governorClose false]

theorem closeEffects_perm (ch : Choice) (entered : Bool) :
    (closeEffects ch entered).Perm (closeOthers entered ++ closeReaders ch) := by
  cases entered with
  | false => exact arrange_perm _ _
  | true =>
    unfold closeEffects placed
    rw [if_pos rfl]
    exact (List.perm_insertIdx _ _ (Nat.lt_succ_iff.mp (Nat.mod_lt _ (Nat.succ_pos _)))).trans
      ((arrange_perm _ _).cons _)

/-- What acts beside the session controller, the trip unit and the report is no part of the session. -/
theorem closeOthers_kinds {entered : Bool} {f : State → State} (hf : f ∈ closeOthers entered) (t : State) :
    KindsStand [.governing, .estimateValid] t (f t) := by
  unfold closeOthers at hf
  split at hf
  · rcases List.mem_pair.mp hf with rfl | rfl
    · exact (judgeLive_kinds _ t).mono
    · exact (recompose_kinds t).mono
  · cases List.mem_singleton.mp hf
    exact ((recompose_kinds (takeEnvelope false t)).after).mono

theorem closeOthers_session {entered : Bool} {f : State → State} (hf : f ∈ closeOthers entered) (t : State) :
    (f t).session = t.session ∧ (f t).ring = t.ring ∧ (f t).trip = t.trip := by
  unfold closeOthers at hf
  split at hf
  · rcases List.mem_pair.mp hf with rfl | rfl <;> simp
  · cases List.mem_singleton.mp hf
    simp

theorem closeEffects_inputs {ch : Choice} {entered : Bool} {f : State → State} (hf : f ∈ closeEffects ch entered)
    (t : State) : SameInputs t (f t) ∧ (f t).est = t.est := by
  rcases mem_closeEffects hf with rfl | rfl | rfl | rfl | rfl | rfl <;> exact ⟨by constructor <;> simp, by simp⟩

theorem reportClose_live (s : State) : (reportClose s).events.live = s.events.live := by
  unfold reportClose
  dsimp only
  split
  · rfl
  · split <;> rfl

/-- R140: MASS, judged on an estimate within TRIP_MASS, trips nothing. -/
theorem judgeCauses_mass_quiet {s : State} (h : ∀ x, s.limits.mass = some x → s.est.u ≤ x) (ch : Choice) :
    judgeCauses ch [.mass] s = s := by
  rw [judgeCauses_one, judgeCause_false]
  unfold State.causeHolds
  cases hmass : s.limits.mass with
  | none => simp
  | some x => simp [h x hmass]

/-- R101, R140: at rest, with no MASS cause, the neighbours leave the session and REDISTRIBUTE. -/
theorem neighboursAct_idle {s : State} (hidle : s.session.state = .idle)
    (hmass : ∀ x, s.limits.mass = some x → s.est.u ≤ x) (ch : Choice) (entered : Bool) :
    (neighboursAct ch entered s).session = s.session ∧
      (neighboursAct ch entered s).events.live.getLsbD 3 = s.events.live.getLsbD 3 := by
  have hrun := inTurn_keeps (fs := closeEffects ch entered) (s := onlyIf entered (takeEnvelope true) s)
    (fun t => SameInputs s t ∧ t.est = s.est ∧ t.session = s.session ∧
      t.events.live.getLsbD 3 = s.events.live.getLsbD 3) ?_ fun f hf t ⟨hinputs, hest, hsession, hlive⟩ => ?_
  · exact hrun.2.2
  · cases entered
    · exact ⟨.refl s, rfl, rfl, rfl⟩
    · exact ⟨by constructor <;> rfl, rfl, rfl, rfl⟩
  · obtain ⟨hinputs', hest'⟩ := closeEffects_inputs hf t
    refine ⟨hinputs.trans hinputs', hest'.trans hest, ?_⟩
    rcases List.mem_append.mp ((closeEffects_perm ch entered).mem_iff.mp hf) with hother | hreader
    · exact ⟨(closeOthers_session hother t).1.trans hsession,
        ((closeOthers_kinds hother t).live .redistribute (by decide)).trans hlive⟩
    · simp only [closeReaders, List.mem_cons, List.not_mem_nil, or_false] at hreader
      rcases hreader with rfl | rfl | rfl
      · rw [sessionClose_other (.inr (by simp [hsession, hidle]))]
        exact ⟨hsession, hlive⟩
      · rw [judgeCauses_mass_quiet (by rw [hinputs.limits, hest]; exact hmass)]
        exact ⟨hsession, hlive⟩
      · exact ⟨by simpa using hsession, by rw [reportClose_live]; exact hlive⟩

theorem revolutionClose_idle {s : State} {ch : Choice} (hidle : s.session.state = .idle)
    (hmass : ∀ x, s.limits.mass = some x → (revolutionClose ch s).est.u ≤ x) :
    (revolutionClose ch s).session = s.session ∧
      (revolutionClose ch s).events.live.getLsbD 3 = s.events.live.getLsbD 3 := by
  rcases revolutionClose_cases ch s with ⟨e, h⟩ | ⟨e, entered, h⟩
  · rw [h]
    exact ⟨rfl, rfl⟩
  · rw [h] at hmass ⊢
    exact neighboursAct_idle (s := { s with est := e }) hidle (by simpa using hmass) ch entered

/-- R64: at a close with the estimator INVALID it may leave INVALID. -/
theorem revolutionClose_invalid {s : State} (h : s.est.state = .invalid) (ch : Choice) :
    revolutionClose ch s = estimatorBegin s := by
  unfold revolutionClose
  rw [h]

/-! ### The angle closed -/

/-- R101: what an accepted pulse leaves of the close, but for the mark. -/
theorem angleClosed_leaves (ch : Choice) (s : State) :
    (angleClosed ch s).est = (revolutionClose ch (closing ch s)).est ∧
      (angleClosed ch s).gov = (revolutionClose ch (closing ch s)).gov ∧
      (angleClosed ch s).events = (revolutionClose ch (closing ch s)).events ∧
      (angleClosed ch s).session = { (revolutionClose ch (closing ch s)).session with midRev := false } :=
  ⟨rfl, rfl, rfl, rfl⟩

theorem angleClosed_inputs (ch : Choice) {s : State} (hangle : s.angleValid = true) : SameInputs s (angleClosed ch s) :=
  (angleClosed_effects ch hangle).sameInputs

section

variable {s : State} (ch : Choice)

theorem closing_invalid (h : s.est.state = .invalid) :
    revolutionClose ch (closing ch s) = { closing ch s with est := (estimatorBegin (closing ch s)).est } := by
  rw [revolutionClose_invalid (by rw [closing_est]; exact h), estimatorBegin_frame]

theorem closing_intake : (closing ch s).intake = s.intake := by
  rw [closing, updateLead_frame]
  simp

/-- R45, R64: a pulse that closes a revolution with the estimator INVALID. -/
theorem angleClosed_invalid (h : s.est.state = .invalid) :
    (angleClosed ch s).est = begun s ∧ (angleClosed ch s).gov = (closing ch s).gov ∧
      (angleClosed ch s).events = (closing ch s).events ∧
      (angleClosed ch s).session = { (closing ch s).session with midRev := false } := by
  obtain ⟨hest, hgov, hevents, hsession⟩ := angleClosed_leaves ch s
  rw [hest, hgov, hevents, hsession, closing_invalid ch h]
  exact ⟨estimatorBegin_begun h (closing_intake ch) (.inl (closing_est ch s)), rfl, rfl, rfl⟩

/-! ### The session comes to rest -/

/-- R43, R139: below RETAIN_SPEED the lid is no cause. -/
theorem causeHolds_lid_below (h : s.speedBelow s.spin.retainSpeed = true) : s.causeHolds .lid = false := by
  unfold State.causeHolds
  unfold State.speedBelow at h
  dsimp only
  unfold State.speedAtLeast
  cases hspeed : s.speed with
  | none => simp
  | some v =>
    rw [hspeed] at h
    have hlow : v.natAbs < s.spin.retainSpeed := of_decide_eq_true h
    simp [Nat.not_le.mpr hlow]

/-- R110, R113, R114: below RETAIN_SPEED the users of the speed bring HOLD_DOWN and RUNDOWN to IDLE. -/
theorem speedChanged_rests (hbelow : s.speedBelow s.spin.retainSpeed = true)
    (hstate : s.session.state = .holdDown ∨ s.session.state = .rundown) :
    (speedChanged ch s).session = rested s.session ∧ (speedChanged ch s).events.live.getLsbD 3 = false := by
  obtain ⟨v, hv, hsession, hlive⟩ := speedChanged_quiet (causeHolds_lid_below hbelow) ch
  have hcheck : climbCheck ch v = v := if_neg (by rw [hv.session]; rcases hstate with h | h <;> simp [h])
  have hbelow' : v.speedBelow v.spin.retainSpeed = true := by
    rw [hv.inputs.spin, speedBelow_congr hv.inputs.tracker hv.inputs.drive hv.inputs.silence]
    exact hbelow
  have hstate' : v.session.state = .holdDown ∨ v.session.state = .rundown := by rwa [hv.session]
  rw [hsession, hlive, hcheck, retainCheck_rests hbelow' hstate', hv.session]
  exact ⟨rfl, retainCheck_redistribute hbelow' hstate' ch⟩

theorem closing_rests (hbelow : s.speedBelow s.spin.retainSpeed = true)
    (hstate : s.session.state = .holdDown ∨ s.session.state = .rundown) :
    (closing ch s).session = rested s.session ∧ (closing ch s).events.live.getLsbD 3 = false := by
  rw [closing, updateLead_frame]
  exact speedChanged_rests (s := { s with ring := (updateLead s).ring }) ch hbelow hstate

theorem closing_limits : (closing ch s).limits = s.limits := by
  rw [closing, updateLead_frame]
  simp

/-- R110, R113, R114: a pulse below RETAIN_SPEED brings HOLD_DOWN and RUNDOWN to IDLE, whatever the estimate. -/
theorem angleClosed_rests (hbelow : s.speedBelow s.spin.retainSpeed = true)
    (hstate : s.session.state = .holdDown ∨ s.session.state = .rundown)
    (hmass : ∀ x, s.limits.mass = some x → (angleClosed ch s).est.u ≤ x) :
    (angleClosed ch s).session = { rested s.session with midRev := false } ∧
      (angleClosed ch s).events.live.getLsbD 3 = false := by
  obtain ⟨hrested, hlive⟩ := closing_rests ch hbelow hstate
  obtain ⟨hsession', hlive'⟩ := revolutionClose_idle (s := closing ch s) (ch := ch) (by rw [hrested]; rfl)
    (by rw [closing_limits]; exact hmass)
  obtain ⟨-, -, hevents, hsession⟩ := angleClosed_leaves ch s
  rw [hsession, hevents, hsession', hlive', hrested, hlive]
  exact ⟨rfl, rfl⟩

end

end Sys2Proof.Machine
end


section
/-! SUPPORT. The pulses judged. -/

namespace Sys2Proof.Machine
open Sys2Proof.Safety

/-! ### What the tracker makes of a pulse -/

section

variable {t : Tracker} {now since : Time} {v : Option Int}

theorem Tracker.pulse_untimed (h : t.state = .untimed) : t.pulse now v = (Tracker.timingFrom now, .quiet) := by
  unfold Tracker.pulse
  rw [h]

/-- R40: a pulse sooner than the least interval is no pulse. -/
theorem Tracker.pulse_glitch (hstate : t.state ≠ .untimed) (hlast : t.lastIndex = some since)
    (hsoon : elapsed now since < t.minInterval) : t.pulse now v = (t, .glitch) := by
  unfold Tracker.pulse
  rw [hlast]
  split
  · exact absurd ‹_› hstate
  · next hnone _ => cases hnone
  · next hsome _ =>
    cases hsome
    exact if_pos hsoon

/-- R40: the least interval of a tracker that times. -/
theorem Tracker.minInterval_sound (hsound : trackerSound t = true) (hlast : t.lastIndex = some since) :
    t.state ≠ .untimed ∧ t.minInterval = max 45000 (t.period.getD 0 / 2) := by
  unfold trackerSound at hsound
  unfold Tracker.minInterval
  cases hstate : t.state with
  | untimed => simp [hstate, hlast] at hsound
  | timing =>
    obtain ⟨hnone, -⟩ : t.period = none ∧ t.mismatch = 0 := by simpa [hstate, hlast] using hsound
    simp [hnone, Config.minPeriod]
  | locked => exact ⟨by simp, rfl⟩
  | held => exact ⟨by simp, rfl⟩

/-- R42: a pulse in LOCKED or HELD that gives a period. -/
theorem Tracker.pulse_timed {p : Nat} (hstate : t.state = .locked ∨ t.state = .held) (hlast : t.lastIndex = some since)
    (hperiod : t.period = some p) (hmin : max 45000 (p / 2) ≤ elapsed now since) (hmax : elapsed now since ≤ 2000000) :
    t.pulse now v =
      (let count := mismatchAfter v (elapsed now since) t.mismatch
       (Tracker.timed now (elapsed now since) count,
        timedOutcome t.state (Tracker.timed now (elapsed now since) count).state)) := by
  have huntimed : t.state ≠ .untimed ∧ t.state ≠ .timing := by rcases hstate with h | h <;> simp [h]
  rw [Tracker.pulse_accept huntimed.1 hlast (by rw [Tracker.minInterval_timed hstate hperiod]; exact hmin),
    Tracker.accept_timed hmax, if_neg huntimed.2]

/-- R41: a pulse in TIMING that gives a period brings LOCKED. -/
theorem Tracker.pulse_first {d : Nat} (hstate : t.state = .timing) (hlast : t.lastIndex = some since)
    (hd : elapsed now since = d) (hmin : 45000 ≤ d) (hmax : d ≤ 2000000) :
    ∃ n ≤ 1, t.pulse now v = ({ state := .locked, lastIndex := some now, period := some d, mismatch := n }, .gained) := by
  subst hd
  have hleast : t.minInterval = 45000 := by simp [Tracker.minInterval, hstate, Config.minPeriod]
  have hcount : mismatchAfter v (elapsed now since) 0 ≤ 1 := by
    unfold mismatchAfter
    split <;> simp
  refine ⟨_, hcount, ?_⟩
  rw [Tracker.pulse_accept (by rw [hstate]; decide) hlast (by rw [hleast]; exact hmin), Tracker.accept_timed hmax]
  dsimp only
  rw [if_pos hstate, Tracker.timed, if_pos (by omega), hstate]
  rfl

/-- R42: a pulse in LOCKED or HELD more than 2,000,000 µs after the last begins the timing anew. -/
theorem Tracker.pulse_late (hstate : t.state = .locked ∨ t.state = .held) (hlast : t.lastIndex = some since)
    (hlate : 2000000 < elapsed now since) (hperiod : t.period.getD 0 ≤ 2000000) :
    t.pulse now v = (Tracker.timingFrom now, if t.state = .locked then .lost else .quiet) := by
  have hleast : t.minInterval ≤ elapsed now since := by
    have hform : t.minInterval = max 45000 (t.period.getD 0 / 2) := by
      rcases hstate with h | h <;> simp [Tracker.minInterval, h, Config.minPeriod]
    rw [hform]
    omega
  rw [Tracker.pulse_accept (by rcases hstate with h | h <;> simp [h]) hlast hleast]
  exact if_pos hlate

end

/-- R44: the mismatch of a revolution with the drive speed of the state. -/
theorem mismatches_driveSpeed (s : State) (n : Nat) :
    mismatches s.driveSpeed n = decide (s.silence.driveSilent = false ∧ 60 ≤ s.drive.speed.natAbs ∧
      s.drive.speed.natAbs / 8 < ((s.drive.speed.natAbs : Int) - (n : Nat)).natAbs) := by
  unfold mismatches State.driveSpeed
  cases s.silence.driveSilent <;> simp

theorem tick_pulsed (m : Moment) (s : State) : pulsed m s.tracker s = tick m s := rfl

/-! ### The pulse that finds the angle and loses it -/

section

variable {m : Moment} {x : Tracker} {s : State}

theorem pulsed_est : (pulsed m x s).est = s.est := rfl

/-- R47, R63, R130: what a pulse that loses the angle leaves. -/
theorem angleLost_pulsed (hsound : estimatorSound s.est = true) (hx : x.state ≠ .locked) :
    (angleLost m.choice (pulsed m x s)).est =
        { s.est with state := .invalid, acc := none, priming := 0, u := 0, seed := true } ∧
      (angleLost m.choice (pulsed m x s)).ring.valve = false ∧
      (angleLost m.choice (pulsed m x s)).ring.contents = s.ring.contents ∧
      (s.ring.ctx.state = .active → (angleLost m.choice (pulsed m x s)).ring.ctx.outcome = .aborted) ∧
      (angleLost m.choice (pulsed m x s)).events.live.getLsbD 7 =
        decide (s.silence.driveSilent = false ∧ 30 ≤ s.drive.speed.natAbs) ∧
      (angleLost m.choice (pulsed m x s)).events.revNumber = s.events.revNumber := by
  obtain ⟨hring, hidle⟩ := angleLost_ring m.choice (pulsed m x s)
  have hclosed : (pulsed m x s).ring.valve = false :=
    valveOpen_of_no_angle (s := { tick m s with tracker := x }) (by simpa [State.angleValid] using hx)
  refine ⟨angleLost_est (s := pulsed m x s) (by exact hsound) _, ?_, (angleLost_effects m.choice _).contents,
    fun hactive => ?_, ?_, angleLost_revNumber ..⟩
  · rcases hring with ⟨-, hvalve⟩ | ⟨-, hvalve, -⟩
    · exact hvalve.trans hclosed
    · exact hvalve
  · rcases hring with ⟨hctx, -⟩ | ⟨-, -, houtcome, -⟩
    · rw [hctx] at hidle
      exact absurd hactive hidle
    · exact houtcome
  · rw [angleLost_live]
    have hloss : (pulsed m x s).indexLoss =
        (!(x.state == .locked) && (match s.driveSpeed with | none => false | some v => decide (30 ≤ v.natAbs))) := rfl
    rw [hloss, State.driveSpeed]
    cases s.silence.driveSilent <;> simp [hx]

/-- R47, R64: what a pulse that gives the angle leaves. -/
theorem angleGained_pulsed (hinvalid : s.est.state = .invalid) (hx : x.state = .locked) :
    (angleGained m.choice (pulsed m x s)).est =
        (if s.intake.loss = false ∧ s.intake.last.present = true then s.est.primed else s.est) ∧
      (angleGained m.choice (pulsed m x s)).events.live.getLsbD 7 = false ∧
      (angleGained m.choice (pulsed m x s)).events.revNumber = s.events.revNumber := by
  have hangle : (pulsed m x s).angleValid = true := beq_iff_eq.mpr hx
  exact ⟨angleGained_est (s := pulsed m x s) m.choice hinvalid, angleGained_live _ hangle, angleGained_revNumber ..⟩

/-- R45, R64: a pulse with the estimator INVALID closes no revolution. -/
theorem angleClosed_pulsed (hinvalid : s.est.state = .invalid) :
    (angleClosed m.choice (pulsed m x s)).est =
        (if s.intake.loss = false ∧ s.intake.last.present = true then s.est.primed else s.est) ∧
      (angleClosed m.choice (pulsed m x s)).events.revNumber = s.events.revNumber ∧
      (angleClosed m.choice (pulsed m x s)).events.reportCount = s.events.reportCount ∧
      (angleClosed m.choice (pulsed m x s)).gov.eHeld = s.gov.eHeld ∧
      (angleClosed m.choice (pulsed m x s)).gov.eNew = s.gov.eNew ∧
      (angleClosed m.choice (pulsed m x s)).gov.rise = s.gov.rise ∧
      (s.session.state = .dwell ∨ s.session.state = .settle →
        (angleClosed m.choice (pulsed m x s)).session.dwell = s.session.dwell ∧
          (angleClosed m.choice (pulsed m x s)).session.settle = s.session.settle) := by
  obtain ⟨hest, hgov, hevents, hsession⟩ := angleClosed_invalid (s := pulsed m x s) m.choice hinvalid
  have hkinds := closing_kinds m.choice (pulsed m x s)
  obtain ⟨hheld, hnew, hrise⟩ := (closing_govStands m.choice (pulsed m x s)).gov
    (.inl (by rw [pulsed_est, hinvalid]; decide))
  rw [hest, hgov, hevents, hsession]
  refine ⟨rfl, hkinds.revNumber, hkinds.reportCount, hheld, hnew, hrise, fun hstate => ?_⟩
  have hcounts := closing_countsHeld (s := pulsed m x s) hstate m.choice
  exact ⟨hcounts.dwell, hcounts.settle⟩

/-- R110, R113, R114: a pulse at an index speed below RETAIN_SPEED in HOLD_DOWN or RUNDOWN. -/
theorem angleClosed_pulsed_rests {d : Nat} (hx : x.state = .locked) (hperiod : x.period = some d)
    (hslow : 60000000 / d < s.spin.retainSpeed) (hstate : s.session.state = .holdDown ∨ s.session.state = .rundown)
    (hmass : ∀ n, s.limits.mass = some n → (angleClosed m.choice (pulsed m x s)).est.u ≤ n) :
    (angleClosed m.choice (pulsed m x s)).session = { rested s.session with midRev := false } ∧
      (angleClosed m.choice (pulsed m x s)).events.live.getLsbD 3 = false := by
  have hspeed : (pulsed m x s).speed = some ((60000000 / d : Nat) : Int) := by
    have hangle : (pulsed m x s).angleValid = true := beq_iff_eq.mpr hx
    have hindex : (pulsed m x s).indexSpeed = 60000000 / d := by
      show x.indexSpeed = _
      rw [Tracker.indexSpeed, hx, hperiod]
      rfl
    rw [State.speed, if_pos hangle, hindex]
  refine angleClosed_rests (s := pulsed m x s) m.choice ?_ hstate hmass
  rw [State.speedBelow, hspeed]
  exact decide_eq_true hslow

end

/-! ### The statement -/

/-- R41, R47, R64: the first period. -/
theorem pulse_in_timing {m : Moment} {s : State} {since : Time} (hheld : s.held = false) (hstate : s.tracker.state = .timing)
    (hlast : s.tracker.lastIndex = some since) (hmin : 45000 ≤ elapsed (s.now + m.elapsed) since)
    (hmax : elapsed (s.now + m.elapsed) since ≤ 2000000) (hsound : estimatorSound s.est = true)
    (hinvalid : s.est.state = .invalid) :
    ∃ t, exec (.indexPulse m) s = .next t ∧
      t.tracker.state = .locked ∧ t.tracker.lastIndex = some (s.now + m.elapsed) ∧
      t.tracker.period = some (elapsed (s.now + m.elapsed) since) ∧ t.tracker.mismatch ≤ 1 ∧
      t.indexSpeed = 60000000 / elapsed (s.now + m.elapsed) since ∧
      t.est = (if s.intake.loss = false ∧ s.intake.last.present = true then
        { s.est with state := .priming, acc := some { i := 0, q := 0, n := 0 } } else s.est) ∧
      t.events.live.getLsbD 7 = false ∧ t.events.revNumber = s.events.revNumber ∧
      t.drive = s.drive ∧ t.intake = s.intake ∧ t.requested = s.requested ∧ t.limits = s.limits := by
  obtain ⟨n, hn, hpulse⟩ := Tracker.pulse_first (v := s.driveSpeed) hstate hlast rfl hmin hmax
  generalize hx : ({ state := .locked, lastIndex := some (s.now + m.elapsed)
                     period := some (elapsed (s.now + m.elapsed) since), mismatch := n } : Tracker) = x at hpulse
  have hlocked : x.state = .locked := by rw [← hx]
  obtain ⟨hest, hlive, hrev⟩ := angleGained_pulsed (m := m) (x := x) hinvalid hlocked
  have hinputs := angleGained_inputs (s := pulsed m x s) m.choice (beq_iff_eq.mpr hlocked)
  have htracker : (angleGained m.choice (pulsed m x s)).tracker = x := hinputs.tracker
  have hprimed : s.est.primed = { s.est with state := .priming, acc := some { i := 0, q := 0, n := 0 } } := by
    have hpriming : s.est.priming = 0 := by
      unfold estimatorSound at hsound
      rw [hinvalid] at hsound
      simp only [Bool.and_eq_true, beq_iff_eq] at hsound
      exact hsound.1.1.2
    simp [Estimator.primed, Accumulation.empty, hpriming]
  refine ⟨_, exec_indexPulse hheld hpulse, by rw [handPulse, htracker, hlocked], by rw [handPulse, htracker, ← hx],
    by rw [handPulse, htracker, ← hx], by rw [handPulse, htracker, ← hx]; exact hn, ?_, ?_, hlive, hrev, hinputs.drive,
    hinputs.intake, hinputs.requested, hinputs.limits⟩
  · rw [handPulse, State.indexSpeed, htracker, ← hx]
    rfl
  · rw [handPulse, hest, hprimed]

/-- R42, R44: the outcome of a pulse that gives a period in LOCKED or HELD. -/
theorem timedOutcome_cases {before : TrackerState} {n : Nat} (h : before = .locked ∨ before = .held) (now : Time) (d : Nat) :
    timedOutcome before (Tracker.timed now d n).state =
      if n < 4 then (if before = .locked then .closed else .gained) else (if before = .locked then .lost else .quiet) := by
  unfold Tracker.timed
  rcases h with rfl | rfl <;> by_cases hn : n < 4 <;> simp [hn, timedOutcome]

/-- R42, R44, R45, R47: what a pulse that gives a period in LOCKED or HELD leaves, the count of mismatches being `n`. -/
theorem handPulse_timed {m : Moment} {s : State} {x : Tracker} {d n : Nat}
    (hx : x = { state := if n < 4 then .locked else .held, lastIndex := some (s.now + m.elapsed), period := some d, mismatch := n })
    (hsound : estimatorSound s.est = true) {t : State}
    (ht : t = handPulse m.choice
      (if n < 4 then (if s.tracker.state = .locked then .closed else .gained)
        else (if s.tracker.state = .locked then .lost else .quiet)) (pulsed m x s)) :
    (s.tracker.state = .locked → n = 4 →
        t.est = { s.est with state := .invalid, acc := none, priming := 0, u := 0, seed := true } ∧
          t.ring.valve = false ∧ t.ring.contents = s.ring.contents ∧
          (s.ring.ctx.state = .active → t.ring.ctx.outcome = .aborted) ∧
          t.events.live.getLsbD 7 = decide (s.silence.driveSilent = false ∧ 30 ≤ s.drive.speed.natAbs) ∧
          t.events.revNumber = s.events.revNumber) ∧
       (s.tracker.state = .held → n = 4 → t = { tick m s with tracker := t.tracker }) ∧
       (s.tracker.state = .held → n < 4 → s.est.state = .invalid →
        t.est = (if s.intake.loss = false ∧ s.intake.last.present = true then s.est.primed else s.est) ∧
          t.events.live.getLsbD 7 = false ∧ t.events.revNumber = s.events.revNumber) ∧
       (s.tracker.state = .locked → n < 4 → s.est.state = .invalid →
        t.est = (if s.intake.loss = false ∧ s.intake.last.present = true then s.est.primed else s.est) ∧
          t.events.revNumber = s.events.revNumber ∧ t.events.reportCount = s.events.reportCount ∧
          t.gov.eHeld = s.gov.eHeld ∧ t.gov.eNew = s.gov.eNew ∧ t.gov.rise = s.gov.rise ∧
          (s.session.state = .dwell ∨ s.session.state = .settle → t.session.dwell = s.session.dwell ∧
            t.session.settle = s.session.settle)) ∧
       (s.tracker.state = .locked → n < 4 → s.session.state = .holdDown ∨ s.session.state = .rundown →
        60000000 / d < s.spin.retainSpeed → (∀ y, s.limits.mass = some y → t.est.u ≤ y) →
        t.session = { rested s.session with midRev := false } ∧ t.events.live.getLsbD 3 = false) := by
  refine ⟨fun hlocked hfour => ?_, fun hheld hfour => ?_, fun hheld hless hinvalid => ?_, fun hlocked hless hinvalid => ?_,
    fun hlocked hless hsession hslow hmass => ?_⟩
  · have hx' : x.state ≠ .locked := by simp [hx, hfour]
    rw [hfour, if_neg (by decide), if_pos hlocked] at ht
    subst ht
    exact angleLost_pulsed hsound hx'
  · have hx' : x.state ≠ .locked := by simp [hx, hfour]
    rw [hfour, if_neg (by decide), if_neg (by simp [hheld]), handPulse, pulsed_no_angle (by simp [hheld]) hx'] at ht
    rw [ht]
  · have hx' : x.state = .locked := by simp [hx, hless]
    rw [if_pos hless, if_neg (by simp [hheld])] at ht
    subst ht
    exact angleGained_pulsed hinvalid hx'
  · rw [if_pos hless, if_pos hlocked] at ht
    subst ht
    exact angleClosed_pulsed hinvalid
  · have hx' : x.state = .locked := by simp [hx, hless]
    rw [if_pos hless, if_pos hlocked] at ht
    subst ht
    exact angleClosed_pulsed_rests hx' (by simp [hx]) hslow hsession hmass

/-- Settles O28: each pulse by what the tracker makes of it and hands on. -/
theorem pulsesJudged : Obligations.PulsesJudged := by
  refine ⟨fun m s hheld hsound => ?_, fun m s since hheld hstate hlast hmin hmax hsound hinvalid => ?_,
    fun m s since p hheld hstate hlast hperiod hmin hmax hsound _ => ?_,
    fun m s since hheld hstate hlast hlate hperiod hsound => ?_⟩
  · obtain ⟨⟨x, o⟩, hpulse⟩ : ∃ r, s.tracker.pulse (s.now + m.elapsed) s.driveSpeed = r := ⟨_, rfl⟩
    refine ⟨_, exec_indexPulse hheld hpulse, fun huntimed => ?_, fun since hlast hsoon => ?_⟩
    · rw [Tracker.pulse_untimed huntimed] at hpulse
      cases hpulse
      exact pulsed_no_angle (by simp [huntimed]) (by simp [Tracker.timingFrom])
    · obtain ⟨hstate, hleast⟩ := Tracker.minInterval_sound hsound hlast
      rw [Tracker.pulse_glitch hstate hlast (by rw [hleast]; exact hsoon)] at hpulse
      cases hpulse
      rw [handPulse, tick_pulsed]
      have hcounts := countSource_counts .indexGlitch (tick m s)
      refine ⟨?_, hcounts⟩
      rw [countSource_monitor]
      simp only [tick_kept]
      split <;> rfl
  · exact pulse_in_timing hheld hstate hlast hmin hmax hsound hinvalid
  · have hpulse := Tracker.pulse_timed (v := s.driveSpeed) hstate hlast hperiod hmin hmax
    dsimp only at hpulse
    rw [timedOutcome_cases hstate] at hpulse
    refine ⟨_, exec_indexPulse hheld hpulse, ?_, by simp; rfl, by simp; rfl, by simp; rfl, by simp; rfl⟩
    intro d mismatch count
    have hcount : mismatchAfter s.driveSpeed (elapsed (s.now + m.elapsed) since) s.tracker.mismatch = count := by
      unfold mismatchAfter
      rw [mismatches_driveSpeed]
      rfl
    rw [hcount]
    obtain ⟨hlost, hquiet, hgained, hclosed, hrests⟩ := handPulse_timed (m := m)
      (x := Tracker.timed (s.now + m.elapsed) d count) (d := d) (n := count) rfl hsound rfl
    refine ⟨by simp; rfl, hlost, hquiet, hgained, hclosed, fun hlocked hless hsession hslow hmass => ?_⟩
    obtain ⟨hrested, hlive⟩ := hrests hlocked hless hsession hslow hmass
    refine ⟨fun e => ?_, ?_, hlive⟩
    · refine (congrArg (fun y : Session => y.progress[e]) hrested).trans ?_
      simp [rested, mapAll]
    · rw [hrested]
      rfl
  · have hpulse := Tracker.pulse_late (v := s.driveSpeed) hstate hlast hlate hperiod
    have hx : (Tracker.timingFrom (s.now + m.elapsed)).state ≠ .locked := by simp [Tracker.timingFrom]
    refine ⟨_, exec_indexPulse hheld hpulse, by simp; rfl, fun hlocked => ?_, fun hheld' => ?_⟩
    · rw [if_pos hlocked]
      exact (angleLost_pulsed hsound hx).1
    · rw [if_neg (by simp [hheld'])]
      exact pulsed_no_angle (by simp [hheld']) hx

end Sys2Proof.Machine
end


section
/-! SUPPORT. A counted revolution: the estimate, the governor's hysteresis and the report. -/

namespace Sys2Proof.Machine
open Sys2Proof.Safety

/-! ### The counted close -/

/-- R57: the state with the estimate of a counted revolution of the sums `a`. -/
def counted (a : Accumulation) (s : State) : State := { s with est := s.est.countedClose s a }

theorem revolutionClose_counted {s : State} {a : Accumulation} (hstate : s.est.state ≠ .invalid)
    (hacc : s.est.acc = some a) (hfull : 16 ≤ a.n) (ch : Choice) :
    revolutionClose ch s =
      if (counted a s).est.state = .valid then neighboursAct ch (s.est.state != .valid) (counted a s)
      else counted a s := by
  unfold revolutionClose
  rw [hacc]
  split
  · exact absurd ‹_› hstate
  · next hnone _ => cases hnone
  · next hsome _ =>
    cases hsome
    exact if_neg (Nat.not_lt.mpr hfull)

/-- R57: a counted revolution reads the settings, the tables and the index speed. -/
theorem countedClose_congr {s t : State} (h : SameInputs s t) (a : Accumulation) (e : Estimator) :
    e.countedClose t a = e.countedClose s a := by
  unfold Estimator.countedClose State.indexSpeed
  rw [h.spin, h.tables, h.tracker]

theorem closing_inputs (ch : Choice) (s : State) : SameInputs s (closing ch s) :=
  ((updateLead_effects s).trans (speedChanged_effects ch _)).sameInputs

/-- R45, R57: the estimate that a pulse closing a counted revolution leaves. -/
theorem angleClosed_counted_est {s : State} {a : Accumulation} (hstate : s.est.state ≠ .invalid)
    (hacc : s.est.acc = some a) (hfull : 16 ≤ a.n) (ch : Choice) :
    (angleClosed ch s).est = s.est.countedClose s a := by
  have hest := closing_est ch s
  have hcounted : (counted a (closing ch s)).est = s.est.countedClose s a := by
    rw [counted, hest]
    exact countedClose_congr (closing_inputs ch s) a s.est
  rw [(angleClosed_leaves ch s).1,
    revolutionClose_counted (by rw [hest]; exact hstate) (by rw [hest]; exact hacc) hfull, ← hcounted]
  split
  · simp
  · rfl

/-! ### The estimate -/

/-- R58 to R61: the fields that a counted revolution leaves. -/
theorem countedClose_fields (s : State) (a : Accumulation) (e : Estimator) :
    (e.countedClose s a).fx = (if e.seed then rawComponent a.i a.n
        else e.fx + (rawComponent a.i a.n - e.fx) / 2 ^ s.spin.filterShift) ∧
      (e.countedClose s a).fy = (if e.seed then rawComponent a.q a.n
        else e.fy + (rawComponent a.q a.n - e.fy) / 2 ^ s.spin.filterShift) ∧
      (e.countedClose s a).m16 =
        isqrt ((e.countedClose s a).fx.natAbs ^ 2 + (e.countedClose s a).fy.natAbs ^ 2) ∧
      (e.countedClose s a).band = bandOf s.indexSpeed ∧
      (e.countedClose s a).u =
        min 9999 ((e.countedClose s a).m16 * look s.tables.gain (bandOf s.indexSpeed) 0 / 4096) ∧
      (e.countedClose s a).seed = false ∧ (e.countedClose s a).acc = some Accumulation.empty ∧
      (e.countedClose s a).thin = e.thin := by
  obtain ⟨hfx, hfy, hm16, hband, hu, hthin, hseed⟩ := advance_kept s.spin.primeRevs
    (e.estimate s.spin.filterShift s.tables.gain (bandOf s.indexSpeed) a)
  have hcast : ((2 ^ s.spin.filterShift : Nat) : Int) = 2 ^ s.spin.filterShift := by push_cast; rfl
  unfold Estimator.countedClose
  dsimp only
  rw [hfx, hfy, hm16, hband, hu, hthin, hseed]
  unfold Estimator.estimate filterStep floorDiv
  dsimp only
  rw [hcast]
  refine ⟨rfl, rfl, ?_, rfl, rfl, rfl, rfl, rfl⟩
  rw [magnitude, sq, sq]

/-- R65, R66: the step of the state. -/
theorem countedClose_state (s : State) (a : Accumulation) (e : Estimator) :
    (e.state = .valid → (e.countedClose s a).state = .valid ∧ (e.countedClose s a).priming = e.priming) ∧
      (e.state = .priming → (e.countedClose s a).priming = min 15 (e.priming + 1) ∧
        (e.countedClose s a).state = (if s.spin.primeRevs ≤ min 15 (e.priming + 1) then .valid else .priming)) := by
  unfold Estimator.countedClose Estimator.advance Estimator.estimate
  refine ⟨fun h => ?_, fun h => ?_⟩ <;> simp [h]

/-! ### The kinds of the session controller -/

theorem plateauFails_kinds (ch : Choice) (e : Fin 6) (s : State) : KindsStand sessionKinds s (plateauFails ch e s) := by
  rw [plateauFails_eq]
  split
  · exact ((setSession_kinds ch .holdDown _).after).trans (retainCheck_kinds ch _)
  · exact (setSession_kinds ch .limited _).after

theorem enterCorrect_kinds (ch : Choice) (e : Fin 6) (c : Fin 4) (w : Nat) (s : State) :
    KindsStand sessionKinds s (enterCorrect ch e c w s) := by
  have hentered : KindsStand sessionKinds s (correctEntered ch e c w s) :=
    (setSession_kinds ch .correct s).trans (.of_events rfl)
  rw [enterCorrect_eq, requestInjection]
  split
  · unfold injectionEnded
    split
    · exact hentered.trans ((enterSettle_kinds ch _).after)
    · exact hentered
  · exact hentered.trans (.of_events rfl)

/-- R103: a plateau that does not pass latches no PLATEAU_PASSED. -/
theorem dwellEnd_above_kinds {s : State} {e : Fin 6} (h : ¬s.est.u ≤ plateauPass s.tables e) (ch : Choice) :
    KindsStand sessionKinds s (dwellEnd ch e s) := by
  cases hplan : correctionPlan (recordDwellU e s) e with
  | some plan =>
    rw [dwellEnd_corrects h hplan]
    exact (enterCorrect_kinds ch e _ _ _).after
  | none =>
    rw [dwellEnd_fails h hplan]
    exact (plateauFails_kinds ch e _).after

theorem dwellEnd_kinds (ch : Choice) (e : Fin 6) (s : State) :
    KindsStand (.plateauPassed :: sessionKinds) s (dwellEnd ch e s) := by
  by_cases h : s.est.u ≤ plateauPass s.tables e
  · rw [dwellEnd_passes h, plateauPasses_eq]
    exact ((latchKind_kinds .plateauPassed _).mono.after).trans (enterClimbOrOpen_kinds ch _).mono
  · exact (dwellEnd_above_kinds h ch).mono

theorem sessionClose_kinds (ch : Choice) (s : State) :
    KindsStand (.plateauPassed :: sessionKinds) s (sessionClose ch s) := by
  unfold sessionClose
  split
  · dsimp only
    split
    · split
      · exact (dwellEnd_kinds ch _ _).after
      · exact .of_events rfl
    · exact .of_events rfl
  · exact (settleCheck_kinds ch _).mono.after
  · exact .refl _ s

/-! ### The report -/

/-- Table 1-8: the fields of a report that the statement of a counted revolution names. -/
theorem reportFrame_fields (s : State) :
    (reportFrame s).cls = 0x3F ∧ (reportFrame s).payload.length = 22 ∧
      (reportFrame s).payload.take 10 = be16 s.events.revNumber ++ be16 (BitVec.ofNat 16 s.indexSpeed) ++
        be16 (BitVec.ofInt 16 s.est.fx) ++ be16 (BitVec.ofInt 16 s.est.fy) ++ be16 (BitVec.ofNat 16 s.est.u) := by
  refine ⟨rfl, ?_, rfl⟩
  have hflat : ∀ l : List Nat, (l.flatMap u16Bytes).length = 2 * l.length := fun l => by
    induction l with
    | nil => rfl
    | cons n l ih =>
      rw [List.flatMap_cons, List.length_append, ih, show (u16Bytes n).length = 2 from rfl, List.length_cons]
      omega
  simp [reportFrame, u16Bytes, s16Bytes, be16, hflat]

/-- R155: a local queue in which a report has taken its place or been skipped. -/
def reportQueued (s : State) (q : List QFrame) : Prop :=
  ∃ f : QFrame, f.cls = 0x3F ∧ f.payload.length = 22 ∧
    f.payload.take 10 = be16 (s.events.revNumber + 1) ++ be16 (BitVec.ofNat 16 s.indexSpeed) ++
      be16 (BitVec.ofInt 16 s.est.fx) ++ be16 (BitVec.ofInt 16 s.est.fy) ++ be16 (BitVec.ofNat 16 s.est.u) ∧
    q = (if s.portC.localQ.any (fun g => g.cls == 0x3F) then replaceFirst (fun g => g.cls == 0x3F) f s.portC.localQ
      else if s.portC.localQ.length < 4 then s.portC.localQ ++ [f] else s.portC.localQ)

/-- R155: a report is due at the revolution that closes. -/
def reportDue (s : State) : Prop := 0 < s.service.reportEvery ∧ s.service.reportEvery ≤ s.events.reportCount + 1

/-- R155: the event unit's part of a counted VALID revolution has been made on the way from `s` to `t`. -/
structure Reported (s t : State) : Prop where
  revNumber : t.events.revNumber = s.events.revNumber + 1
  reportCount : t.events.reportCount =
    if s.service.reportEvery ≤ s.events.reportCount + 1 then 0 else s.events.reportCount + 1
  report : t.events.report = s.events.report
  localQ : s.events.report = 0 → s.portC.sending ≠ none →
    t.portC.sending ≠ none ∧ (reportDue s → reportQueued s t.portC.localQ) ∧
      (¬reportDue s → t.portC.localQ = s.portC.localQ)

/-- R154: what the others of the moment leave of the report. -/
theorem Reported.then_kinds {K : List Kind} {s t u : State} (h : Reported s t) (hstand : KindsStand K t u) :
    Reported s u where
  revNumber := hstand.revNumber.trans h.revNumber
  reportCount := hstand.reportCount.trans h.reportCount
  report := hstand.report.trans h.report
  localQ hnone hbusy := by
    obtain ⟨hbusy', hdue, hrest⟩ := h.localQ hnone hbusy
    obtain ⟨hqueue, hbusy''⟩ := hstand.localQ (h.report.trans hnone) hbusy'
    rw [hqueue]
    exact ⟨hbusy'', hdue, hrest⟩

theorem reportClose_reported (s : State) : Reported s (reportClose s) := by
  rw [reportClose_eq]
  by_cases hzero : s.service.reportEvery = 0
  · rw [if_pos hzero]
    have hundue : ¬reportDue s := fun h => by
      have := h.1
      omega
    exact ⟨rfl, by rw [if_pos (by omega)], rfl, fun _ hbusy => ⟨hbusy, fun h => absurd h hundue, fun _ => rfl⟩⟩
  · rw [if_neg hzero]
    by_cases hdue : s.service.reportEvery ≤ s.events.reportCount + 1
    · rw [if_pos hdue]
      refine ⟨rfl, by rw [if_pos hdue]; rfl, rfl, fun _ hbusy => ?_⟩
      have hport := offered_busy (p := s.portC) hbusy isReport (reportFrame (nextRev s)) s.now
      change (makeReport (nextRev s)).portC = _ at hport
      obtain ⟨hcls, hlength, htake⟩ := reportFrame_fields (nextRev s)
      rw [hport]
      exact ⟨hbusy, fun _ => ⟨_, hcls, hlength, htake, rfl⟩, fun h => absurd ⟨Nat.pos_of_ne_zero hzero, hdue⟩ h⟩
    · rw [if_neg hdue]
      exact ⟨rfl, by rw [if_neg hdue], rfl, fun _ hbusy => ⟨hbusy, fun h => absurd h.2 hdue, fun _ => rfl⟩⟩

/-- What the neighbours' moment starts from. -/
theorem onlyIf_takeEnvelope_frame (entered : Bool) (s : State) :
    onlyIf entered (takeEnvelope true) s = { s with gov := (onlyIf entered (takeEnvelope true) s).gov } := by
  cases entered <;> rfl

/-- What of the event unit and Port C a report rests on. -/
structure BeforeReport (K : List Kind) (s t : State) : Prop where
  kinds : KindsStand K s t
  inputs : SameInputs s t
  est : t.est = s.est

theorem BeforeReport.reported {K : List Kind} {s t u : State} (h : BeforeReport K s t) (hreported : Reported t u) :
    Reported s u := by
  obtain ⟨hrev, hcount, hreport, hlocal⟩ := hreported
  rw [h.kinds.revNumber] at hrev
  rw [h.kinds.reportCount, h.inputs.service] at hcount
  refine ⟨hrev, hcount, hreport.trans h.kinds.report, fun hnone hbusy => ?_⟩
  obtain ⟨hqueue, hbusy'⟩ := h.kinds.localQ hnone hbusy
  have hspeed : t.indexSpeed = s.indexSpeed := congrArg Tracker.indexSpeed h.inputs.tracker
  have hlocal' := hlocal (h.kinds.report.trans hnone) hbusy'
  unfold reportDue reportQueued at hlocal' ⊢
  rwa [h.kinds.reportCount, h.inputs.service, h.kinds.revNumber, hspeed, h.est, hqueue] at hlocal'

/-- R67, R155: in whatever order, the neighbours make the report once. -/
theorem neighboursAct_reported (ch : Choice) (entered : Bool) (s : State) :
    Reported s (neighboursAct ch entered s) := by
  have hothers : ∀ f ∈ (closeOthers entered ++ [sessionClose ch, judgeCauses ch [.mass]]) ++ [], ∀ t,
      KindsStand (.plateauPassed :: .estimateValid :: tripKinds) t (f t) ∧ SameInputs t (f t) ∧ (f t).est = t.est := by
    intro f hf t
    rw [List.append_nil] at hf
    have hmem : f ∈ closeEffects ch entered :=
      (closeEffects_perm ch entered).mem_iff.mpr (by
        rcases List.mem_append.mp hf with hf | hf
        · exact List.mem_append_left _ hf
        · exact List.mem_append_right _ (List.mem_append_left [reportClose] hf))
    refine ⟨?_, closeEffects_inputs hmem t⟩
    rcases List.mem_append.mp hf with hf | hf
    · exact (closeOthers_kinds hf t).mono
    · rcases List.mem_pair.mp hf with rfl | rfl
      · exact (sessionClose_kinds ch t).mono
      · exact (judgeCauses_kinds ch _ t).mono
  rw [neighboursAct]
  refine inTurn_once (BeforeReport (.plateauPassed :: .estimateValid :: tripKinds) s) (Reported s) (g := reportClose)
    (pre := closeOthers entered ++ [sessionClose ch, judgeCauses ch [.mass]]) (post := []) ?_ ?_
    (fun f hf t ht => ?_) (fun t ht => ht.reported (reportClose_reported t)) fun f hf t ht => ht.then_kinds (hothers f hf t).1
  · rw [List.append_assoc]
    exact closeEffects_perm ch entered
  · rw [onlyIf_takeEnvelope_frame]
    exact ⟨.of_events rfl, by constructor <;> rfl, rfl⟩
  · obtain ⟨hkinds, hinputs, hest⟩ := hothers f hf t
    exact ⟨ht.kinds.trans hkinds, ht.inputs.trans hinputs, hest.trans ht.est⟩

/-! ### The governor -/

/-- R80, R81: E_held, E_new and the rise counter. -/
structure GovTerms (g h : Governor) : Prop where
  eHeld : g.eHeld = h.eHeld
  eNew : g.eNew = h.eNew
  rise : g.rise = h.rise

theorem GovStands.terms {s t : State} (h : GovStands s t) (hweigh : s.weigh.state ≠ .armed) : GovTerms t.gov s.gov := by
  obtain ⟨hheld, hnew, hrise⟩ := h.gov (.inr hweigh)
  exact ⟨hheld, hnew, hrise⟩

theorem reportClose_govStands (s : State) : GovStands s (reportClose s) := by
  constructor <;> simp

theorem closeReaders_govStands {ch : Choice} {f : State → State} (hf : f ∈ closeReaders ch) (t : State) :
    GovStands t (f t) := by
  simp only [closeReaders, List.mem_cons, List.not_mem_nil, or_false] at hf
  rcases hf with rfl | rfl | rfl
  · exact sessionClose_govStands ch t
  · exact judgeCauses_govStands ch _ t
  · exact reportClose_govStands t

/-- R80: the hysteresis reads the terms alone. -/
theorem Governor.revolve_terms {g h : Governor} (hterms : GovTerms g h) (hyst e : Nat) :
    GovTerms (g.revolve hyst e) (h.revolve hyst e) := by
  unfold Governor.revolve
  rw [hterms.eHeld, hterms.rise]
  split_ifs <;> constructor <;> simp

/-- R81: at the revolution that brings VALID the terms are taken before the neighbours act, which leave them. -/
theorem neighboursAct_entered_gov {s : State} (hweigh : s.weigh.state ≠ .armed) (ch : Choice) :
    GovTerms (neighboursAct ch true s).gov (s.gov.enterValid s.envelopeNew) := by
  have hrun : GovStands (takeEnvelope true s) (neighboursAct ch true s) :=
    inTurn_keeps (GovStands (takeEnvelope true s)) (.refl _) fun f hf t ht => by
      refine ht.trans ?_
      rcases List.mem_append.mp ((closeEffects_perm ch true).mem_iff.mp hf) with hf | hf
      · rcases List.mem_pair.mp hf with rfl | rfl
        · exact judgeLive_govStands _ t
        · exact recompose_govStands t
      · exact closeReaders_govStands hf t
  exact hrun.terms hweigh

/-- R80: at any other VALID revolution the hysteresis is applied once, whatever the order. -/
theorem neighboursAct_revolved_gov {s : State} (hweigh : s.weigh.state ≠ .armed) (ch : Choice) :
    GovTerms (neighboursAct ch false s).gov (s.gov.revolve s.spin.hystRevs s.envelopeNew) := by
  have hinputs : ∀ f ∈ closeReaders ch, ∀ t, SameInputs t (f t) := fun f hf t =>
    (closeEffects_inputs ((closeEffects_perm ch false).mem_iff.mpr (List.mem_append_right _ hf)) t).1
  have hrun := inTurn_once (fs := closeEffects ch false) (pre := []) (post := closeReaders ch) (g := governorClose false)
    (s := s) (fun t => GovStands s t ∧ SameInputs s t)
    (fun t => t.weigh.state ≠ .armed ∧ GovTerms t.gov (s.gov.revolve s.spin.hystRevs s.envelopeNew))
    (closeEffects_perm ch false) ⟨.refl s, .refl s⟩
    (fun f hf t ⟨hgov, hsame⟩ => ⟨hgov.trans (closeReaders_govStands hf t), hsame.trans (hinputs f hf t)⟩)
    (fun t ⟨hgov, hsame⟩ => ?_) (fun f hf t ⟨hunarmed, hterms⟩ => ?_)
  · exact hrun.2
  · obtain ⟨hweigh', hclass⟩ := hgov.weigh hweigh
    have hunarmed : t.weigh.state ≠ .armed := by rwa [hweigh']
    have henvelope : t.envelopeNew = s.envelopeNew := by
      rw [State.envelopeNew, hsame.tables, hclass, hgov.est]
      rfl
    have hcomposed := (recompose_govStands (takeEnvelope false t)).terms hunarmed
    have hrevolved : GovTerms (takeEnvelope false t).gov (s.gov.revolve s.spin.hystRevs s.envelopeNew) := by
      have := Governor.revolve_terms (hgov.terms hweigh) s.spin.hystRevs s.envelopeNew
      rw [takeEnvelope, henvelope, hsame.spin]
      exact this
    exact ⟨by simpa using hunarmed, hcomposed.eHeld.trans hrevolved.eHeld, hcomposed.eNew.trans hrevolved.eNew,
      hcomposed.rise.trans hrevolved.rise⟩
  · have hreader := closeReaders_govStands hf t
    have hterms' := hreader.terms hunarmed
    exact ⟨by rwa [(hreader.weigh hunarmed).1], hterms'.eHeld.trans hterms.eHeld, hterms'.eNew.trans hterms.eNew,
      hterms'.rise.trans hterms.rise⟩

end Sys2Proof.Machine
end


section
/-! SUPPORT. A counted revolution in the session: the dwell end, the counts and the judging in CLIMB. -/

namespace Sys2Proof.Machine
open Sys2Proof.Safety

/-! ### What the dwell end reads -/

/-- R102 to R108: two states in which the dwell end does the same to the session. -/
structure DwellLike (s t : State) : Prop where
  inputs : SameInputs s t
  est : t.est = s.est
  session : t.session = s.session
  contents : t.ring.contents = s.ring.contents
  available : t.ring.available = s.ring.available
  latch : t.trip.latch = s.trip.latch

namespace DwellLike

variable {s t u : State}

theorem refl (s : State) : DwellLike s s := ⟨.refl s, rfl, rfl, rfl, rfl, rfl⟩

theorem trans (h : DwellLike s t) (h' : DwellLike t u) : DwellLike s u :=
  ⟨h.inputs.trans h'.inputs, h'.est.trans h.est, h'.session.trans h.session, h'.contents.trans h.contents,
    h'.available.trans h.available, h'.latch.trans h.latch⟩

theorem withSession (h : DwellLike s t) (x : Session) :
    DwellLike { s with session := x } { t with session := x } where
  inputs := .trans (t := s) (by constructor <;> rfl) (h.inputs.trans (by constructor <;> rfl))
  est := h.est
  session := rfl
  contents := h.contents
  available := h.available
  latch := h.latch

theorem recordDwellU (h : DwellLike s t) (e : Fin 6) : DwellLike (recordDwellU e s) (recordDwellU e t) := by
  have hsame : Machine.recordDwellU e t = { t with session := (Machine.recordDwellU e s).session } := by
    simp only [Machine.recordDwellU, h.session, h.est]
  rw [hsame]
  exact h.withSession _

theorem currentPlateau (h : DwellLike s t) : t.currentPlateau = s.currentPlateau :=
  currentPlateau_congr h.inputs.tables h.inputs.requested (by rw [h.session])

theorem indexSpeed (h : DwellLike s t) : t.indexSpeed = s.indexSpeed := congrArg Tracker.indexSpeed h.inputs.tracker

theorem speedBelow (h : DwellLike s t) (n : Nat) : t.speedBelow n = s.speedBelow n :=
  speedBelow_congr h.inputs.tracker h.inputs.drive h.inputs.silence n

theorem correctionPlan (h : DwellLike s t) (e : Fin 6) : correctionPlan t e = correctionPlan s e := by
  have hrotated : rotated t = rotated s := by simp only [rotated, h.inputs.tables, h.est]
  have hfree : freeSpace t = freeSpace s := funext fun c => by simp only [freeSpace, h.inputs.spin, h.contents]
  have hcandidate : isCandidate t = isCandidate s := by
    funext v c
    rw [isCandidate, isCandidate, hfree, h.inputs.spin]
  have hchoose : chooseChamber t = chooseChamber s := by
    funext v
    rw [chooseChamber, chooseChamber, hcandidate]
  have hgrams : requestedGrams t = requestedGrams s := by
    funext cap v c
    rw [requestedGrams, requestedGrams, hfree, h.inputs.tables, h.est]
  have hplan : planCorrection t = planCorrection s := by
    funext cap
    rw [planCorrection, planCorrection, hrotated, hchoose, hgrams]
  rw [Machine.correctionPlan, Machine.correctionPlan, hplan, h.session, h.available, h.inputs.tables]

end DwellLike

/-! ### The dwell end in the session -/

/-- R104, R124: with the ring AVAILABLE, the angle valid and the latch clear the injection is not refused. -/
theorem enterCorrect_session {s : State} (havailable : s.ring.available = true) (hangle : s.angleValid = true)
    (hlatch : s.trip.latch = false) (ch : Choice) (e : Fin 6) (c : Fin 4) (w : Nat) :
    (enterCorrect ch e c w s).session = { s.session with
      state := .correct, corrections := addCorrection (newCorrection s e c w) s.session.corrections } := by
  have hstarts : (correctEntered ch e c w s).ringRefuses = false := by
    simp only [State.angleValid] at hangle
    simp [State.ringRefuses, correctEntered, State.angleValid, havailable, hlatch, hangle]
  rw [enterCorrect_eq, requestInjection_starts hstarts]
  rfl

theorem correctionPlan_available {s : State} {e : Fin 6} {plan : Fin 4 × Nat} (h : correctionPlan s e = some plan) :
    s.ring.available = true := by
  unfold correctionPlan at h
  split at h
  · next hmay => exact hmay.2.2
  · cases h

/-- R103, R110, R112: what a failure leaves in the session. -/
theorem plateauFails_session (ch : Choice) (e : Fin 6) (s : State) :
    (plateauFails ch e s).session =
      if s.session.redist < s.spin.maxRedist then
        if s.speedBelow s.spin.retainSpeed then
          { s.session with
            state := .idle
            progress := mapAll (fun p => { p with passed := false }) s.session.progress
            failed := none, dwell := 0, settle := 0, redist := s.session.redist + 1 }
        else { s.session with state := .holdDown, failed := some e }
      else { s.session with state := .limited, failed := some e } := by
  by_cases hredist : s.session.redist < s.spin.maxRedist
  · rw [if_pos hredist]
    cases hspeed : s.speedBelow s.spin.retainSpeed with
    | true => exact plateauFails_idle hredist hspeed
    | false =>
      rw [plateauFails_holdDown hredist hspeed]
      simp
  · rw [if_neg hredist, plateauFails_limited (by omega)]
    simp

theorem enterClimbOrOpen_session_congr {s t : State} (h : DwellLike s t) (ch : Choice) (e : Fin 6) :
    (enterClimbOrOpen ch (markPassed e t)).session = (enterClimbOrOpen ch (markPassed e s)).session := by
  obtain ⟨hsession, htables, htracker⟩ := markPassed_kept e s
  obtain ⟨hsession', htables', htracker'⟩ := markPassed_kept e t
  have hsame : (markPassed e t).session = (markPassed e s).session := by rw [hsession, hsession', h.session]
  have hplateau : (markPassed e t).currentPlateau = (markPassed e s).currentPlateau :=
    currentPlateau_congr (by rw [htables, htables', h.inputs.tables])
      (by simpa [markPassed] using h.inputs.requested) (by rw [hsame])
  have hspeed : (markPassed e t).indexSpeed = (markPassed e s).indexSpeed :=
    congrArg Tracker.indexSpeed (by rw [htracker, htracker', h.inputs.tracker])
  rw [enterClimbOrOpen_session, enterClimbOrOpen_session, hplateau, hspeed, hsame, htables, htables', h.inputs.tables]

/-- R102 to R112: the dwell end does the same to the session wherever it finds the same. -/
theorem dwellEnd_session_congr {s t : State} (h : DwellLike s t) (hangle : s.angleValid = true)
    (hlatch : s.trip.latch = false) (ch : Choice) (e : Fin 6) :
    (dwellEnd ch e t).session = (dwellEnd ch e s).session := by
  have hrecorded := h.recordDwellU e
  have hiff : t.est.u ≤ plateauPass t.tables e ↔ s.est.u ≤ plateauPass s.tables e := by rw [h.est, h.inputs.tables]
  by_cases hpass : s.est.u ≤ plateauPass s.tables e
  · rw [dwellEnd_passes hpass, dwellEnd_passes (hiff.mpr hpass), plateauPasses_eq, plateauPasses_eq]
    exact enterClimbOrOpen_session_congr hrecorded ch e
  · have hplans := hrecorded.correctionPlan e
    cases hplan : correctionPlan (recordDwellU e s) e with
    | some plan =>
      have havailable : s.ring.available = true := correctionPlan_available (s := recordDwellU e s) hplan
      have hangle' : t.angleValid = true := by
        rw [State.angleValid, h.inputs.tracker]
        exact hangle
      rw [dwellEnd_corrects hpass hplan, dwellEnd_corrects (mt hiff.mp hpass) (hplans.trans hplan),
        enterCorrect_session (s := recordDwellU e s) havailable hangle hlatch,
        enterCorrect_session (s := recordDwellU e t) (h.available.trans havailable) hangle' (h.latch.trans hlatch),
        hrecorded.session, newCorrection, newCorrection, hrecorded.est]
    | none =>
      rw [dwellEnd_fails hpass hplan, dwellEnd_fails (mt hiff.mp hpass) (hplans.trans hplan), plateauFails_session,
        plateauFails_session, hrecorded.session, hrecorded.inputs.spin, hrecorded.speedBelow]

/-- R102: a plateau that passes is marked. -/
theorem dwellEnd_passed {s : State} {e : Fin 6} (h : s.est.u ≤ plateauPass s.tables e) (ch : Choice) :
    (dwellEnd ch e s).session.progress[e].passed = true := by
  rw [dwellEnd_passes h, plateauPasses_eq, (enterClimbOrOpen_records _ _).1, (markPassed_kept _ _).1]
  simp

/-- R102, R103: above the pass limit DWELL is left and the plateau's mark stands clear. -/
theorem dwellEnd_above_session {s : State} {e : Fin 6} (h : ¬s.est.u ≤ plateauPass s.tables e)
    (hpassed : s.session.progress[e].passed = false) (hangle : s.angleValid = true) (hlatch : s.trip.latch = false)
    (ch : Choice) :
    (dwellEnd ch e s).session.progress[e].passed = false ∧ (dwellEnd ch e s).session.state ≠ .dwell := by
  have hrecorded : (recordDwellU e s).session.progress[e].passed = false := by
    simpa [recordDwellU] using hpassed
  cases hplan : correctionPlan (recordDwellU e s) e with
  | some plan =>
    rw [dwellEnd_corrects h hplan, enterCorrect_session (correctionPlan_available hplan) hangle hlatch]
    exact ⟨hrecorded, nofun⟩
  | none =>
    rw [dwellEnd_fails h hplan, plateauFails_session]
    split_ifs
    · exact ⟨by simp [mapAll], nofun⟩
    · exact ⟨hrecorded, nofun⟩
    · exact ⟨hrecorded, nofun⟩

/-! ### The neighbours beside the session controller -/

/-- R102, R149: what the others of a counted VALID revolution leave to the session controller. -/
structure Beside (s t : State) : Prop where
  like : DwellLike s t
  latch : t.events.latch.getLsbD Kind.plateauPassed.number.val = s.events.latch.getLsbD Kind.plateauPassed.number.val
  count : t.events.counts[Kind.plateauPassed.number] = s.events.counts[Kind.plateauPassed.number]

theorem Beside.refl (s : State) : Beside s s := ⟨.refl s, rfl, rfl⟩

theorem Beside.trans {s t u : State} (h : Beside s t) (h' : Beside t u) : Beside s u :=
  ⟨h.like.trans h'.like, h'.latch.trans h.latch, h'.count.trans h.count⟩

theorem closeOthers_beside {entered : Bool} {f : State → State} (hf : f ∈ closeOthers entered) (ch : Choice) (t : State) :
    Beside t (f t) := by
  obtain ⟨hsession, hring, htrip⟩ := closeOthers_session hf t
  obtain ⟨hinputs, hest⟩ := closeEffects_inputs
    ((closeEffects_perm ch entered).mem_iff.mpr (List.mem_append_left (closeReaders ch) hf)) t
  have hkinds := closeOthers_kinds hf t
  exact ⟨⟨hinputs, hest, hsession, by rw [hring], by rw [hring], by rw [htrip]⟩, hkinds.latch _ (by decide),
    hkinds.counts _ (by decide)⟩

theorem reportClose_beside (t : State) : Beside t (reportClose t) := by
  refine ⟨⟨by constructor <;> simp, by simp, by simp, by simp, by simp, by simp⟩, ?_, ?_⟩ <;>
    (rw [reportClose_eq]; split_ifs <;> rfl)

/-- R101, R140: what the session controller made of a counted VALID revolution, from `v`, stands in `t`. -/
structure SessionDone (ch : Choice) (v t : State) : Prop where
  session : t.session = (sessionClose ch v).session
  latch : t.events.latch.getLsbD Kind.plateauPassed.number.val =
    (sessionClose ch v).events.latch.getLsbD Kind.plateauPassed.number.val
  count : t.events.counts[Kind.plateauPassed.number] = (sessionClose ch v).events.counts[Kind.plateauPassed.number]

theorem SessionDone.then_beside {ch : Choice} {v t u : State} (h : SessionDone ch v t) (h' : Beside t u) :
    SessionDone ch v u :=
  ⟨h'.like.session.trans h.session, h'.latch.trans h.latch, h'.count.trans h.count⟩

/-- R67, R101: with no MASS cause the session controller acts once, whatever the order, and the others leave it. -/
theorem neighboursAct_session {s : State} (hmass : ∀ x, s.limits.mass = some x → s.est.u ≤ x) (ch : Choice)
    (entered : Bool) : ∃ v, Beside s v ∧ SessionDone ch v (neighboursAct ch entered s) := by
  have hothers : ∀ f ∈ closeOthers entered ++ [judgeCauses ch [.mass], reportClose], ∀ t, SameInputs s t → t.est = s.est →
      Beside t (f t) := by
    intro f hf t hinputs hest
    rcases List.mem_append.mp hf with hf | hf
    · exact closeOthers_beside hf ch t
    · rcases List.mem_pair.mp hf with rfl | rfl
      · rw [judgeCauses_mass_quiet (by rw [hinputs.limits, hest]; exact hmass)]
        exact .refl t
      · exact reportClose_beside t
  have hstart : Beside s (onlyIf entered (takeEnvelope true) s) := by
    rw [onlyIf_takeEnvelope_frame]
    exact ⟨⟨by constructor <;> rfl, rfl, rfl, rfl, rfl, rfl⟩, rfl, rfl⟩
  have hrun := inTurn_once (fs := closeEffects ch entered) (s := onlyIf entered (takeEnvelope true) s)
    (pre := closeOthers entered) (post := [judgeCauses ch [.mass], reportClose]) (g := sessionClose ch) (Beside s)
    (fun t => SameInputs s t ∧ t.est = s.est ∧ ∃ v, Beside s v ∧ SessionDone ch v t)
    (closeEffects_perm ch entered) hstart
    (fun f hf t ht => ht.trans (hothers f hf t ht.like.inputs ht.like.est))
    (fun t ht => ⟨ht.like.inputs.trans (sessionClose_effects ch t).sameInputs, by simpa using ht.like.est, t, ht, rfl, rfl, rfl⟩)
    (fun f hf t ⟨hinputs, hest, v, hv, hdone⟩ => ?_)
  · exact hrun.2.2
  · have hbeside := hothers f hf t hinputs hest
    exact ⟨hinputs.trans hbeside.like.inputs, hbeside.like.est.trans hest, v, hv, hdone.then_beside hbeside⟩

/-! ### The close with no cause of a trip -/

/-- R47: in DWELL and SETTLE, with the lid closed, the users of the speed leave all but the ring's lead, VALVE and bleed. -/
theorem closing_still {s : State} (hstate : s.session.state = .dwell ∨ s.session.state = .settle)
    (hlid : s.lid.debounced = true) (ch : Choice) : DwellLike s (closing ch s) := by
  have hlead : DwellLike s (updateLead s) := by
    unfold updateLead
    split
    · exact ⟨by constructor <;> rfl, rfl, rfl, rfl, rfl, rfl⟩
    · exact .refl s
  refine inOrder_keeps (DwellLike s) hlead fun f hf t ht => ?_
  simp only [List.mem_cons, List.not_mem_nil, or_false] at hf
  rcases hf with rfl | rfl | rfl
  · have hclimb : climbCheck ch t = t :=
      climbCheck_of_not_climb ch (by rw [ht.session]; rcases hstate with h | h <;> simp [h])
    dsimp only
    rw [hclimb, retainCheck_other (by rw [ht.session]; rcases hstate with h | h <;> simp [h])
      (by rw [ht.session]; rcases hstate with h | h <;> simp [h])]
    exact ht
  · exact ht.trans ⟨by constructor <;> rfl, rfl, rfl, rfl, rfl, rfl⟩
  · rw [judgeCauses_one, judgeCause_false (causeHolds_lid_closed (by rw [ht.inputs.lid]; exact hlid))]
    exact ht

/-- R100: in CLIMB, with the lid closed, the index speed of the pulse is judged once. -/
theorem closing_climb {s : State} {e : Fin 6} (hstate : s.session.state = .climb) (he : s.currentPlateau = some e)
    (hlid : s.lid.debounced = true) (ch : Choice) :
    (closing ch s).session =
      if plateauSpeed s.tables e ≤ s.indexSpeed + 10 then { s.session with state := .dwell, dwell := 0, midRev := true }
      else s.session := by
  rw [closing, updateLead_frame]
  obtain ⟨v, hv, hsession, -⟩ := speedChanged_quiet (s := { s with ring := (updateLead s).ring })
    (causeHolds_lid_closed hlid) ch
  have hplateau : v.currentPlateau = some e :=
    (currentPlateau_congr hv.inputs.tables hv.inputs.requested (by rw [hv.session])).trans he
  have hspeed : v.indexSpeed = s.indexSpeed := congrArg Tracker.indexSpeed hv.inputs.tracker
  have hclimbed := climbCheck_session ch hplateau
  rw [hv.session, hv.inputs.tables, hspeed] at hclimbed
  simp only [hstate, true_and] at hclimbed
  have hstate' : (climbCheck ch v).session.state ≠ .holdDown ∧ (climbCheck ch v).session.state ≠ .rundown := by
    rw [hclimbed]
    split_ifs <;> simp [hstate]
  rw [hsession, retainCheck_other hstate'.1 hstate'.2, hclimbed]

end Sys2Proof.Machine
end


section
/-! SUPPORT. The counted revolution: a pulse that closes it, and its statement. -/

namespace Sys2Proof.Machine
open Sys2Proof.Safety

section

variable {s : State} {a : Accumulation} (ch : Choice)

/-! ### The two ends of a counted close -/

theorem counted_closing_est : (counted a (closing ch s)).est = (counted a s).est := by
  rw [counted, counted, closing_est]
  exact countedClose_congr (closing_inputs ch s) a s.est

/-- R57: a counted revolution that leaves the estimator PRIMING is the estimator's alone. -/
theorem angleClosed_priming (hstate : s.est.state ≠ .invalid) (hacc : s.est.acc = some a) (hfull : 16 ≤ a.n)
    (h : (counted a s).est.state ≠ .valid) : angleClosed ch s = beginCounting (counted a (closing ch s)) := by
  have hest := closing_est ch s
  rw [angleClosed_eq, revolutionClose_counted (by rw [hest]; exact hstate) (by rw [hest]; exact hacc) hfull,
    if_neg (by rw [counted_closing_est]; exact h)]

/-- R67: of one that leaves it VALID the neighbours act. -/
theorem angleClosed_acting (hstate : s.est.state ≠ .invalid) (hacc : s.est.acc = some a) (hfull : 16 ≤ a.n)
    (h : (counted a s).est.state = .valid) :
    angleClosed ch s = beginCounting (neighboursAct ch (s.est.state != .valid) (counted a (closing ch s))) := by
  have hest := closing_est ch s
  rw [angleClosed_eq, revolutionClose_counted (by rw [hest]; exact hstate) (by rw [hest]; exact hacc) hfull,
    if_pos (by rw [counted_closing_est]; exact h), hest]

/-! ### The report -/

theorem counted_closing_before : BeforeReport tripKinds (counted a s) (counted a (closing ch s)) where
  kinds := (KindsStand.after (s := counted a s) (closing_kinds ch s)).trans (.of_events rfl)
  inputs := .trans (t := s) (by constructor <;> rfl) ((closing_inputs ch s).trans (by constructor <;> rfl))
  est := counted_closing_est ch

/-- R155: no report is made of a revolution that leaves the estimator PRIMING. -/
theorem angleClosed_unreported (hstate : s.est.state ≠ .invalid) (hacc : s.est.acc = some a) (hfull : 16 ≤ a.n)
    (h : (counted a s).est.state ≠ .valid) : KindsStand tripKinds s (angleClosed ch s) := by
  rw [angleClosed_priming ch hstate hacc hfull h]
  exact (closing_kinds ch s).trans (.of_events rfl)

/-- R155: one that leaves it VALID advances the revolution number, and by the count a report is made. -/
theorem angleClosed_reported (hstate : s.est.state ≠ .invalid) (hacc : s.est.acc = some a) (hfull : 16 ≤ a.n)
    (h : (counted a s).est.state = .valid) : Reported (counted a s) (angleClosed ch s) := by
  rw [angleClosed_acting ch hstate hacc hfull h]
  exact ((counted_closing_before ch).reported (neighboursAct_reported ch _ _)).then_kinds (K := []) (.of_events rfl)

/-! ### The governor -/

/-- R80, R81: a revolution that leaves the estimator PRIMING moves no term of the governor. -/
theorem angleClosed_gov_stands (hstate : s.est.state ≠ .invalid) (hacc : s.est.acc = some a) (hfull : 16 ≤ a.n)
    (h : (counted a s).est.state ≠ .valid) (hweigh : s.weigh.state ≠ .armed) :
    GovTerms (angleClosed ch s).gov s.gov := by
  rw [angleClosed_priming ch hstate hacc hfull h]
  exact (closing_govStands ch s).terms hweigh

/-- R80, R81: a revolution that leaves it VALID: the terms taken at once, or by the hysteresis. -/
theorem angleClosed_gov_takes (hstate : s.est.state ≠ .invalid) (hacc : s.est.acc = some a) (hfull : 16 ≤ a.n)
    (h : (counted a s).est.state = .valid) (hweigh : s.weigh.state ≠ .armed) :
    GovTerms (angleClosed ch s).gov
      (if s.est.state = .valid then s.gov.revolve s.spin.hystRevs (counted a s).envelopeNew
        else s.gov.enterValid (counted a s).envelopeNew) := by
  have hterms := (closing_govStands ch s).terms hweigh
  obtain ⟨hweigh', hclass⟩ := (closing_govStands ch s).weigh hweigh
  have hunarmed : (counted a (closing ch s)).weigh.state ≠ .armed := by
    rw [← hweigh'] at hweigh
    exact hweigh
  have henvelope : (counted a (closing ch s)).envelopeNew = (counted a s).envelopeNew := by
    rw [State.envelopeNew, counted_closing_est]
    show envelopeCeiling (closing ch s).tables.envelope (closing ch s).loadClass _ = _
    rw [(closing_inputs ch s).tables, hclass]
    rfl
  rw [angleClosed_acting ch hstate hacc hfull h]
  by_cases hvalid : s.est.state = .valid
  · rw [if_pos hvalid, hvalid]
    obtain ⟨hheld, hnew, hrise⟩ := neighboursAct_revolved_gov hunarmed ch
    obtain ⟨hheld', hnew', hrise'⟩ :=
      Governor.revolve_terms hterms s.spin.hystRevs (counted a s).envelopeNew
    rw [henvelope, show (counted a (closing ch s)).spin = s.spin from (closing_inputs ch s).spin] at hheld hnew hrise
    exact ⟨hheld.trans hheld', hnew.trans hnew', hrise.trans hrise'⟩
  · rw [if_neg hvalid, show (s.est.state != .valid) = true from bne_iff_ne.mpr hvalid]
    obtain ⟨hheld, hnew, hrise⟩ := neighboursAct_entered_gov hunarmed ch
    rw [henvelope] at hheld hnew
    exact ⟨hheld, hnew, hrise⟩

/-! ### The session -/

/-- R101: the state that the session controller finds in DWELL and SETTLE is as at the pulse, the estimate taken. -/
theorem counted_closing_beside (hstate : s.session.state = .dwell ∨ s.session.state = .settle)
    (hlid : s.lid.debounced = true) : Beside (counted a s) (counted a (closing ch s)) := by
  have hstill := closing_still hstate hlid ch
  have hkinds := closing_kinds ch s
  exact ⟨⟨(counted_closing_before ch).inputs, counted_closing_est ch, hstill.session, hstill.contents, hstill.available,
    hstill.latch⟩, hkinds.latch _ (by decide), hkinds.counts _ (by decide)⟩

theorem angleClosed_session_priming (hstate : s.est.state ≠ .invalid) (hacc : s.est.acc = some a) (hfull : 16 ≤ a.n)
    (h : (counted a s).est.state ≠ .valid) :
    (angleClosed ch s).session = { (closing ch s).session with midRev := false } := by
  rw [angleClosed_priming ch hstate hacc hfull h]
  rfl

/-- R101, R140: of a revolution that leaves the estimator VALID, with no MASS cause, the session controller's part is
made once. -/
theorem angleClosed_session_acting (hstate : s.est.state ≠ .invalid) (hacc : s.est.acc = some a) (hfull : 16 ≤ a.n)
    (h : (counted a s).est.state = .valid) (hmass : ∀ x, s.limits.mass = some x → (counted a s).est.u ≤ x) :
    ∃ v t, Beside (counted a (closing ch s)) v ∧ SessionDone ch v t ∧ angleClosed ch s = beginCounting t := by
  obtain ⟨v, hv, hdone⟩ := neighboursAct_session (s := counted a (closing ch s))
    (by
      rw [counted_closing_est, show (counted a (closing ch s)).limits = s.limits from (closing_inputs ch s).limits]
      exact hmass) ch (s.est.state != .valid)
  exact ⟨v, _, hv, hdone, angleClosed_acting ch hstate hacc hfull h⟩

/-- R101: a revolution that does not count leaves DWELL and SETTLE as they are. -/
theorem angleClosed_session_uncounted (hstate : s.est.state ≠ .invalid) (hacc : s.est.acc = some a) (hfull : 16 ≤ a.n)
    (hmass : ∀ x, s.limits.mass = some x → (counted a s).est.u ≤ x) (hlid : s.lid.debounced = true)
    (hsession : s.session.state = .dwell ∨ s.session.state = .settle)
    (hcounts : ¬((counted a s).est.state = .valid ∧ s.session.midRev = false)) :
    (angleClosed ch s).session = { s.session with midRev := false } := by
  have hbeside := counted_closing_beside (a := a) ch hsession hlid
  by_cases hvalid : (counted a s).est.state = .valid
  · obtain ⟨v, t, hv, hdone, heq⟩ := angleClosed_session_acting ch hstate hacc hfull hvalid hmass
    have hvsession : v.session = s.session := (hbeside.trans hv).like.session
    have hmid : v.session.midRev = true := by
      rw [hvsession]
      simpa [hvalid] using hcounts
    rw [heq, beginCounting, hdone.session, sessionClose_other (.inl hmid), hvsession]
  · rw [angleClosed_session_priming ch hstate hacc hfull hvalid, show (closing ch s).session = s.session from
      hbeside.like.session]

/-- R101: a revolution that counts finds the session controller in a state as at the pulse, the estimate taken. -/
theorem angleClosed_session_counted (hstate : s.est.state ≠ .invalid) (hacc : s.est.acc = some a) (hfull : 16 ≤ a.n)
    (hmass : ∀ x, s.limits.mass = some x → (counted a s).est.u ≤ x) (hlid : s.lid.debounced = true)
    (hsession : s.session.state = .dwell ∨ s.session.state = .settle) (hvalid : (counted a s).est.state = .valid) :
    ∃ v t, Beside (counted a s) v ∧ SessionDone ch v t ∧ angleClosed ch s = beginCounting t := by
  obtain ⟨v, t, hv, hdone, heq⟩ := angleClosed_session_acting ch hstate hacc hfull hvalid hmass
  exact ⟨v, t, (counted_closing_beside ch hsession hlid).trans hv, hdone, heq⟩

section

variable {e : Fin 6}

theorem Beside.currentPlateau {v : State} (h : Beside (counted a s) v) (he : s.currentPlateau = some e) :
    v.currentPlateau = some e :=
  h.like.currentPlateau.trans he

/-- R101: below the plateau's number the dwell count advances and nothing else in the session does. -/
theorem angleClosed_dwell_below (hstate : s.est.state ≠ .invalid) (hacc : s.est.acc = some a) (hfull : 16 ≤ a.n)
    (hmass : ∀ x, s.limits.mass = some x → (counted a s).est.u ≤ x) (hlid : s.lid.debounced = true)
    (hdwell : s.session.state = .dwell) (hvalid : (counted a s).est.state = .valid) (hmid : s.session.midRev = false)
    (he : s.currentPlateau = some e) (hbelow : s.session.dwell + 1 < plateauDwell s.tables e) :
    (angleClosed ch s).session = { s.session with dwell := s.session.dwell + 1, midRev := false } := by
  obtain ⟨v, t, hv, hdone, heq⟩ := angleClosed_session_counted ch hstate hacc hfull hmass hlid (.inl hdwell) hvalid
  have hvsession : v.session = s.session := hv.like.session
  have hvtables : v.tables = s.tables := hv.like.inputs.tables
  rw [heq, beginCounting, hdone.session, sessionClose_dwell (by rw [hvsession]; exact hdwell)
    (by rw [hvsession]; exact hmid) (hv.currentPlateau he), hvtables, hvsession, if_neg (Nat.not_le.mpr hbelow)]

/-- R106: in SETTLE the settle count advances, and at the plateau's number DWELL is entered. -/
theorem angleClosed_settle (hstate : s.est.state ≠ .invalid) (hacc : s.est.acc = some a) (hfull : 16 ≤ a.n)
    (hmass : ∀ x, s.limits.mass = some x → (counted a s).est.u ≤ x) (hlid : s.lid.debounced = true)
    (hsettle : s.session.state = .settle) (hvalid : (counted a s).est.state = .valid) (hmid : s.session.midRev = false)
    (he : s.currentPlateau = some e) :
    (angleClosed ch s).session = { s.session with
      state := if plateauSettle s.tables e ≤ s.session.settle + 1 then .dwell else .settle
      dwell := if plateauSettle s.tables e ≤ s.session.settle + 1 then 0 else s.session.dwell
      settle := s.session.settle + 1, midRev := false } := by
  obtain ⟨v, t, hv, hdone, heq⟩ := angleClosed_session_counted ch hstate hacc hfull hmass hlid (.inr hsettle) hvalid
  have hvsession : v.session = s.session := hv.like.session
  have hvtables : v.tables = s.tables := hv.like.inputs.tables
  rw [heq, beginCounting, hdone.session, sessionClose_settle (by rw [hvsession]; exact hsettle)
    (by rw [hvsession]; exact hmid) (hv.currentPlateau he), hvtables, hvsession]
  split_ifs
  · rw [enterDwell_session]
  · simp [hsettle]

/-- R102: at the plateau's number the dwell end is judged, as in any state that it does not tell from the pulse's. -/
theorem angleClosed_dwell_end (hstate : s.est.state ≠ .invalid) (hacc : s.est.acc = some a) (hfull : 16 ≤ a.n)
    (hmass : ∀ x, s.limits.mass = some x → (counted a s).est.u ≤ x) (hlid : s.lid.debounced = true)
    (hdwell : s.session.state = .dwell) (hvalid : (counted a s).est.state = .valid) (hmid : s.session.midRev = false)
    (he : s.currentPlateau = some e) (hreached : plateauDwell s.tables e ≤ s.session.dwell + 1) :
    ∃ w, DwellLike { counted a s with session := { s.session with dwell := s.session.dwell + 1 } } w ∧
      (angleClosed ch s).session = { (dwellEnd ch e w).session with midRev := false } ∧
      (LatchedOnce .plateauPassed w (dwellEnd ch e w) → LatchedOnce .plateauPassed s (angleClosed ch s)) ∧
      (KindsStand sessionKinds w (dwellEnd ch e w) → (angleClosed ch s).events.counts[Kind.plateauPassed.number] =
        s.events.counts[Kind.plateauPassed.number]) := by
  obtain ⟨v, t, hv, hdone, heq⟩ := angleClosed_session_counted ch hstate hacc hfull hmass hlid (.inl hdwell) hvalid
  have hvsession : v.session = s.session := hv.like.session
  have hclose : sessionClose ch v =
      dwellEnd ch e { v with session := { s.session with dwell := s.session.dwell + 1 } } := by
    rw [sessionClose_dwell (by rw [hvsession]; exact hdwell) (by rw [hvsession]; exact hmid) (hv.currentPlateau he),
      show v.tables = s.tables from hv.like.inputs.tables, hvsession, if_pos hreached]
  have hlatch : (angleClosed ch s).events.latch.getLsbD Kind.plateauPassed.number.val = _ :=
    (by rw [heq]; rfl : _ = t.events.latch.getLsbD _).trans hdone.latch
  have hcount : (angleClosed ch s).events.counts[Kind.plateauPassed.number] = _ :=
    (by rw [heq]; rfl : _ = t.events.counts[Kind.plateauPassed.number]).trans hdone.count
  rw [hclose] at hlatch hcount
  refine ⟨_, hv.like.withSession _, ?_, fun honce => ⟨hlatch.trans honce.latch, ?_⟩, fun hkinds => ?_⟩
  · rw [heq, beginCounting, hdone.session, hclose]
  · rw [hcount, honce.count]
    exact congrArg (· + 1) hv.count
  · rw [hcount, hkinds.counts _ (by decide)]
    exact hv.count

/-- R100: in CLIMB the new index speed may bring DWELL, whose count this revolution does not advance. -/
theorem angleClosed_climb (hstate : s.est.state ≠ .invalid) (hacc : s.est.acc = some a) (hfull : 16 ≤ a.n)
    (hmass : ∀ x, s.limits.mass = some x → (counted a s).est.u ≤ x) (hlid : s.lid.debounced = true)
    (hclimb : s.session.state = .climb) (he : s.currentPlateau = some e) :
    (angleClosed ch s).session = if plateauSpeed s.tables e ≤ s.indexSpeed + 10 then
        { s.session with state := .dwell, dwell := 0, midRev := false }
      else { s.session with midRev := false } := by
  have hsession := closing_climb hclimb he hlid ch
  have hquiet : (closing ch s).session.midRev = true ∨
      ((closing ch s).session.state ≠ .dwell ∧ (closing ch s).session.state ≠ .settle) := by
    rw [hsession]
    split_ifs
    · exact .inl rfl
    · exact .inr (by simp [hclimb])
  have hleaves : (angleClosed ch s).session = { (closing ch s).session with midRev := false } := by
    by_cases hvalid : (counted a s).est.state = .valid
    · obtain ⟨v, t, hv, hdone, heq⟩ := angleClosed_session_acting ch hstate hacc hfull hvalid hmass
      have hvsession : v.session = (closing ch s).session := hv.like.session
      rw [heq, beginCounting, hdone.session, sessionClose_other (by rw [hvsession]; exact hquiet), hvsession]
    · exact angleClosed_session_priming ch hstate hacc hfull hvalid
  rw [hleaves, hsession]
  split_ifs <;> rfl

end

end

end Sys2Proof.Machine
end


section
/-! SUPPORT. The statement of the counted revolution. -/

namespace Sys2Proof.Machine
open Sys2Proof.Safety

/-! ### The hysteresis by cases -/

section

variable {g : Governor} {hyst e : Nat}

theorem Governor.revolve_eNew : (g.revolve hyst e).eNew = e := by
  unfold Governor.revolve
  split_ifs <;> rfl

/-- R80: an envelope ceiling that is not above the one held is held at once. -/
theorem Governor.revolve_of_le (h : e ≤ g.eHeld) : (g.revolve hyst e).eHeld = e ∧ (g.revolve hyst e).rise = 0 := by
  rcases Nat.lt_or_eq_of_le h with hlt | heq
  · rw [Governor.revolve_of_lt hlt]
    exact ⟨rfl, rfl⟩
  · rw [Governor.revolve_of_eq heq]
    exact ⟨heq.symm, rfl⟩

end

/-- R16: a transmitting Port C whose local queue stands too is as it was. -/
theorem CarriesC.portC_eq {p : PortC} {t : State} (h : CarriesC p t) (hlocal : t.portC.localQ = p.localQ) :
    t.portC = p := by
  obtain ⟨-, hsending, hseq, hmark, hforwarded⟩ := h
  calc t.portC = ⟨t.portC.forwardedQ, t.portC.localQ, t.portC.seq, t.portC.sending, t.portC.mark⟩ := rfl
    _ = p := by rw [hforwarded, hlocal, hseq, hsending, hmark]

section

variable {s : State} {a : Accumulation} (ch : Choice)

/-- R80, R81: the governor's terms after a counted revolution with no weighing ARMED. -/
theorem angleClosed_governor (hstate : s.est.state ≠ .invalid) (hacc : s.est.acc = some a) (hfull : 16 ≤ a.n)
    (hweigh : s.weigh.state ≠ .armed) :
    (let t := angleClosed ch s
     let e := envelopeCeiling s.tables.envelope s.loadClass t.est.u
     (t.est.state ≠ .valid → t.gov.eNew = s.gov.eNew ∧ t.gov.eHeld = s.gov.eHeld ∧ t.gov.rise = s.gov.rise) ∧
     (t.est.state = .valid → t.gov.eNew = e) ∧
     (t.est.state = .valid → (s.est.state = .priming ∨ e ≤ s.gov.eHeld) → t.gov.eHeld = e ∧ t.gov.rise = 0) ∧
     (s.est.state = .valid → s.gov.eHeld < e → s.gov.rise + 1 < s.spin.hystRevs →
      t.gov.eHeld = s.gov.eHeld ∧ t.gov.rise = s.gov.rise + 1) ∧
     (s.est.state = .valid → s.gov.eHeld < e → s.spin.hystRevs ≤ s.gov.rise + 1 →
      t.gov.eHeld = e ∧ t.gov.rise = 0)) := by
  dsimp only
  rw [angleClosed_counted_est hstate hacc hfull ch]
  have hkept : s.est.state = .valid → (counted a s).est.state = .valid := fun h => ((countedClose_state s a s.est).1 h).1
  refine ⟨fun h => ?_, fun h => ?_, fun h hor => ?_, fun h hlt hwaits => ?_, fun h hlt hrisen => ?_⟩
  · obtain ⟨hheld, hnew, hrise⟩ := angleClosed_gov_stands ch hstate hacc hfull h hweigh
    exact ⟨hnew, hheld, hrise⟩
  · rw [(angleClosed_gov_takes ch hstate hacc hfull h hweigh).eNew]
    split_ifs
    · exact Governor.revolve_eNew
    · rfl
  · obtain ⟨hheld, -, hrise⟩ := angleClosed_gov_takes ch hstate hacc hfull h hweigh
    rw [hheld, hrise]
    split_ifs with hvalid
    · exact Governor.revolve_of_le (hor.resolve_left (by simp [hvalid]))
    · exact ⟨rfl, rfl⟩
  · obtain ⟨hheld, -, hrise⟩ := angleClosed_gov_takes ch hstate hacc hfull (hkept h) hweigh
    rw [hheld, hrise, if_pos h, Governor.revolve_of_waiting (by exact hlt) hwaits]
    exact ⟨rfl, rfl⟩
  · obtain ⟨hheld, -, hrise⟩ := angleClosed_gov_takes ch hstate hacc hfull (hkept h) hweigh
    rw [hheld, hrise, if_pos h, Governor.revolve_of_risen (by exact hlt) hrisen]
    exact ⟨rfl, rfl⟩

/-- R155: the counts and the report after a counted revolution. -/
theorem angleClosed_reports (hangle : s.angleValid = true) (hstate : s.est.state ≠ .invalid) (hacc : s.est.acc = some a)
    (hfull : 16 ≤ a.n) :
    (let t := angleClosed ch s
     let every := s.service.reportEvery
     t.events.revNumber = s.events.revNumber + (if t.est.state = .valid then 1 else 0) ∧
      t.events.reportCount = (if t.est.state ≠ .valid then s.events.reportCount
        else if every ≤ s.events.reportCount + 1 then 0 else s.events.reportCount + 1) ∧
      (t.est.state = .valid → 0 < every → every ≤ s.events.reportCount + 1 → s.events.report = 0 →
        s.portC.sending ≠ none →
        ∃ f : QFrame, f.cls = 0x3F ∧ f.payload.length = 22 ∧
          f.payload.take 10 = be16 t.events.revNumber ++ be16 (BitVec.ofNat 16 t.indexSpeed) ++
            be16 (BitVec.ofInt 16 t.est.fx) ++ be16 (BitVec.ofInt 16 t.est.fy) ++ be16 (BitVec.ofNat 16 t.est.u) ∧
          t.portC.localQ = (if s.portC.localQ.any (fun g => g.cls == 0x3F) then
              replaceFirst (fun g => g.cls == 0x3F) f s.portC.localQ
            else if s.portC.localQ.length < 4 then s.portC.localQ ++ [f] else s.portC.localQ)) ∧
      ((t.est.state ≠ .valid ∨ every = 0 ∨ s.events.reportCount + 1 < every) → s.events.report = 0 →
        s.portC.sending ≠ none → t.portC = s.portC)) := by
  have heffects := angleClosed_effects ch hangle
  have hspeed : (angleClosed ch s).indexSpeed = s.indexSpeed := congrArg Tracker.indexSpeed heffects.sameInputs.tracker
  dsimp only
  rw [angleClosed_counted_est hstate hacc hfull ch, hspeed]
  by_cases h : (counted a s).est.state = .valid
  · have hreported := angleClosed_reported ch hstate hacc hfull h
    change (s.est.countedClose s a).state = .valid at h
    rw [if_pos h, if_neg (not_not_intro h)]
    refine ⟨hreported.revNumber, hreported.reportCount, fun _ hevery hdue hnone hbusy => ?_, fun hor hnone hbusy => ?_⟩
    · obtain ⟨f, hcls, hlength, htake, hlocal⟩ := (hreported.localQ hnone hbusy).2.1 ⟨hevery, hdue⟩
      rw [hreported.revNumber]
      exact ⟨f, hcls, hlength, htake, hlocal⟩
    · refine (heffects.carriesC (carriesC_self hbusy)).portC_eq ((hreported.localQ hnone hbusy).2.2 fun ⟨hevery, hdue⟩ => ?_)
      change 0 < s.service.reportEvery at hevery
      change s.service.reportEvery ≤ s.events.reportCount + 1 at hdue
      rcases hor with hor | hor | hor
      · exact hor h
      · omega
      · omega
  · have hkinds := angleClosed_unreported ch hstate hacc hfull h
    change ¬(s.est.countedClose s a).state = .valid at h
    rw [if_neg h, if_pos h]
    exact ⟨by simpa using hkinds.revNumber, hkinds.reportCount, fun hvalid => absurd hvalid h, fun _ hnone hbusy =>
      (heffects.carriesC (carriesC_self hbusy)).portC_eq (hkinds.localQ hnone hbusy).1⟩

/-- R102, R103: the dwell end that a counted revolution brings. -/
theorem angleClosed_dwellEnd {e : Fin 6} {q : State} (hangle : s.angleValid = true) (hlatch : s.trip.latch = false)
    (hstate : s.est.state ≠ .invalid) (hacc : s.est.acc = some a) (hfull : 16 ≤ a.n)
    (hmass : ∀ x, s.limits.mass = some x → (counted a s).est.u ≤ x) (hlid : s.lid.debounced = true)
    (hdwell : s.session.state = .dwell) (hvalid : (counted a s).est.state = .valid) (hmid : s.session.midRev = false)
    (he : s.currentPlateau = some e) (hreached : plateauDwell s.tables e ≤ s.session.dwell + 1)
    (hq : DwellLike q { counted a s with session := { s.session with dwell := s.session.dwell + 1 } }) :
    (angleClosed ch s).session = { (dwellEnd ch e q).session with midRev := false } ∧
      (angleClosed ch s).session.progress[e].uLast = (counted a s).est.u ∧
      ((counted a s).est.u ≤ plateauPass s.tables e →
        (angleClosed ch s).session.progress[e].passed = true ∧ LatchedOnce .plateauPassed s (angleClosed ch s)) ∧
      (plateauPass s.tables e < (counted a s).est.u →
        (angleClosed ch s).session.progress[e].passed = s.session.progress[e].passed ∧
          (angleClosed ch s).session.state ≠ .dwell ∧
          (angleClosed ch s).events.counts[Kind.plateauPassed.number] = s.events.counts[Kind.plateauPassed.number]) := by
  obtain ⟨w, hw, hsession, honce, hcount⟩ :=
    angleClosed_dwell_end ch hstate hacc hfull hmass hlid hdwell hvalid hmid he hreached
  have hqw := hq.trans hw
  have hqangle : q.angleValid = true := by
    rw [State.angleValid, ← hq.inputs.tracker]
    exact hangle
  have hqlatch : q.trip.latch = false := hq.latch.symm.trans hlatch
  have hwest : w.est = (counted a s).est := hw.est
  have hwtables : w.tables = s.tables := hw.inputs.tables
  have hpassed : w.session.progress[e].passed = false := by
    rw [hw.session]
    exact (currentPlateau_spec he).2
  refine ⟨?_, ?_, fun hpass => ?_, fun habove => ?_⟩
  · rw [hsession, dwellEnd_session_congr hqw hqangle hqlatch]
  · rw [hsession, ← hwest]
    exact dwellEnd_uLast ch e w
  · have hpass' : w.est.u ≤ plateauPass w.tables e := by rwa [hwest, hwtables]
    refine ⟨?_, honce ?_⟩
    · rw [hsession]
      exact dwellEnd_passed hpass' ch
    · rw [dwellEnd_passes hpass']
      exact (plateauPasses_once ch e _).after
  · have habove' : ¬w.est.u ≤ plateauPass w.tables e := by
      rw [hwest, hwtables]
      exact Nat.not_le.mpr habove
    have hwangle : w.angleValid = true := by
      rw [State.angleValid, hqw.inputs.tracker]
      exact hqangle
    obtain ⟨hfailed, hleft⟩ := dwellEnd_above_session habove' hpassed hwangle (hqw.latch.trans hqlatch) ch
    rw [hsession]
    exact ⟨hfailed.trans (currentPlateau_spec he).2.symm, hleft, hcount (dwellEnd_above_kinds habove' ch)⟩

end

/-- R102: what the dwell end reads is as at the pulse, but for the tracker, the estimate and the session. -/
theorem dwellLike_pulsed (m : Moment) (x : Tracker) (s : State) (a : Accumulation) (y : Session) :
    DwellLike { tick m s with tracker := x, est := (counted a (pulsed m x s)).est, session := y }
      { counted a (pulsed m x s) with session := y } :=
  ⟨by constructor <;> rfl, rfl, rfl, rfl, rfl, rfl⟩

/-- Settles O29: the estimate is `countedClose`; the report, the governor and the session controller each act once,
whatever the order, on what the others leave them. -/
theorem countedRevolution : Obligations.CountedRevolution := by
  intro m s since p a hheld hlocked hlast hperiod hmin hmax hmatch hest hacc hfull hpriming
  refine ⟨_, exec_indexPulse hheld (Tracker.pulse_closed hlocked hlast hperiod hmin hmax hmatch), ?_⟩
  rw [handPulse]
  generalize (if mismatches s.driveSpeed (60000000 / elapsed (s.now + m.elapsed) since) then
    s.tracker.mismatch + 1 else 0) = k
  generalize elapsed (s.now + m.elapsed) since = d
  let x : Tracker := { state := .locked, lastIndex := some (s.now + m.elapsed), period := some d, mismatch := k }
  have hangle : (pulsed m x s).angleValid = true := rfl
  have htracker : (angleClosed m.choice (pulsed m x s)).tracker = x := (angleClosed_inputs m.choice hangle).tracker
  have hspeed : (angleClosed m.choice (pulsed m x s)).indexSpeed = (pulsed m x s).indexSpeed :=
    congrArg Tracker.indexSpeed htracker
  have hnew : (angleClosed m.choice (pulsed m x s)).est = (counted a (pulsed m x s)).est :=
    angleClosed_counted_est (s := pulsed m x s) hest hacc hfull m.choice
  obtain ⟨hfx, hfy, hm16, hband, hu, hseed, hopened, hthin⟩ := countedClose_fields (pulsed m x s) a s.est
  have hspeedBand : bandOf (pulsed m x s).indexSpeed = min 31 (60000000 / d / 40) := by
    rw [bandOf, Int.natAbs_natCast, show (pulsed m x s).indexSpeed = measuredSpeed d from rfl, measuredSpeed]
  rw [hspeedBand] at hband hu
  obtain ⟨hvalid, hprimed⟩ := countedClose_state (pulsed m x s) a s.est
  obtain ⟨hrev, hreports⟩ := angleClosed_reports (s := pulsed m x s) m.choice hangle hest hacc hfull
  have hgov := angleClosed_governor (s := pulsed m x s) m.choice hest hacc hfull
  refine ⟨htracker, ?_, ?_, ?_, ?_, ?_, ?_, hrev, hgov, ?_, hreports⟩
  · rw [hnew]
    exact ⟨hfx, hfy, hm16, hband, hu⟩
  · rw [hnew]
    exact hseed
  · rw [hnew]
    exact hopened
  · rw [hnew]
    exact hthin
  · rw [hnew]
    exact hvalid
  · rw [hnew]
    exact hprimed
  · intro hlatch hlid hmass e he
    rw [hnew] at hmass
    have he' : (pulsed m x s).currentPlateau = some e := (currentPlateau_congr rfl rfl rfl).trans he
    dsimp only
    rw [hnew, hspeed]
    have huncounted (hsession : s.session.state = .dwell ∨ s.session.state = .settle) :=
      angleClosed_session_uncounted (s := pulsed m x s) m.choice hest hacc hfull hmass hlid hsession
    refine ⟨fun hdwell hcounts => ?_, fun hdwell hcounts hbelow => ?_, fun hdwell hcounts hreached => ?_,
      fun hsettle hcounts => ?_, fun hsettle hcounts => ?_, fun hclimb => ?_⟩
    · exact huncounted (.inl hdwell) (of_decide_eq_false hcounts)
    · obtain ⟨hnow, hmid⟩ := of_decide_eq_true hcounts
      exact angleClosed_dwell_below (s := pulsed m x s) m.choice hest hacc hfull hmass hlid hdwell hnow hmid he' hbelow
    · obtain ⟨hnow, hmid⟩ := of_decide_eq_true hcounts
      rw [htracker]
      obtain ⟨hsession, huLast, hpass, habove⟩ := angleClosed_dwellEnd (s := pulsed m x s)
        m.choice hangle hlatch hest hacc hfull hmass hlid hdwell hnow hmid he' hreached
        (dwellLike_pulsed m x s a { s.session with dwell := s.session.dwell + 1 })
      exact ⟨hsession, huLast, fun h => ⟨(hpass h).1, (hpass h).2.latch, (hpass h).2.count⟩, habove⟩
    · exact huncounted (.inr hsettle) (of_decide_eq_false hcounts)
    · obtain ⟨hnow, hmid⟩ := of_decide_eq_true hcounts
      exact angleClosed_settle (s := pulsed m x s) m.choice hest hacc hfull hmass hlid hsettle hnow hmid he'
    · exact angleClosed_climb (s := pulsed m x s) m.choice hest hacc hfull hmass hlid hclimb he'

end Sys2Proof.Machine
end
